-- ==== Sys2Proof/Word.lean ====
section
/-! DEFINITION. The word types of the part and the plain operations on them: bytes, Ethernet addresses, the
numbers of taps, trackers, channels and profiles, and indexed stores of a fixed
size. -/

namespace Sys2Proof

/-- One byte of a frame. -/
abbrev Byte := BitVec 8

/-- A run of bytes of a frame, first byte first. -/
abbrev Bytes := List Byte

/-- A 48-bit Ethernet address. -/
abbrev Mac := BitVec 48

/-- A measurement point: taps are numbered 0 to 7. -/
abbrev TapId := Fin 8

/-- One of the two bus timebases, numbered 0 and 1. -/
abbrev TrackerId := Fin 2

/-- One value position of a sample set: channels are numbered 0 to 47. -/
abbrev Channel := Fin 48

/-- A profile code: the part knows eight profiles and no others (chapter 2). -/
abbrev ProfileCode := Fin 8

/-- A tariff, 0 to 3. -/
abbrev Tariff := Fin 4

/-- The values of all 48 channels of one sample set. -/
abbrev ChannelValues := Vector Int 48

/-- The taps in ascending order, the order in which the part works through them. -/
def allTaps : List TapId := [0, 1, 2, 3, 4, 5, 6, 7]

/-- `v` with the element at `i` replaced by `x`. -/
def upd {α : Type} {n : Nat} (v : Vector α n) (i : Fin n) (x : α) : Vector α n :=
  v.set i.val x i.isLt

/-- `v` with `f` applied to the element at `i`. -/
def modAt {α : Type} {n : Nat} (v : Vector α n) (i : Fin n) (f : α → α) : Vector α n :=
  upd v i (f v[i])

/-- Every element of `v` changed by `f`. -/
def mapVec {α β : Type} {n : Nat} (f : α → β) (v : Vector α n) : Vector β n :=
  Vector.ofFn fun i => f v[i]

@[simp] theorem getElem_upd {α : Type} {n : Nat} (v : Vector α n) (i j : Fin n) (x : α) :
    (upd v i x)[j] = if i = j then x else v[j] := by
  simp [upd, Vector.getElem_set, Fin.ext_iff]

@[simp] theorem getElem_modAt {α : Type} {n : Nat} (v : Vector α n) (i j : Fin n) (f : α → α) :
    (modAt v i f)[j] = if i = j then f v[j] else v[j] := by
  unfold modAt
  rw [getElem_upd]
  split
  · next h => subst h; rfl
  · rfl

@[simp] theorem getElem_mapVec {α β : Type} {n : Nat} (f : α → β) (v : Vector α n) (i : Fin n) :
    (mapVec f v)[i] = f v[i] := by
  simp [mapVec]

@[simp] theorem getElem_ofFn_fin {α : Type} {n : Nat} (f : Fin n → α) (i : Fin n) :
    (Vector.ofFn f)[i] = f i := by
  simp

end Sys2Proof
end

