-- ==== Sys2Proof/Syntax.lean ====
section
/-! DEFINITION. The commands of the part: one constructor for each row of spec/opcode_table.json, with the
operands that the row's event brings from outside the part. -/

namespace Sys2Proof

/-- The two Ethernet ports: A faces the acquisition concentrator, B the station network. -/
inductive Port where
  | a
  | b
  deriving DecidableEq, Repr

/-- The frequency strap: nominal frequency 50 Hz or 60 Hz. -/
inductive NominalFrequency where
  | hz50
  | hz60
  deriving DecidableEq, Repr

/-- A frame at its reception end (R1): every byte from the first destination-address byte to the last FCS byte, and
the verdict of the port's physical receiver on the FCS, which R1 takes as given with the frame. -/
structure RxFrame where
  bytes : Bytes
  fcsGood : Bool
  deriving DecidableEq, Repr

/-- The commands: the steps of spec/opcode_table.json, in its order.

An event from outside carries what it brings (the straps, the port, the received frame, the tracker whose count is
reached). The nineteen request rows carry no operand of their own: a request reaches the part as a REQUEST frame
(`receptionEnd .b`), is taken into service under R158, and the row is the event at which the owning block serves
the request in service, with the fields of its body. -/
inductive Instr where
  /-- Power is applied, with the straps as they are read (R16). -/
  | powerOn (station : BitVec 6) (frequency : NominalFrequency)
  /-- The reset line is asserted (R170). -/
  | pinReset
  /-- The reset line is released (R170). -/
  | pinResetRelease
  /-- The physical link of a port is established (R2). -/
  | linkUp (port : Port)
  /-- The physical link of a port is lost (R2). -/
  | linkDown (port : Port)
  /-- The last FCS byte of a frame has arrived on a port (R1). -/
  | receptionEnd (port : Port) (frame : RxFrame)
  /-- A port's transmission reaches its normal end (R3). -/
  | transmissionEnd (port : Port)
  /-- The 10 ms offer timer expires (R19). -/
  | offerTimerExpiry
  /-- The 500 ms acknowledge timer expires (R23). -/
  | acknowledgeTimerExpiry
  /-- The 100 ms pause timer expires (R24). -/
  | pauseTimerExpiry
  /-- The silence timer expires (R56). -/
  | silenceTimerExpiry
  /-- The crossing age of a tracker reaches twice the nominal period (R73). -/
  | noCrossing (tracker : TrackerId)
  /-- The timeout count of a tracker's pending handover reaches 64 (R86). -/
  | handoverTimeout (tracker : TrackerId)
  /-- The holdover count of a tracker reaches its holdover limit (R74). -/
  | holdoverLimit (tracker : TrackerId)
  /-- The IDLE engine takes the oldest job (R110). -/
  | engineTake
  /-- The job in flight completes (R118). -/
  | jobCompletion
  /-- READ STATUS in service is served (R164). -/
  | readStatus
  /-- WRITE CHANNELS in service is served (R36). -/
  | writeChannels
  /-- WRITE TAP in service is served (R39). -/
  | writeTap
  /-- READ TAP in service is served (R42). -/
  | readTap
  /-- WRITE GROUPS in service is served (R44). -/
  | writeGroups
  /-- WRITE CORRECTION in service is served, or begins its wait for the job in flight (R45). -/
  | writeCorrection
  /-- WRITE TRACKER in service is served (R47). -/
  | writeTracker
  /-- HANDOVER with action START in service is served (R82). -/
  | handoverStart
  /-- HANDOVER with action CANCEL in service is served (R87). -/
  | handoverCancel
  /-- SET TARIFF in service is served (R98). -/
  | setTariff
  /-- SET CONSTANT in service is served (R138). -/
  | setConstant
  /-- READ REGISTERS in service is served (R141). -/
  | readRegisters
  /-- RESTORE in service is served (R139). -/
  | restore
  /-- CLEAR in service is served (R140). -/
  | clear
  /-- READ RECORD in service is served (R150). -/
  | readRecord
  /-- READ SPECTRUM in service is served (R122). -/
  | readSpectrum
  /-- SET AGREEMENT in service is served (R32). -/
  | setAgreement
  /-- SET STATION in service is served (R167). -/
  | setStation
  /-- RESET in service is served (R169). -/
  | reset
  deriving DecidableEq, Repr

end Sys2Proof
end

