-- ==== Sys2Proof/Config.lean ====
section
/-! DEFINITION. What is fixed in the part (capacities and times) and the two orders that the
manual leaves open, as opaque choices with no body. -/

namespace Sys2Proof.Config

/-- Frames held by the forward queue (R8). -/
def forwardCapacity : Nat := 32
/-- Frames held by the relay queue (R9). -/
def relayCapacity : Nat := 8
/-- Notices held by the notice queue (R15, R168). -/
def noticeCapacity : Nat := 8
/-- Requests held by the request queue (R157). -/
def requestCapacity : Nat := 4
/-- Jobs held by the cycle queue (R109). -/
def cycleQueueCapacity : Nat := 16
/-- Records held by the block record ring (R149). -/
def ringCapacity : Nat := 64
/-- Shortest and longest frame, FCS included (R1). -/
def minFrameLength : Nat := 64
def maxFrameLength : Nat := 1522
/-- The Ethernet type value of the stream protocol. -/
def streamType : Nat := 0x9A4E
/-- The three agreement timers, in milliseconds (R19, R23, R24). -/
def offerTimerMs : Nat := 10
def acknowledgeTimerMs : Nat := 500
def pauseTimerMs : Nat := 100
/-- The adoption count at which a profile is adopted (R22). -/
def adoptionTarget : Nat := 200
/-- The timeout count at which a pending handover is dropped (R86). -/
def handoverTimeoutCount : Nat := 64
/-- One past the largest register count: 10^12 (R124). -/
def countModulus : Nat := 1000000000000
/-- The largest rollover count (R124). -/
def rolloverMax : Nat := 15
/-- The largest register constant, 2^56 - 1 (R125). -/
def maxConstant : Nat := 2 ^ 56 - 1
/-- One cycle in units of the resampler's accumulator: 128 points of 65536 (R91). -/
def cycleUnits : Nat := 8388608

/-- The order of the two trackers' work at one input sample, where both run independently: "either may be taken
first" (R105, R109). True puts tracker 1 first. A free choice: nothing constrains it; the state's choice counter
gives each occasion its own value. See notes/assumptions/4.md. -/
opaque trackerOneFirst : Nat → Bool

/-- The order of the two parts of a delivery at a reception end on port A whose frame goes both to a block and to the
forward queue: "placed in some order" (R5, R11). True lets the block act first. A free choice, as above. See
notes/assumptions/5.md. -/
opaque blockBeforeForward : Nat → Bool

end Sys2Proof.Config
end

