-- ==== Sys2Proof/Machine/Numbers.lean ====
section
/-! DEFINITION. The arithmetic of the part: the roundings that the "Integer arithmetic" convention of spec/00_scope.md
names, the integer square root of R147, the profile table of R18 with the nominal period and its band, the times of
R3 and R110, and the cosine table of R112. -/

namespace Sys2Proof.Machine

/-- "Round" of spec/00_scope.md: the nearest integer to `z / d`, a value halfway going away from zero. -/
def roundDiv (z : Int) (d : Nat) : Int :=
  if 0 ≤ z then (2 * z + d) / (2 * (d : Int)) else -((2 * (-z) + d) / (2 * (d : Int)))

/-- `z` held within `lo` to `hi`. -/
def clampInt (lo hi z : Int) : Int := if z < lo then lo else if hi < z then hi else z

/-- A sum that stays at `top` once it reaches it. -/
def satAdd (top a b : Nat) : Nat := min top (a + b)

/-- The bits of an integer square root, from the highest down: `r` is the part found so far. -/
def isqrtBits : Nat → Nat → Nat → Nat
  | 0, r, _ => r
  | b + 1, r, x => if (r + 2 ^ b) * (r + 2 ^ b) ≤ x then isqrtBits b (r + 2 ^ b) x else isqrtBits b r x

/-- isqrt of R147: the greatest integer whose square does not exceed `x`. -/
def isqrt (x : Nat) : Nat := isqrtBits (x.log2 / 2 + 1) 0 x

/-- R_s of a profile code, in samples per second (R18). -/
def sampleRate (p : ProfileCode) : Nat :=
  match p.val / 2 with
  | 0 => 6400
  | 1 => 9600
  | 2 => 12800
  | _ => 19200

/-- The channel count of a profile code: 24 for an even code, 48 for an odd one (R18). -/
def channelCount (p : ProfileCode) : Nat := if p.val % 2 = 0 then 24 else 48

/-- f_nom in Hz. -/
def hertz : NominalFrequency → Nat
  | .hz50 => 50
  | .hz60 => 60

/-- Lnom = floor(R_s x 65536 / f_nom) (R18). -/
def nominalPeriod (f : NominalFrequency) (p : ProfileCode) : Nat := sampleRate p * 65536 / hertz f

/-- Lmin = ceil(7 x Lnom / 8) (R69). -/
def bandLow (lnom : Nat) : Nat := (7 * lnom + 7) / 8

/-- Lmax = floor(9 x Lnom / 8) (R69). -/
def bandHigh (lnom : Nat) : Nat := 9 * lnom / 8

/-- The resampler increment I = floor(2^39 / Lfix) (R91). -/
def increment (lfix : Nat) : Nat := 2 ^ 39 / lfix

/-- The link address 02-4E-42-00-00-a of station address a (R10). -/
def linkAddress (station : BitVec 6) : Mac := BitVec.ofNat 48 (0x024E42000000 + station.toNat)

/-- FF-FF-FF-FF-FF-FF. -/
def broadcast : Mac := BitVec.ofNat 48 0xFFFFFFFFFFFF

/-- Time on the wire of a frame of `n` bytes, FCS included, in nanoseconds (R3). -/
def transmissionNs (n : Nat) : Nat := (n + 20) * 80
/-- Engine time of a job, in periods of the 25 MHz reference clock (R110). -/
def jobClocks (hMax : Nat) : Nat := 1000 + 1536 * hMax

/-- C[0] to C[31] of the cosine table. -/
def cosineQuarter0 : List Int :=
  [32767, 32728, 32609, 32412, 32137, 31785, 31356, 30852, 30273, 29621, 28898, 28105, 27245, 26319,
   25329, 24279, 23170, 22005, 20787, 19519, 18204, 16846, 15446, 14010, 12539, 11039, 9512, 7962,
   6393, 4808, 3212, 1608]

/-- C[32] to C[63] of the cosine table. -/
def cosineQuarter1 : List Int :=
  [0, -1608, -3212, -4808, -6393, -7962, -9512, -11039, -12539, -14010, -15446, -16846, -18204, -19519,
   -20787, -22005, -23170, -24279, -25329, -26319, -27245, -28105, -28898, -29621, -30273, -30852,
   -31356, -31785, -32137, -32412, -32609, -32728]

/-- C[64] to C[95] of the cosine table. -/
def cosineQuarter2 : List Int :=
  [-32767, -32728, -32609, -32412, -32137, -31785, -31356, -30852, -30273, -29621, -28898, -28105,
   -27245, -26319, -25329, -24279, -23170, -22005, -20787, -19519, -18204, -16846, -15446, -14010,
   -12539, -11039, -9512, -7962, -6393, -4808, -3212, -1608]

/-- C[96] to C[127] of the cosine table. -/
def cosineQuarter3 : List Int :=
  [0, 1608, 3212, 4808, 6393, 7962, 9512, 11039, 12539, 14010, 15446, 16846, 18204, 19519, 20787,
   22005, 23170, 24279, 25329, 26319, 27245, 28105, 28898, 29621, 30273, 30852, 31356, 31785, 32137,
   32412, 32609, 32728]

/-- The cosine table of R112: C[m] = round(32767 cos(2 pi m / 128)) for m = 0 to 127, fixed in the part. -/
def cosineTable : List Int := cosineQuarter0 ++ cosineQuarter1 ++ cosineQuarter2 ++ cosineQuarter3

/-- C[m mod 128]. -/
def cosine (m : Nat) : Int := cosineTable.getD (m % 128) 0

end Sys2Proof.Machine
end

