-- ==== Sys2Proof/Machine/State.lean ====
section
/-! DEFINITION. The state of the part, block by block as the manual divides it, all of it plain data; the reasons a
step may stop; and the state right after power-on. -/

namespace Sys2Proof.Machine

open Sys2Proof

/-! ## The tables of the table store (chapter 3) -/

/-- A channel entry (R35): gain in 1/32768, offset in code units. -/
structure ChannelEntry where
  gain : BitVec 16
  offset : Int
  deriving DecidableEq, Repr

/-- A harmonic group, or NONE (R44). -/
inductive Group where
  | g0 | g1 | g2 | g3 | none
  deriving DecidableEq, Repr

/-- A group entry (R44): the group and the weight in 1/128. -/
structure GroupEntry where
  group : Group
  weight : BitVec 8
  deriving DecidableEq, Repr

/-- A correction entry (R45): signed factors c and s in 1/32768. -/
structure CorrectionEntry where
  c : BitVec 16
  s : BitVec 16
  deriving DecidableEq, Repr

/-- A tap entry (R37). The six channels stand in the order V[0], V[1], V[2], I[0], I[1], I[2]. -/
structure TapEntry where
  enabled : Bool
  tracker : TrackerId
  channels : Vector Channel 6
  cls : Fin 5
  hMax : Nat
  accounting : Bool
  limits : Vector (BitVec 32) 4
  thdLimit : BitVec 16
  deriving DecidableEq, Repr

/-- What the table store keeps for a tap (R37): the entry in force, its generation and at most one staged entry. -/
structure TapSlot where
  entry : TapEntry
  generation : BitVec 16
  staged : Option TapEntry
  deriving DecidableEq, Repr

/-- The station settings (R49). -/
structure StationSettings where
  destination : Mac
  forwarding : Bool
  notices : Bool
  silenceMs : Nat
  deriving DecidableEq, Repr

/-- Tracker mode (R46). -/
inductive TrackerMode where
  | independent | follower
  deriving DecidableEq, Repr

/-- Align mode (R46). -/
inductive AlignMode where
  | off | soft | hard
  deriving DecidableEq, Repr

/-- The block settings that are held twice, written and in force (R46, R47). -/
structure BlockSettings where
  length : Nat
  align : AlignMode
  preset : Nat
  deriving DecidableEq, Repr

/-- The settings of one tracker (R46), with the written block settings. -/
structure TrackerSettings where
  enabled : Bool
  reference : Channel
  mode : TrackerMode
  written : BlockSettings
  holdoverLimit : Nat
  dipThreshold : Nat
  autoReport : Bool
  deriving DecidableEq, Repr

/-- The table store. The correction tables are those of classes 1 to 4, harmonic k at index k - 1; the group table
holds harmonic k at index k - 2. -/
structure Tables where
  channels : Vector ChannelEntry 48
  groups : Vector GroupEntry 49
  corrections : Vector (Vector CorrectionEntry 50) 4
  taps : Vector TapSlot 8
  settings : Vector TrackerSettings 2
  station : StationSettings
  deriving DecidableEq, Repr

/-! ## Ports, frames and slots (chapters 1, 10) -/

/-- Link state of a port (R2). -/
inductive Link where
  | down | up
  deriving DecidableEq, Repr

/-- The turn marker of port B's arbiter (R14). -/
inductive Turn where
  | pass | own
  deriving DecidableEq, Repr

/-- The source of a transmission (R3). -/
inductive TxSource where
  | relay | offer | forward | answer | notice
  | report (slot : Fin 2)
  deriving DecidableEq, Repr

/-- A transmission in progress (R3): its source, the bytes on the wire (for a passed-through frame its own FCS
included; for a frame of the part all bytes before the FCS that the port generates, R10), and the time in ns for
which it holds the transmitter. -/
structure Transmission where
  source : TxSource
  bytes : Bytes
  fcsGenerated : Bool
  holdNs : Nat
  deriving DecidableEq, Repr

/-- How a transmission ended (R3). -/
inductive Ending where
  /-- The last FCS byte was sent: the partner sees a good frame. -/
  | normal
  /-- The link was lost: the partner sees a truncated frame. -/
  | cutOff
  /-- A reset took effect: the partner sees a frame cut short with a deliberately wrong FCS. -/
  | aborted
  deriving DecidableEq, Repr

/-- A transmission that has ended, and how (R3). -/
structure SentFrame where
  transmission : Transmission
  ending : Ending
  deriving DecidableEq, Repr

/-- What the partner of each port saw last: the port's last ended transmission, none while there was none since power-on
(R3). The model's own record of an output; nothing in the part reads it (notes/assumptions/25.md). -/
structure Wire where
  a : Option SentFrame
  b : Option SentFrame
  deriving DecidableEq, Repr

/-- The content of an OFFER of the part (R19). -/
structure Offer where
  mask : BitVec 8
  ack : Bool
  deriving DecidableEq, Repr

/-- The pending OFFER of port A (R12): empty, waiting and not started, in transmission, or in transmission with its
content already replaced for the next choice. -/
inductive OfferPlace where
  | empty
  | waiting (o : Offer)
  | sending (o : Offer)
  | replaced (sent next : Offer)
  deriving DecidableEq, Repr

/-- Result codes of an answer (chapter 10). -/
inductive Result where
  | done | malformed | outOfRange | wrongState | gone | notYet
  deriving DecidableEq, Repr

/-- An ANSWER in the answer slot (R160). -/
structure Answer where
  dest : Mac
  tag : Byte
  kind : Byte
  result : Result
  body : Bytes
  deriving DecidableEq, Repr

/-- Tracker states (chapter 5). -/
inductive TrackerState where
  | idle | acquiring | locked | holdover | freerun | following
  deriving DecidableEq, Repr

/-- Causes of a TRACKER notice (R81). -/
inductive TrackerCause where
  | lock | rejections | noCrossing | dips | holdoverLimit | reacquire | rateChange | follow | unfollow | commit
  deriving DecidableEq, Repr

/-- Outcomes of a HANDOVER notice (R89). -/
inductive HandoverOutcome where
  | committed | timedOut | cancelled
  deriving DecidableEq, Repr

/-- The limit kinds: the four groups and THD (R151). -/
inductive LimitKind where
  | g0 | g1 | g2 | g3 | thd
  deriving DecidableEq, Repr

/-- Outcomes of a LIMIT notice (R152). -/
inductive LimitOutcome where
  | entered | cleared
  deriving DecidableEq, Repr

/-- Outcomes of an AGREEMENT notice (R27). -/
inductive AgreementOutcome where
  | agreed | adopted | noCommon | consistencyFail | renegotiation
  deriving DecidableEq, Repr

/-- Causes of a stream break (R57). -/
inductive StreamCause where
  | gap | silence
  deriving DecidableEq, Repr

/-- The five kinds of notice with the fields of their rules (R81, R89, R152, R27, R58). -/
inductive NoticeBody where
  | tracker (t : TrackerId) (previous new : TrackerState) (cause : TrackerCause) (reference : Channel) (lfix : Nat)
      (count : BitVec 32)
  | handover (t : TrackerId) (outcome : HandoverOutcome) (oldReference newChannel : Channel) (timeout : Nat)
      (locked : Bool) (state : TrackerState) (ls : Nat)
  | limit (tap : TapId) (kind : LimitKind) (outcome : LimitOutcome) (tariff : Tariff) (block : BitVec 32)
      (value limit : Nat)
  | agreement (subject : ProfileCode) (outcome : AgreementOutcome) (accept partner : BitVec 8)
  | stream (subject : ProfileCode) (cause : StreamCause) (expected received : BitVec 16) (silenceMs : Nat)
      (count : BitVec 32)
  deriving DecidableEq, Repr

/-- A NOTICE frame in the notice queue, with the destination it was built with (R10, R168). -/
structure Notice where
  dest : Mac
  body : NoticeBody
  deriving DecidableEq, Repr

/-- Close reasons of a block record (R145); the first three are also the close markers of an entry (R107). -/
inductive CloseReason where
  | natural | aligned | config | forced
  deriving DecidableEq, Repr

/-- Disposition of a record (R144). -/
inductive Disposition where
  | placed | skipped | off
  deriving DecidableEq, Repr

/-- The flags of a block record (R145). The accumulator gathers all of them but UNRESTORED and NO_FUNDAMENTAL, which
are set at the close and at the receipt (R131, R134, R147). -/
structure BlockFlags where
  realigned : Bool := false
  acquiring : Bool := false
  holdover : Bool := false
  freerun : Bool := false
  following : Bool := false
  dipSeen : Bool := false
  filled : Bool := false
  clipped : Bool := false
  channelAbsent : Bool := false
  acctOff : Bool := false
  kChanged : Bool := false
  unrestored : Bool := false
  firstAfterReset : Bool := false
  noFundamental : Bool := false
  deriving DecidableEq, Repr

/-- A time stamp: a second count and the cycle ends since that mark (R107, R148). -/
structure TimeStamp where
  second : BitVec 32
  cycleEnds : Nat
  deriving DecidableEq, Repr

/-- The snapshot of a tap entry that an entry carries (R40, R107). -/
structure Snapshot where
  cls : Fin 5
  hMax : Nat
  accounting : Bool
  generation : BitVec 16
  deriving DecidableEq, Repr

/-- The exceed flags of a record, one per limit kind (R148). -/
structure ExceedFlags where
  g0 : Bool
  g1 : Bool
  g2 : Bool
  g3 : Bool
  thd : Bool
  deriving DecidableEq, Repr

/-- A block record (R144). -/
structure BlockRecord where
  tap : TapId
  tracker : TrackerId
  block : BitVec 32
  tariff : Tariff
  profile : ProfileCode
  generation : BitVec 16
  cls : Fin 5
  hMax : Nat
  reason : CloseReason
  cycles : Nat
  analysed : Nat
  estimated : Nat
  dropped : Nat
  late : Nat
  outstanding : Nat
  unaccounted : Nat
  clipTotal : Nat
  flags : BlockFlags
  meanFrequency : Nat
  increments : Vector Nat 12
  thd : Option (Vector Nat 6)
  exceed : ExceedFlags
  stamp : Option TimeStamp
  disposition : Disposition
  deriving DecidableEq, Repr

/-- A BLOCK REPORT in a report slot: the copy made at the receipt, the skip count it carries and the destination it
was built with (R153). -/
structure Report where
  dest : Mac
  skip : Nat
  record : BlockRecord
  deriving DecidableEq, Repr

/-- The two ports with every queue, slot and place that feeds their transmitters. `firstReport` names the report slot
that was placed first when both hold a report (R14). -/
structure Ports where
  linkA : Link
  linkB : Link
  txA : Option Transmission
  txB : Option Transmission
  relayQueue : List Bytes
  offer : OfferPlace
  forwardQueue : List Bytes
  answerSlot : Option Answer
  noticeQueue : List Notice
  reportSlots : Vector (Option Report) 2
  firstReport : Fin 2
  turn : Turn
  deriving DecidableEq, Repr

/-- The nine latches of R163, in the order of the latch bits of R177. STREAM_INTACT is high when true. -/
structure Latches where
  badCheck : Bool
  forwardDropped : Bool
  relayDropped : Bool
  gapFilled : Bool
  profileMismatch : Bool
  clipped : Bool
  requestDropped : Bool
  noticeDropped : Bool
  streamIntact : Bool
  deriving DecidableEq, Repr

/-- A timer of the local timer: stopped, or running for the length it was started with. -/
inductive Timer where
  | stopped
  | running (ms : Nat)
  deriving DecidableEq, Repr

/-! ## The agreement unit (chapter 2) -/

/-- Agreement mode (R32). -/
inductive AgreementMode where
  | negotiate | fixed
  deriving DecidableEq, Repr

/-- Agreement state (section 2.2). -/
inductive AgreementState where
  | listen | acknowledge | pause
  | agreed (p : ProfileCode)
  | noCommon
  deriving DecidableEq, Repr

/-- The agreement unit (section 2.2). -/
structure Agreement where
  mode : AgreementMode
  acceptMask : BitVec 8
  fixedCode : ProfileCode
  profile : ProfileCode
  state : AgreementState
  candidate : BitVec 8
  matchCount : Nat
  recorded : BitVec 8
  ackCount : Nat
  offerSeen : Bool
  adoptionCode : ProfileCode
  adoptionCount : Nat
  offerTimer : Timer
  ackTimer : Timer
  pauseTimer : Timer
  deriving DecidableEq, Repr

/-! ## The intake (chapter 4) -/

/-- Stream state (R52). -/
inductive StreamState where
  | waiting | running
  deriving DecidableEq, Repr

/-- The intake, its latches apart (section 4). -/
structure Intake where
  current : ChannelValues
  stream : StreamState
  expected : Option (BitVec 16)
  silence : Timer
  count : BitVec 32
  deriving DecidableEq, Repr

/-! ## The trackers (chapter 5) -/

/-- A crossing detector, main or shadow: the value it kept from the sample before, the time of its last crossing in
1/65536 of an input sample, its lock count and its age (R67, R68). -/
structure Detector where
  previous : Option Int
  last : Option (BitVec 48)
  lockCount : Nat
  age : Nat
  deriving DecidableEq, Repr

/-- A pending handover (R82). -/
structure Handover where
  channel : Channel
  shadow : Detector
  ls : Nat
  locked : Bool
  timeout : Nat
  deriving DecidableEq, Repr

/-- The cycle marks of a tracker (R80). -/
structure Marks where
  acquiring : Bool := false
  holdover : Bool := false
  freerun : Bool := false
  following : Bool := false
  dip : Bool := false
  deriving DecidableEq, Repr

/-- A tracker (chapter 5), its settings apart. -/
structure Tracker where
  state : TrackerState
  lfix : Nat
  detector : Detector
  rejections : Nat
  halfSum : Nat
  dipCount : Nat
  holdoverCount : Nat
  marks : Marks
  handover : Option Handover
  deriving DecidableEq, Repr

/-! ## The cycle former (chapter 6) -/

/-- The resampler of a running tracker (R91); `period` is the Lfix from which the increment was computed. -/
structure Resampler where
  acc : Nat
  point : Nat
  inc : Nat
  samples : Nat
  period : Nat
  filled : Bool
  deriving DecidableEq, Repr

/-- Alignment state (R95, R96). -/
inductive AlignState where
  | none | due | held
  deriving DecidableEq, Repr

/-- What the cycle former keeps for a tracker. `realigned` says that the cycle in progress is the first after a
re-indexing alignment (R96). -/
structure FormerTracker where
  resampler : Option Resampler
  index : Nat
  inForce : BlockSettings
  align : AlignState
  reindexed : Bool
  realigned : Bool
  cycleEnds : Nat
  tariff : Tariff
  deriving DecidableEq, Repr

/-- Collection state of a tap (R100). A JOINING tap counts its gap in input samples, or counts none (R102, R103). -/
inductive Collect where
  | inactive
  | joining (gap : Option Nat)
  | collecting
  deriving DecidableEq, Repr

/-- The point area of a tap: its six channels by 128 points (R100). -/
abbrev PointArea := Vector (Vector Int 128) 6

/-- What the cycle former keeps for a tap (R100). -/
structure FormerTap where
  collect : Collect
  points : PointArea
  clips : Nat
  absent : Bool
  unaccounted : Nat
  deriving DecidableEq, Repr

/-- The pending tariff record (R98); `applied` holds one flag per tracker. -/
structure PendingTariff where
  tariff : Tariff
  effective : Option (BitVec 32)
  applied : Vector Bool 2
  deriving DecidableEq, Repr

/-- The cycle former (chapter 6). -/
structure Former where
  trackers : Vector FormerTracker 2
  taps : Vector FormerTap 8
  second : Option (BitVec 32)
  pendingTariff : Option PendingTariff
  deriving DecidableEq, Repr

/-! ## Entries and the harmonic engine (chapters 6, 7) -/

/-- The fields that every entry carries (R107). -/
structure EntryHead where
  tap : TapId
  tracker : TrackerId
  block : BitVec 32
  close : Option CloseReason
  unaccounted : Nat
  tariff : Tariff
  snapshot : Snapshot
  stamp : Option TimeStamp
  deriving DecidableEq, Repr

/-- The fields that a cycle entry carries besides (R107). -/
structure CycleInfo where
  index : Nat
  length : Nat
  period : Nat
  marks : Marks
  filled : Bool
  clips : Nat
  absent : Bool
  realigned : Bool
  deriving DecidableEq, Repr

/-- A job: one cycle of a tap with its points, waiting for or in the engine (R106). -/
structure Job where
  head : EntryHead
  cycle : CycleInfo
  points : PointArea
  deriving DecidableEq, Repr

/-- The powers and squared magnitudes of one analysed cycle (R116, R117): D_k and R_k for k = 1 to h in order, and
F_ch and H_ch of the six channels. A tap's held spectrum is one of these (R119). -/
structure Spectrum where
  h : Nat
  active : List Int
  reactive : List Int
  fundamental : Vector Nat 6
  harmonic : Vector Nat 6
  deriving DecidableEq, Repr

/-- An entry handed to the accounting unit (R106, R101). -/
inductive Entry where
  | job (head : EntryHead) (cycle : CycleInfo)
  | estimate (head : EntryHead) (cycle : CycleInfo) (copy : Spectrum)
  | dropped (head : EntryHead) (cycle : CycleInfo)
  | close (head : EntryHead)
  deriving DecidableEq, Repr

/-- A phasor: real and imaginary part (R113). -/
structure Phasor where
  re : Int
  im : Int
  deriving DecidableEq, Repr

/-- A tap's spectrum store (R121): the phasors of each channel stand in order k = 1 upward. -/
structure SpectrumStore where
  tracker : TrackerId
  block : BitVec 32
  index : Nat
  generation : BitVec 16
  cls : Fin 5
  hMax : Nat
  phasors : Vector (List Phasor) 6
  deriving DecidableEq, Repr

/-- A correction window waiting for the job in flight (R45): class, start order and entries. -/
structure CorrectionWindow where
  table : Fin 4
  start : Nat
  entries : List CorrectionEntry
  deriving DecidableEq, Repr

/-- The job in flight and the engine time it takes, in periods of the 25 MHz clock (R110). -/
structure Flight where
  job : Job
  clocks : Nat
  deriving DecidableEq, Repr

/-- The harmonic engine (chapter 7); IDLE when `flight` is none, BUSY otherwise. -/
structure Engine where
  queue : List Job
  flight : Option Flight
  held : Vector (Option Spectrum) 8
  stale : Vector Nat 8
  store : Vector (Option SpectrumStore) 8
  window : Option CorrectionWindow
  deriving DecidableEq, Repr

/-! ## The accounting unit (chapter 8) -/

/-- A register: count, residue and rollover count (R124). -/
structure Register where
  count : Nat
  residue : Nat
  rollover : Nat
  deriving DecidableEq, Repr

/-- Restore state of a tap (R139). -/
inductive RestoreState where
  | opened | closed
  deriving DecidableEq, Repr

/-- The last accounted cycle (R126). -/
structure CycleName where
  tracker : TrackerId
  block : BitVec 32
  index : Nat
  deriving DecidableEq, Repr

/-- An open block accumulator (R131). -/
structure Accumulator where
  block : BitVec 32
  tracker : TrackerId
  tariff : Tariff
  snapshot : Snapshot
  cycles : Nat
  analysed : Nat
  estimated : Nat
  dropped : Nat
  unaccounted : Nat
  outstanding : Nat
  close : Option CloseReason
  increments : Vector Nat 12
  periodSum : Nat
  fundamentalSums : Vector Nat 6
  harmonicSums : Vector Nat 6
  clipTotal : Nat
  flags : BlockFlags
  stamp : Option TimeStamp
  deriving DecidableEq, Repr

/-- The accounts of one tap: its 48 registers (tariff t, register r at index 12 t + r), K, restore state, block number,
open block accumulators (oldest first), late tally, first-after-reset mark and last accounted cycle (chapter 8). -/
structure TapAccount where
  registers : Vector Register 48
  constant : Nat
  restore : RestoreState
  blockNumber : BitVec 32
  accumulators : List Accumulator
  late : Nat
  firstAfterReset : Bool
  lastCycle : Option CycleName
  deriving DecidableEq, Repr

/-! ## The record unit (chapter 9) -/

/-- A limit state and its clear count (R151). -/
structure LimitState where
  exceeded : Bool
  clearCount : Nat
  deriving DecidableEq, Repr

/-- The five limit states of a tap. -/
structure TapLimits where
  g0 : LimitState
  g1 : LimitState
  g2 : LimitState
  g3 : LimitState
  thd : LimitState
  deriving DecidableEq, Repr

/-- The record unit (chapter 9): the ring, oldest record first, the limit states, skip counts and next-slot marker. -/
structure Records where
  ring : List BlockRecord
  limits : Vector TapLimits 8
  skips : Vector Nat 8
  nextSlot : Fin 2
  deriving DecidableEq, Repr

/-! ## The management unit (chapter 10) -/

/-- A request: the source address kept with it, tag, kind, the length its stream header states and its body (R157,
R176). -/
structure Request where
  source : Mac
  tag : Byte
  kind : Byte
  stated : Nat
  body : Bytes
  deriving DecidableEq, Repr

/-- Start cause (R166). -/
inductive StartCause where
  | power | pin | request
  deriving DecidableEq, Repr

/-- The management unit: request queue, request in service (SERVING when present, IDLE otherwise), start cause, and
whether a served RESET waits for its answer's transmission end (R17). -/
structure Management where
  requestQueue : List Request
  inService : Option Request
  startCause : StartCause
  resetWaiting : Bool
  deriving DecidableEq, Repr

/-- The straps as they were read at power-on (spec/00_scope.md, "Pins and physical data"). -/
structure Straps where
  station : BitVec 6
  frequency : NominalFrequency
  deriving DecidableEq, Repr

/-- The whole part. `resetLine` is the reset line's level, asserted when true; `wire` is the MODEL's own record of how each
port's last transmission ended; `choices` is the MODEL's own counter, at which the two free orders of Config are read;
`pending` is the queue of commands, first in, first out. -/
structure State where
  straps : Straps
  resetLine : Bool
  ports : Ports
  wire : Wire
  latches : Latches
  agreement : Agreement
  tables : Tables
  intake : Intake
  trackers : Vector Tracker 2
  former : Former
  engine : Engine
  accounts : Vector TapAccount 8
  records : Records
  management : Management
  choices : Nat
  pending : List Instr
  deriving DecidableEq, Repr

/-- Why the part would stop: there is no reason. No command of this part stops it: every step of the manual has an
effect or, where its event is not due, leaves the part as it stands. The type has no constructor, so no meaning can end
in a fault (safe: nothing is withheld and nothing is claimed). -/
inductive Fault where
  deriving DecidableEq, Repr

/-- Why a command has no meaning. -/
inductive Refusal where
  /-- Raised by exec for a row that has no meaning in the model; no arm raises it (safe: nothing can be proved of a
  refused command). -/
  | notModelled (mnemonic : String)
  deriving DecidableEq, Repr

/-! ## Values at power-on -/

/-- Everything of the ports empty, turn OWN (R16), with the given links. -/
def Ports.cleared (a b : Link) : Ports where
  linkA := a
  linkB := b
  txA := none
  txB := none
  relayQueue := []
  offer := .empty
  forwardQueue := []
  answerSlot := none
  noticeQueue := []
  reportSlots := Vector.replicate 2 none
  firstReport := 0
  turn := .own

/-- Every latch clear, STREAM_INTACT low (R163). -/
def Latches.cleared : Latches := ⟨false, false, false, false, false, false, false, false, false⟩

/-- Gain 32768, offset 0 (R36). -/
def ChannelEntry.default : ChannelEntry := ⟨32768, 0⟩
/-- Group G0 with weight 128 (R44). -/
def GroupEntry.default : GroupEntry := ⟨.g0, 128⟩
/-- c = 32767, s = 0 (R45). -/
def CorrectionEntry.default : CorrectionEntry := ⟨32767, 0⟩

/-- The default tap entry (R43). -/
def TapEntry.default : TapEntry where
  enabled := false
  tracker := 0
  channels := #v[0, 1, 2, 3, 4, 5]
  cls := 0
  hMax := 50
  accounting := true
  limits := Vector.replicate 4 0
  thdLimit := 0

/-- Block length 10, align mode OFF, preset 0 (R48). -/
def BlockSettings.default : BlockSettings := ⟨10, .off, 0⟩

/-- The default settings of a tracker (R48). -/
def TrackerSettings.default (enabled : Bool) : TrackerSettings where
  enabled := enabled
  reference := 0
  mode := .independent
  written := .default
  holdoverLimit := 50
  dipThreshold := 0
  autoReport := true

/-- Broadcast, forwarding ON, notices ON, 20 ms (R50). -/
def StationSettings.default : StationSettings := ⟨broadcast, true, true, 20⟩

/-- The table store at power-on, with the given tap generations (R36, R43, R44, R45, R48, R50). -/
def Tables.default (generations : Vector (BitVec 16) 8) : Tables where
  channels := Vector.replicate 48 .default
  groups := Vector.replicate 49 .default
  corrections := Vector.replicate 4 (Vector.replicate 50 .default)
  taps := Vector.ofFn fun t => ⟨.default, generations[t], none⟩
  settings := #v[.default true, .default false]
  station := .default

/-- The agreement unit with cleared counts and stopped timers, in LISTEN (R33). -/
def Agreement.cleared (mode : AgreementMode) (mask : BitVec 8) (fixed profile : ProfileCode) : Agreement where
  mode := mode
  acceptMask := mask
  fixedCode := fixed
  profile := profile
  state := .listen
  candidate := 0
  matchCount := 0
  recorded := 0
  ackCount := 0
  offerSeen := false
  adoptionCode := 0
  adoptionCount := 0
  offerTimer := .stopped
  ackTimer := .stopped
  pauseTimer := .stopped

/-- The intake after every reset (R66). -/
def Intake.cleared : Intake := ⟨Vector.replicate 48 0, .waiting, none, .stopped, 0⟩

/-- A cleared detector: no predecessor, no last crossing, counts 0 (R71). -/
def Detector.cleared : Detector := ⟨none, none, 0, 0⟩

/-- The marks with which a cycle begins in a state (R80). -/
def Marks.ofState : TrackerState → Marks
  | .acquiring => { acquiring := true }
  | .holdover => { holdover := true }
  | .freerun => { freerun := true }
  | .following => { following := true }
  | .idle | .locked => {}

/-- A tracker that has just entered a state with everything else cleared (R71, R90). -/
def Tracker.fresh (state : TrackerState) (lfix : Nat) : Tracker where
  state := state
  lfix := lfix
  detector := .cleared
  rejections := 0
  halfSum := 0
  dipCount := 0
  holdoverCount := 0
  marks := .ofState state
  handover := none

/-- A resampler as it starts (R91). -/
def Resampler.start (lfix : Nat) : Resampler := ⟨0, 0, increment lfix, 0, lfix, false⟩

/-- The cycle former's part for a tracker after a reset (R108). -/
def FormerTracker.cleared (resampler : Option Resampler) (settings : BlockSettings) (tariff : Tariff) :
    FormerTracker where
  resampler := resampler
  index := 0
  inForce := settings
  align := .none
  reindexed := false
  realigned := false
  cycleEnds := 0
  tariff := tariff

/-- A cleared point area. -/
def PointArea.cleared : PointArea := Vector.replicate 6 (Vector.replicate 128 0)

/-- A tap of the cycle former after a reset (R108). -/
def FormerTap.cleared (collect : Collect) : FormerTap := ⟨collect, PointArea.cleared, 0, false, 0⟩

/-- The engine after every reset (R123). -/
def Engine.cleared : Engine where
  queue := []
  flight := none
  held := Vector.replicate 8 none
  stale := Vector.replicate 8 0
  store := Vector.replicate 8 none
  window := none

/-- A tap's accounts at power-on (R142). -/
def TapAccount.initial : TapAccount where
  registers := Vector.replicate 48 ⟨0, 0, 0⟩
  constant := 2 ^ 32
  restore := .opened
  blockNumber := 0
  accumulators := []
  late := 0
  firstAfterReset := true
  lastCycle := none

/-- A limit state at NORMAL (R156). -/
def LimitState.normal : LimitState := ⟨false, 0⟩

/-- The record unit after every reset (R156). -/
def Records.cleared : Records where
  ring := []
  limits := Vector.replicate 8 ⟨.normal, .normal, .normal, .normal, .normal⟩
  skips := Vector.replicate 8 0
  nextSlot := 0

/-- The management unit after a reset of the given cause (R171). -/
def Management.cleared (cause : StartCause) : Management := ⟨[], none, cause, false⟩

/-- The part right after power-on with the given straps: every block at its power-on values, both ports DOWN, the
agreement unit in LISTEN with its first OFFER waiting and the offer timer running, tracker 0 ACQUIRING with its
resampler started, every tap disabled (R16, R33, R90, R108). -/
def State.atPowerOn (station : BitVec 6) (frequency : NominalFrequency) : State where
  straps := ⟨station, frequency⟩
  resetLine := false
  ports := { Ports.cleared .down .down with offer := .waiting ⟨0xFF, false⟩ }
  wire := ⟨none, none⟩
  latches := .cleared
  agreement := { Agreement.cleared .negotiate 0xFF 0 0 with offerTimer := .running Config.offerTimerMs }
  tables := .default (Vector.replicate 8 0)
  intake := .cleared
  trackers := #v[.fresh .acquiring (nominalPeriod frequency 0), .fresh .idle (nominalPeriod frequency 0)]
  former :=
    { trackers := #v[.cleared (some (.start (nominalPeriod frequency 0))) .default 0, .cleared none .default 0]
      taps := Vector.replicate 8 (.cleared .inactive)
      second := none
      pendingTariff := none }
  engine := .cleared
  accounts := Vector.replicate 8 .initial
  records := .cleared
  management := .cleared .power
  choices := 0
  pending := []

/-- The part right after power-on, no command waiting. DESIGN CHOICE: the straps are pins whose levels the manual does
not give; they are taken at station address 0 and 50 Hz (notes/assumptions/1.md). -/
def State.reset : State := .atPowerOn 0 .hz50

/-! ## The blocks of the state, replaced one at a time -/

def State.setStraps (s : State) (x : Straps) : State := { s with straps := x }
def State.setResetLine (s : State) (x : Bool) : State := { s with resetLine := x }
def State.setPorts (s : State) (x : Ports) : State := { s with ports := x }
def State.setWire (s : State) (x : Wire) : State := { s with wire := x }
def State.setLatches (s : State) (x : Latches) : State := { s with latches := x }
def State.setAgreement (s : State) (x : Agreement) : State := { s with agreement := x }
def State.setTables (s : State) (x : Tables) : State := { s with tables := x }
def State.setIntake (s : State) (x : Intake) : State := { s with intake := x }
def State.setTrackers (s : State) (x : Vector Tracker 2) : State := { s with trackers := x }
def State.setFormer (s : State) (x : Former) : State := { s with former := x }
def State.setEngine (s : State) (x : Engine) : State := { s with engine := x }
def State.setAccounts (s : State) (x : Vector TapAccount 8) : State := { s with accounts := x }
def State.setRecords (s : State) (x : Records) : State := { s with records := x }
def State.setManagement (s : State) (x : Management) : State := { s with management := x }
def State.setChoices (s : State) (x : Nat) : State := { s with choices := x }
def State.setPending (s : State) (x : List Instr) : State := { s with pending := x }

end Sys2Proof.Machine
end

