-- ==== Sys2Proof/Machine/Operands.lean ====
section
/-! DEFINITION. Reading the bytes that reach the part and writing those that leave it: big-endian fields and packed
decimal (R173, R174), the stream header and the fields of each received kind (R4, R175, R176), the bodies of the
requests with the length that fits each kind (R159, R176), and the frames the part originates (R10, R177 to R179). -/

namespace Sys2Proof.Machine

open Sys2Proof

/-! ## Big-endian fields (R173) -/

/-- The unsigned field of `w` bytes at `off`. A byte past the end reads as 0; the length checks of R4, R51 and R159
come before every such read. -/
def beNat (b : Bytes) (off : Nat) : Nat → Nat
  | 0 => 0
  | w + 1 => beNat b off w * 256 + (b.getD (off + w) 0).toNat

/-- The unsigned byte at `off`. -/
def byteAt (b : Bytes) (off : Nat) : Nat := (b.getD off 0).toNat

/-- The two's complement field of `w` bytes at `off`. -/
def beInt (b : Bytes) (off w : Nat) : Int :=
  let n := beNat b off w
  if n < 2 ^ (8 * w - 1) then (n : Int) else (n : Int) - (2 ^ (8 * w) : Nat)

/-- The `w` bytes of an unsigned field, taken modulo its width. -/
def toBE : Nat → Nat → Bytes
  | 0, _ => []
  | w + 1, n => BitVec.ofNat 8 (n / 256 ^ w) :: toBE w n

/-- The `w` bytes of a two's complement field. -/
def intToBE (w : Nat) (z : Int) : Bytes := toBE w (z % ((256 ^ w : Nat) : Int)).toNat

/-- A one-byte field. -/
def oneByte (n : Nat) : Bytes := toBE 1 n

/-- A boolean field: OFF 0, ON 1 (R174). -/
def boolByte (b : Bool) : Bytes := oneByte (if b then 1 else 0)

/-- A received boolean: 0 or 1, any other value out of range (R174). -/
def readBool : Nat → Option Bool
  | 0 => some false
  | 1 => some true
  | _ => none

/-- An optional part: its presence byte, then the part (R174). -/
def optionalPart {α : Type} (encode : α → Bytes) : Option α → Bytes
  | none => oneByte 0
  | some x => oneByte 1 ++ encode x

/-- Two decimal digits in one byte. -/
def packedPair (n : Nat) : Byte := BitVec.ofNat 8 (n / 10 % 10 * 16 + n % 10)

/-- A register count as 6 bytes of packed decimal, most significant digit first (R174). -/
def packedDecimal (n : Nat) : Bytes :=
  [packedPair (n / 100 ^ 5), packedPair (n / 100 ^ 4), packedPair (n / 100 ^ 3), packedPair (n / 100 ^ 2),
   packedPair (n / 100), packedPair n]

/-- A received packed-decimal count of `w` bytes, or none where a digit is above 9 (R174). -/
def readPackedDecimal (b : Bytes) (off : Nat) : Nat → Option Nat
  | 0 => some 0
  | w + 1 =>
    match readPackedDecimal b off w with
    | none => none
    | some n =>
      let x := byteAt b (off + w)
      if x / 16 ≤ 9 ∧ x % 16 ≤ 9 then some (n * 100 + x / 16 * 10 + x % 16) else none

/-! ## Enumeration codes (R174, R179) -/

def TrackerState.code : TrackerState → Nat
  | .idle => 0
  | .acquiring => 1
  | .locked => 2
  | .holdover => 3
  | .freerun => 4
  | .following => 5

def AgreementState.code : AgreementState → Nat
  | .listen => 0
  | .acknowledge => 1
  | .pause => 2
  | .agreed _ => 3
  | .noCommon => 4

def AgreementMode.code : AgreementMode → Nat
  | .negotiate => 0
  | .fixed => 1

def readAgreementMode : Nat → Option AgreementMode
  | 0 => some .negotiate
  | 1 => some .fixed
  | _ => none

def readTrackerMode : Nat → Option TrackerMode
  | 0 => some .independent
  | 1 => some .follower
  | _ => none

def readAlignMode : Nat → Option AlignMode
  | 0 => some .off
  | 1 => some .soft
  | 2 => some .hard
  | _ => none

def readGroup : Nat → Option Group
  | 0 => some .g0
  | 1 => some .g1
  | 2 => some .g2
  | 3 => some .g3
  | 4 => some .none
  | _ => none

def Result.code : Result → Nat
  | .done => 0
  | .malformed => 1
  | .outOfRange => 2
  | .wrongState => 3
  | .gone => 4
  | .notYet => 5

def StreamState.code : StreamState → Nat
  | .waiting => 0
  | .running => 1

def StartCause.code : StartCause → Nat
  | .power => 0
  | .pin => 1
  | .request => 2

def RestoreState.code : RestoreState → Nat
  | .opened => 0
  | .closed => 1

def CloseReason.code : CloseReason → Nat
  | .natural => 0
  | .aligned => 1
  | .config => 2
  | .forced => 3

def Disposition.code : Disposition → Nat
  | .placed => 0
  | .skipped => 1
  | .off => 2

def TrackerCause.code : TrackerCause → Nat
  | .lock => 0
  | .rejections => 1
  | .noCrossing => 2
  | .dips => 3
  | .holdoverLimit => 4
  | .reacquire => 5
  | .rateChange => 6
  | .follow => 7
  | .unfollow => 8
  | .commit => 9

def HandoverOutcome.code : HandoverOutcome → Nat
  | .committed => 0
  | .timedOut => 1
  | .cancelled => 2

def LimitKind.code : LimitKind → Nat
  | .g0 => 0
  | .g1 => 1
  | .g2 => 2
  | .g3 => 3
  | .thd => 4

def LimitOutcome.code : LimitOutcome → Nat
  | .entered => 0
  | .cleared => 1

def AgreementOutcome.code : AgreementOutcome → Nat
  | .agreed => 0
  | .adopted => 1
  | .noCommon => 2
  | .consistencyFail => 3
  | .renegotiation => 4

def StreamCause.code : StreamCause → Nat
  | .gap => 0
  | .silence => 1

/-! ## Received frames (R4, R173, R175, R176) -/

/-- The seven frame kinds of the stream protocol. -/
inductive FrameKind where
  | sampleSet | timeMark | offer | request | answer | blockReport | notice
  deriving DecidableEq, Repr

/-- The frame kind of a header's kind byte (R173). -/
def readFrameKind : Nat → Option FrameKind
  | 1 => some .sampleSet
  | 2 => some .timeMark
  | 3 => some .offer
  | 4 => some .request
  | 5 => some .answer
  | 6 => some .blockReport
  | 7 => some .notice
  | _ => none

def FrameKind.code : FrameKind → Nat
  | .sampleSet => 1
  | .timeMark => 2
  | .offer => 3
  | .request => 4
  | .answer => 5
  | .blockReport => 6
  | .notice => 7

/-- A recognised stream frame as the classifier reads it: its kind, the length its stream header states, and every
byte carried after the header and before the FCS. -/
structure StreamFrame where
  kind : FrameKind
  stated : Nat
  carried : Bytes
  deriving DecidableEq, Repr

/-- The bytes of a frame after the stream header and before the FCS. -/
def carriedBytes (bytes : Bytes) : Bytes := (bytes.drop 18).take (bytes.length - 22)

/-- The three tests of R4; none for an other frame. -/
def recognise (bytes : Bytes) : Option StreamFrame :=
  if beNat bytes 12 2 = Config.streamType then
    match readFrameKind (byteAt bytes 14) with
    | none => none
    | some k =>
      if beNat bytes 16 2 ≤ bytes.length - 22 then some ⟨k, beNat bytes 16 2, carriedBytes bytes⟩ else none
  else none

/-- The source address of a frame. -/
def sourceAddress (bytes : Bytes) : Mac := BitVec.ofNat 48 (beNat bytes 6 6)

/-- A SAMPLE SET's fields; value j of its list is that of channel j (R175). -/
structure SampleSet where
  code : Nat
  valueCount : Nat
  sequence : BitVec 16
  stated : Nat
  carried : Bytes
  deriving DecidableEq, Repr

def readSampleSet (f : StreamFrame) : SampleSet :=
  ⟨byteAt f.carried 0, byteAt f.carried 1, BitVec.ofNat 16 (beNat f.carried 2 2), f.stated, f.carried⟩

/-- The 24-bit code of channel j. -/
def SampleSet.value (x : SampleSet) (j : Nat) : Int := beInt x.carried (4 + 3 * j) 3

/-- The form check of R51 for profile p. -/
def SampleSet.formOk (x : SampleSet) (p : ProfileCode) : Bool :=
  decide (x.valueCount = channelCount p) && decide (4 + 3 * x.valueCount ≤ x.stated)

/-- A REQUEST as it enters the request queue (R157): the body runs to the stated length (R176). -/
def readRequest (bytes : Bytes) (f : StreamFrame) : Request where
  source := sourceAddress bytes
  tag := f.carried.getD 1 0
  kind := f.carried.getD 2 0
  stated := f.stated
  body := (f.carried.take f.stated).drop 4

/-! ## Request bodies (R159, R176) -/

/-- The kind numbers of section 10.6. -/
inductive RequestKind where
  | readStatus | writeChannels | writeTap | readTap | writeGroups | writeCorrection | writeTracker | handover
  | setTariff | setConstant | readRegisters | restore | clear | readRecord | readSpectrum | setAgreement
  | setStation | reset
  deriving DecidableEq, Repr

def readRequestKind : Nat → Option RequestKind
  | 1 => some .readStatus
  | 2 => some .writeChannels
  | 3 => some .writeTap
  | 4 => some .readTap
  | 5 => some .writeGroups
  | 6 => some .writeCorrection
  | 7 => some .writeTracker
  | 8 => some .handover
  | 9 => some .setTariff
  | 10 => some .setConstant
  | 11 => some .readRegisters
  | 12 => some .restore
  | 13 => some .clear
  | 14 => some .readRecord
  | 15 => some .readSpectrum
  | 16 => some .setAgreement
  | 17 => some .setStation
  | 18 => some .reset
  | _ => none

/-- Step 2 of R159: does the body length fit the kind? The window writes' length follows from the count field as the
request carries it. -/
def lengthFits (k : RequestKind) (body : Bytes) : Bool :=
  let n := body.length
  match k with
  | .readStatus | .reset => n == 0
  | .writeChannels => decide (2 ≤ n) && n == 2 + 6 * byteAt body 1
  | .writeTap => n == 31
  | .readTap | .clear => n == 1
  | .writeGroups => decide (2 ≤ n) && n == 2 + 2 * byteAt body 1
  | .writeCorrection => decide (3 ≤ n) && n == 3 + 4 * byteAt body 2
  | .writeTracker => n == 14
  | .handover => n == 3
  | .setTariff => n == 1 || n == 5
  | .setConstant => n == 9
  | .readRegisters => n == 2
  | .restore => n == 337
  | .readRecord => n == 5
  | .readSpectrum => n == 2
  | .setAgreement => n == 3
  | .setStation => n == 9

/-- The common validation of R159, steps 1 and 2: the kind of a request that passes, none for MALFORMED. A stated
length below 4 is MALFORMED (R176). -/
def Request.validKind (r : Request) : Option RequestKind :=
  match readRequestKind r.kind.toNat with
  | none => none
  | some k => if 4 ≤ r.stated ∧ lengthFits k r.body then some k else none

/-- A tap index, or none when it exceeds 7. -/
def readTapId (n : Nat) : Option TapId := if h : n < 8 then some ⟨n, h⟩ else none

/-- A tracker index, or none when it exceeds 1. -/
def readTrackerId (n : Nat) : Option TrackerId := if h : n < 2 then some ⟨n, h⟩ else none

/-- A channel, or none when it exceeds 47. -/
def readChannel (n : Nat) : Option Channel := if h : n < 48 then some ⟨n, h⟩ else none

/-- The entries of a window, read by `read` at each index 0 to n - 1; none where any is out of range. -/
def readEntries {α : Type} (read : Nat → Option α) : Nat → Option (List α)
  | 0 => some []
  | n + 1 =>
    match readEntries read n, read n with
    | some l, some x => some (l ++ [x])
    | _, _ => none

/-- A window: the position of its start index within the table (0 for the table's first index) and its entries. -/
structure Window (α : Type) where
  start : Nat
  entries : List α
  deriving Repr

/-- The checks of R34 on start and count, for a table whose first index is `first` and which has `size` entries. -/
def readWindow {α : Type} (first size start count : Nat) (read : Nat → Option α) : Option (Window α) :=
  if first ≤ start ∧ start < first + size ∧ 1 ≤ count ∧ count ≤ size then
    match readEntries read count with
    | none => none
    | some l => some ⟨start - first, l⟩
  else none

/-- WRITE CHANNELS (R35): an offset outside -524288 to 524287 refuses the window. -/
def readChannelWindow (b : Bytes) : Option (Window ChannelEntry) :=
  readWindow 0 48 (byteAt b 0) (byteAt b 1) fun j =>
    let offset := beInt b (4 + 6 * j) 4
    if -524288 ≤ offset ∧ offset ≤ 524287 then some ⟨BitVec.ofNat 16 (beNat b (2 + 6 * j) 2), offset⟩ else none

/-- WRITE GROUPS (R44). -/
def readGroupWindow (b : Bytes) : Option (Window GroupEntry) :=
  readWindow 2 49 (byteAt b 0) (byteAt b 1) fun j =>
    match readGroup (byteAt b (2 + 2 * j)) with
    | none => none
    | some g => some ⟨g, b.getD (3 + 2 * j) 0⟩

/-- WRITE CORRECTION (R45): the class first, 1 to 4. -/
def readCorrectionWindow (b : Bytes) : Option CorrectionWindow :=
  if h : 1 ≤ byteAt b 0 ∧ byteAt b 0 ≤ 4 then
    match readWindow 1 50 (byteAt b 1) (byteAt b 2) fun j =>
      some ⟨BitVec.ofNat 16 (beNat b (3 + 4 * j) 2), BitVec.ofNat 16 (beNat b (5 + 4 * j) 2)⟩ with
    | none => none
    | some w => some ⟨⟨byteAt b 0 - 1, by omega⟩, w.start, w.entries⟩
  else none

/-- The six channels of a tap entry at `off`, each 0 to 47 and no two equal (R38). -/
def readSixChannels (b : Bytes) (off : Nat) : Option (Vector Channel 6) :=
  match readChannel (byteAt b off), readChannel (byteAt b (off + 1)), readChannel (byteAt b (off + 2)),
    readChannel (byteAt b (off + 3)), readChannel (byteAt b (off + 4)), readChannel (byteAt b (off + 5)) with
  | some v0, some v1, some v2, some i0, some i1, some i2 =>
    if [v0, v1, v2, i0, i1, i2].Nodup then some #v[v0, v1, v2, i0, i1, i2] else none
  | _, _, _, _, _, _ => none

/-- The 30-byte tap entry at `off` (R176), with the range checks of R38. -/
def readTapEntry (b : Bytes) (off : Nat) : Option TapEntry :=
  match readBool (byteAt b off), readTrackerId (byteAt b (off + 1)), readSixChannels b (off + 2),
    readBool (byteAt b (off + 10)) with
  | some enabled, some tracker, some channels, some accounting =>
    if h : byteAt b (off + 8) ≤ 4 ∧ 1 ≤ byteAt b (off + 9) ∧ byteAt b (off + 9) ≤ 50 then
      some
        { enabled := enabled
          tracker := tracker
          channels := channels
          cls := ⟨byteAt b (off + 8), by omega⟩
          hMax := byteAt b (off + 9)
          accounting := accounting
          limits := Vector.ofFn fun g => BitVec.ofNat 32 (beNat b (off + 12 + 4 * g.val) 4)
          thdLimit := BitVec.ofNat 16 (beNat b (off + 28) 2) }
    else none
  | _, _, _, _ => none

/-- WRITE TAP: tap index and entry. -/
def readTapWrite (b : Bytes) : Option (TapId × TapEntry) :=
  match readTapId (byteAt b 0), readTapEntry b 1 with
  | some t, some e => some (t, e)
  | _, _ => none

/-- WRITE TRACKER: tracker index and settings, with the range checks of R46. -/
def readTrackerWrite (b : Bytes) : Option (TrackerId × TrackerSettings) :=
  match readTrackerId (byteAt b 0), readBool (byteAt b 1), readChannel (byteAt b 2), readTrackerMode (byteAt b 3),
    readAlignMode (byteAt b 5), readBool (byteAt b 8) with
  | some t, some enabled, some reference, some mode, some align, some autoReport =>
    if 8 ≤ byteAt b 4 ∧ byteAt b 4 ≤ 32 ∧ byteAt b 6 + 1 ≤ byteAt b 4 ∧ byteAt b 7 ≠ 0 ∧ beNat b 9 5 ≤ 2 ^ 38 ∧
        ¬(mode = .follower ∧ t = 0) then
      some (t,
        { enabled := enabled
          reference := reference
          mode := mode
          written := ⟨byteAt b 4, align, byteAt b 6⟩
          holdoverLimit := byteAt b 7
          dipThreshold := beNat b 9 5
          autoReport := autoReport })
    else none
  | _, _, _, _, _, _ => none

/-- SET TARIFF: tariff and optional effective second (R98). -/
def readTariff (b : Bytes) : Option (Tariff × Option (BitVec 32)) :=
  if h : byteAt b 0 < 4 then
    some (⟨byteAt b 0, h⟩, if b.length = 5 then some (BitVec.ofNat 32 (beNat b 1 4)) else none)
  else none

/-- SET CONSTANT: tap and K_new, 1 to 2^56 - 1 (R138). -/
def readConstant (b : Bytes) : Option (TapId × Nat) :=
  match readTapId (byteAt b 0) with
  | none => none
  | some t => if 1 ≤ beNat b 1 8 ∧ beNat b 1 8 ≤ Config.maxConstant then some (t, beNat b 1 8) else none

/-- READ REGISTERS: tap and the tariffs its selector names (R141). -/
def readSelector (b : Bytes) : Option (TapId × List Tariff) :=
  match readTapId (byteAt b 0) with
  | none => none
  | some t =>
    if h : byteAt b 1 < 4 then some (t, [⟨byteAt b 1, h⟩])
    else if byteAt b 1 = 4 then some (t, [0, 1, 2, 3]) else none

/-- RESTORE: tap, 48 counts and 48 rollover counts (R139). -/
def readRestore (b : Bytes) : Option (TapId × List (Nat × Nat)) :=
  match readTapId (byteAt b 0), readEntries (fun j =>
      match readPackedDecimal b (1 + 6 * j) 6 with
      | none => none
      | some n => if byteAt b (289 + j) ≤ Config.rolloverMax then some (n, byteAt b (289 + j)) else none) 48 with
  | some t, some l => some (t, l)
  | _, _ => none

/-- READ SPECTRUM: tap and part, false for VOLTAGES and true for CURRENTS (R122). -/
def readSpectrumPart (b : Bytes) : Option (TapId × Bool) :=
  match readTapId (byteAt b 0), readBool (byteAt b 1) with
  | some t, some p => some (t, p)
  | _, _ => none

/-- SET AGREEMENT: mode, accept mask and fixed code, with the checks of R32. -/
def readAgreement (b : Bytes) : Option (AgreementMode × BitVec 8 × ProfileCode) :=
  match readAgreementMode (byteAt b 0) with
  | none => none
  | some m =>
    if h : byteAt b 2 < 8 then
      if b.getD 1 0 ≠ 0 ∧ (b.getD 1 0).getLsbD (byteAt b 2) then some (m, b.getD 1 0, ⟨byteAt b 2, h⟩) else none
    else none

/-- SET STATION: the four fields, with the checks of R167. -/
def readStation (b : Bytes) : Option StationSettings :=
  match readBool (byteAt b 6), readBool (byteAt b 7) with
  | some forwarding, some notices =>
    if byteAt b 8 = 0 then none else some ⟨BitVec.ofNat 48 (beNat b 0 6), forwarding, notices, byteAt b 8⟩
  | _, _ => none

/-! ## Bodies and frames the part originates (R10, R177, R178, R179) -/

/-- The 30-byte tap entry (R176). -/
def TapEntry.encode (e : TapEntry) : Bytes :=
  boolByte e.enabled ++ oneByte e.tracker.val ++ (e.channels.toList.map fun c => BitVec.ofNat 8 c.val) ++
    oneByte e.cls.val ++ oneByte e.hMax ++ boolByte e.accounting ++ oneByte 0 ++
    toBE 4 e.limits[0].toNat ++ toBE 4 e.limits[1].toNat ++ toBE 4 e.limits[2].toNat ++ toBE 4 e.limits[3].toNat ++
    toBE 2 e.thdLimit.toNat

/-- The station settings as in SET STATION (R177). -/
def StationSettings.encode (x : StationSettings) : Bytes :=
  toBE 6 x.destination.toNat ++ boolByte x.forwarding ++ boolByte x.notices ++ oneByte x.silenceMs

/-- The pending tariff part of READ STATUS and SET TARIFF (R177). -/
def PendingTariff.encode (p : PendingTariff) : Bytes :=
  oneByte p.tariff.val ++ optionalPart (fun n => toBE 4 n.toNat) p.effective ++
    oneByte ((if p.applied[0] then 1 else 0) + (if p.applied[1] then 2 else 0))

/-- The 16-bit number of a mask whose bit n is the n-th element. -/
def maskBits : List Bool → Nat
  | [] => 0
  | b :: l => (if b then 1 else 0) + 2 * maskBits l

/-- The flag bits of R178. -/
def BlockFlags.bits (f : BlockFlags) : Nat :=
  maskBits [f.realigned, f.acquiring, f.holdover, f.freerun, f.following, f.dipSeen, f.filled, f.clipped,
    f.channelAbsent, f.acctOff, f.kChanged, f.unrestored, f.firstAfterReset, f.noFundamental]

/-- The exceed flag bits of R178. -/
def ExceedFlags.bits (e : ExceedFlags) : Nat := maskBits [e.g0, e.g1, e.g2, e.g3, e.thd]

/-- The latch bits of R177. -/
def Latches.bits (l : Latches) : Nat :=
  maskBits [l.badCheck, l.forwardDropped, l.relayDropped, l.gapFilled, l.profileMismatch, l.clipped,
    l.requestDropped, l.noticeDropped, l.streamIntact]

/-- The fields of a block record after its record header (R178). -/
def BlockRecord.fields (r : BlockRecord) : Bytes :=
  oneByte r.tap.val ++ oneByte r.tracker.val ++ oneByte r.tariff.val ++ oneByte r.profile.val ++
    toBE 4 r.block.toNat ++ toBE 2 r.generation.toNat ++
    oneByte r.cls.val ++ oneByte r.hMax ++ oneByte r.reason.code ++ oneByte r.disposition.code ++
    toBE 2 r.cycles ++ toBE 2 r.analysed ++ toBE 2 r.estimated ++ toBE 2 r.dropped ++ toBE 2 r.late ++
    oneByte r.outstanding ++ oneByte r.exceed.bits ++ toBE 2 r.flags.bits ++
    toBE 4 r.unaccounted ++ toBE 2 r.clipTotal ++ toBE 4 r.meanFrequency ++
    (r.increments.toList.flatMap fun q => toBE 6 q) ++
    (match r.thd with
     | none => oneByte 0
     | some l => oneByte 6 ++ l.toList.flatMap fun x => toBE 2 x) ++
    optionalPart (fun t => toBE 4 t.second.toNat ++ toBE 2 t.cycleEnds) r.stamp

/-- A block record with its record header (R178). -/
def BlockRecord.encode (r : BlockRecord) : Bytes :=
  oneByte 0xA5 ++ oneByte 1 ++ toBE 2 r.fields.length ++ r.fields

/-- The fields of a NOTICE (R179). -/
def NoticeBody.encode : NoticeBody → Bytes
  | .tracker t previous new cause reference lfix count =>
    oneByte 0 ++ oneByte t.val ++ oneByte previous.code ++ oneByte new.code ++ oneByte cause.code ++
      oneByte reference.val ++ toBE 4 lfix ++ toBE 4 count.toNat
  | .handover t outcome old new timeout locked state ls =>
    oneByte 1 ++ oneByte t.val ++ oneByte outcome.code ++ oneByte old.val ++ oneByte new.val ++ oneByte timeout ++
      boolByte locked ++ oneByte state.code ++ toBE 4 ls
  | .limit tap kind outcome tariff block value bound =>
    oneByte 2 ++ oneByte tap.val ++ oneByte kind.code ++ oneByte outcome.code ++ oneByte tariff.val ++ oneByte 0 ++
      toBE 4 block.toNat ++ toBE 8 value ++ toBE 4 bound
  | .agreement subject outcome accept partner =>
    oneByte 3 ++ oneByte subject.val ++ oneByte outcome.code ++ oneByte accept.toNat ++ oneByte partner.toNat
  | .stream subject cause expected received silence count =>
    oneByte 4 ++ oneByte subject.val ++ oneByte cause.code ++ oneByte 0 ++ toBE 2 expected.toNat ++
      toBE 2 received.toNat ++ oneByte silence ++ toBE 4 count.toNat

/-- The envelope and body of an ANSWER (R176). -/
def Answer.encode (a : Answer) : Bytes :=
  [a.tag, a.kind] ++ oneByte a.result.code ++ oneByte 0 ++ a.body

/-- The fields of a BLOCK REPORT (R178). -/
def Report.encode (r : Report) : Bytes := oneByte r.skip ++ r.record.encode

/-- The fields of an OFFER (R175). -/
def Offer.encode (o : Offer) : Bytes := oneByte o.mask.toNat ++ boolByte o.ack

/-- A frame the part originates, all bytes before the FCS (R10, R173): addresses, type value, stream header with the
unpadded length, the fields, and zero bytes up to the 60 bytes that make 64 with the FCS. -/
def ownFrame (station : BitVec 6) (dest : Mac) (kind : FrameKind) (fields : Bytes) : Bytes :=
  let bytes := toBE 6 dest.toNat ++ toBE 6 (linkAddress station).toNat ++ toBE 2 Config.streamType ++
    oneByte kind.code ++ oneByte 0 ++ toBE 2 fields.length ++ fields
  bytes ++ List.replicate (60 - bytes.length) 0

end Sys2Proof.Machine
end

