-- ==== Sys2Proof/Machine/Ops.lean ====
section
/-! DEFINITION. The named operations that the blocks share: the transmit choice of each port and the end of a
transmission (section 1.5), placing an item in a source, handing over a notice (R168), placing an answer (R160), and
the readings of the state that several chapters use (the nominal period, which trackers make cycles, the tap entry in
force). -/

namespace Sys2Proof.Machine

open Sys2Proof

/-! ## The pending OFFER (R12) -/

/-- A new OFFER replaces one that waits; one in transmission stays on the wire and the new one follows it. -/
def OfferPlace.place (o : Offer) : OfferPlace → OfferPlace
  | .empty | .waiting _ => .waiting o
  | .sending x | .replaced x _ => .replaced x o

/-- Withdrawal empties the place, but for an OFFER in transmission, which completes. -/
def OfferPlace.withdraw : OfferPlace → OfferPlace
  | .empty | .waiting _ => .empty
  | .sending x | .replaced x _ => .sending x

/-- At the transmission end the OFFER that was sent leaves; a replacing OFFER remains. -/
def OfferPlace.finish : OfferPlace → OfferPlace
  | .sending _ => .empty
  | .replaced _ o => .waiting o
  | p => p

/-! ## Transmit choice (R11, R13, R14) -/

/-- The transmission of a frame of the part: the port appends the FCS, four bytes more on the wire. -/
def Transmission.own (source : TxSource) (bytes : Bytes) : Transmission :=
  ⟨source, bytes, true, transmissionNs (bytes.length + 4)⟩

/-- The transmission of a passed-through frame, byte for byte as received, its FCS included (R8). -/
def Transmission.passed (source : TxSource) (bytes : Bytes) : Transmission :=
  ⟨source, bytes, false, transmissionNs bytes.length⟩

/-- Port A is free to start a transmission (R11). -/
def Ports.freeA (p : Ports) : Bool := decide (p.linkA = .up) && p.txA.isNone

/-- Port B is free to start a transmission (R11). -/
def Ports.freeB (p : Ports) : Bool := decide (p.linkB = .up) && p.txB.isNone

/-- Port A's choice (R13): the pending OFFER, else the oldest relayed frame. -/
def Ports.chooseA (station : BitVec 6) (p : Ports) : Ports :=
  if p.freeA then
    match p.offer, p.relayQueue with
    | .waiting o, _ =>
      { p with offer := .sending o, txA := some (.own .offer (ownFrame station broadcast .offer o.encode)) }
    | _, f :: _ => { p with txA := some (.passed .relay f) }
    | _, [] => p
  else p

/-- The report slot port B takes: the only one that holds a report, or of two the one placed first (R14). -/
def Ports.nextReport (p : Ports) : Option (Fin 2 × Report) :=
  match p.reportSlots[0], p.reportSlots[1] with
  | some a, some b => some (if p.firstReport = 0 then (0, a) else (1, b))
  | some a, none => some (0, a)
  | none, some b => some (1, b)
  | none, none => none

/-- The own class's item: answer before notice, notice before report (R14). -/
def Ports.ownItem (station : BitVec 6) (p : Ports) : Option Transmission :=
  match p.answerSlot, p.noticeQueue, p.nextReport with
  | some a, _, _ => some (.own .answer (ownFrame station a.dest .answer a.encode))
  | none, n :: _, _ => some (.own .notice (ownFrame station n.dest .notice n.body.encode))
  | none, [], some (k, r) => some (.own (.report k) (ownFrame station r.dest .blockReport r.encode))
  | none, [], none => none

/-- The pass-through class's item: the oldest frame of the forward queue (R14). -/
def Ports.passItem (p : Ports) : Option Transmission :=
  match p.forwardQueue with
  | [] => none
  | f :: _ => some (.passed .forward f)

/-- Port B's arbiter (R14): the only class that holds an item, or of two the one the turn marker names; the marker is
then set to the class not chosen. -/
def Ports.chooseB (station : BitVec 6) (p : Ports) : Ports :=
  if p.freeB then
    match p.passItem, p.ownItem station with
    | none, none => p
    | some x, none => { p with txB := some x, turn := .own }
    | none, some y => { p with txB := some y, turn := .pass }
    | some x, some y =>
      match p.turn with
      | .pass => { p with txB := some x, turn := .own }
      | .own => { p with txB := some y, turn := .pass }
  else p

/-- The end of port A's transmission, normal or cut off: its item is removed (R3). -/
def Ports.finishA (p : Ports) : Ports :=
  match p.txA with
  | none => p
  | some t =>
    match t.source with
    | .offer => { p with txA := none, offer := p.offer.finish }
    | _ => { p with txA := none, relayQueue := p.relayQueue.tail }

/-- The end of port B's transmission, normal or cut off: its item is removed and its place is free (R3, R15). -/
def Ports.finishB (p : Ports) : Ports :=
  match p.txB with
  | none => p
  | some t =>
    match t.source with
    | .answer => { p with txB := none, answerSlot := none }
    | .notice => { p with txB := none, noticeQueue := p.noticeQueue.tail }
    | .report k => { p with txB := none, reportSlots := upd p.reportSlots k none }
    | _ => { p with txB := none, forwardQueue := p.forwardQueue.tail }

/-- The record of what a port's partner saw, after the transmission `t` in progress there, if any, has ended (R3). -/
def Wire.ended (w : Wire) (port : Port) (t : Option Transmission) (e : Ending) : Wire :=
  match t, port with
  | none, _ => w
  | some x, .a => { w with a := some ⟨x, e⟩ }
  | some x, .b => { w with b := some ⟨x, e⟩ }

/-- The choice of port A in the part: none while a reset is in effect (R11). -/
def State.chooseA (s : State) : State :=
  if s.resetLine then s else s.setPorts (s.ports.chooseA s.straps.station)

/-- The choice of port B in the part: none while a reset is in effect (R11). -/
def State.chooseB (s : State) : State :=
  if s.resetLine then s else s.setPorts (s.ports.chooseB s.straps.station)

/-! ## Placing items -/

/-- The agreement unit places an OFFER; a free transmitter starts it at once (R11, R12). -/
def State.placeOffer (s : State) (o : Offer) : State :=
  (s.setPorts { s.ports with offer := s.ports.offer.place o }).chooseA

/-- The agreement unit withdraws the pending OFFER (R12, R19). -/
def State.withdrawOffer (s : State) : State :=
  s.setPorts { s.ports with offer := s.ports.offer.withdraw }

/-- A frame from port A enters the forward queue, or is lost with FORWARD_DROPPED (R8). -/
def State.enterForward (s : State) (f : Bytes) : State :=
  if s.ports.forwardQueue.length < Config.forwardCapacity then
    (s.setPorts { s.ports with forwardQueue := s.ports.forwardQueue ++ [f] }).chooseB
  else s.setLatches { s.latches with forwardDropped := true }

/-- A frame from port B enters the relay queue, or is lost with RELAY_DROPPED (R9). -/
def State.enterRelay (s : State) (f : Bytes) : State :=
  if s.ports.relayQueue.length < Config.relayCapacity then
    (s.setPorts { s.ports with relayQueue := s.ports.relayQueue ++ [f] }).chooseA
  else s.setLatches { s.latches with relayDropped := true }

/-- A notice is handed over to the notice queue (R168): discarded when notices are OFF, discarded with NOTICE_DROPPED
when 8 are held, appended otherwise with the report destination of the moment (R10). -/
def State.handOver (s : State) (n : NoticeBody) : State :=
  if s.tables.station.notices then
    if s.ports.noticeQueue.length < Config.noticeCapacity then
      (s.setPorts
        { s.ports with noticeQueue := s.ports.noticeQueue ++ [⟨s.tables.station.destination, n⟩] }).chooseB
    else s.setLatches { s.latches with noticeDropped := true }
  else s

/-- The answer to request r is placed in the answer slot and the management unit returns to IDLE (R158, R160). -/
def State.answer (s : State) (r : Request) (result : Result) (body : Bytes) : State :=
  ((s.setManagement { s.management with inService := none }).setPorts
    { s.ports with answerSlot := some ⟨r.source, r.tag, r.kind, result, body⟩ }).chooseB

/-- A refusal: the result code with an empty body (R159). -/
def State.refuse (s : State) (r : Request) (result : Result) : State := s.answer r result []

/-! ## Readings of the state -/

/-- Lnom of the profile in force (R18). -/
def State.lnom (s : State) : Nat := nominalPeriod s.straps.frequency s.agreement.profile

/-- The Lfix of a tracker wherever it is reported or used: that of an IDLE tracker reads as Lnom (R69). -/
def State.lfix (s : State) (t : TrackerId) : Nat :=
  if s.trackers[t].state = .idle then s.lnom else s.trackers[t].lfix

/-- ACQUIRING, LOCKED, HOLDOVER or FREERUN (section 5.1). -/
def TrackerState.isRunning : TrackerState → Bool
  | .acquiring | .locked | .holdover | .freerun => true
  | .idle | .following => false

/-- The tracker whose cycles tracker u has (R39): its own while it runs, tracker 0's while it follows and tracker 0 is
not IDLE, none otherwise. -/
def State.cycleSource (s : State) (u : TrackerId) : Option TrackerId :=
  match s.trackers[u].state with
  | .idle => none
  | .following => if s.trackers[(0 : TrackerId)].state = .idle then none else some 0
  | .acquiring | .locked | .holdover | .freerun => some u

/-- A tracker makes cycles (R39). -/
def State.makesCycles (s : State) (u : TrackerId) : Bool := (s.cycleSource u).isSome

/-- Tracker 1 has the cycles of tracker 0 as its own (R77). -/
def State.follows (s : State) : Bool := decide (s.trackers[(1 : TrackerId)].state = .following)

/-- The tap entry in force. -/
def State.tapEntry (s : State) (tap : TapId) : TapEntry := s.tables.taps[tap].entry

/-- The tap's tracker in force (R37). -/
def State.tapTracker (s : State) (tap : TapId) : TrackerId := (s.tapEntry tap).tracker

/-- A tap is collecting a cycle that is tracker t's (R100, R102). -/
def State.collectsFrom (s : State) (t : TrackerId) (tap : TapId) : Bool :=
  decide (s.former.taps[tap].collect = .collecting) && decide (s.cycleSource (s.tapTracker tap) = some t)

/-- Is the line of the channel absent under the profile in force (R61)? -/
def State.channelAbsent (s : State) (c : Channel) : Bool := decide (channelCount s.agreement.profile ≤ c.val)

/-- Does the tap's entry in force name an absent channel (R61)? -/
def State.namesAbsent (s : State) (tap : TapId) : Bool :=
  (s.tapEntry tap).channels.toList.any fun c => s.channelAbsent c

/-- One tracker changed by f. -/
def State.modTracker (s : State) (t : TrackerId) (f : Tracker → Tracker) : State :=
  s.setTrackers (modAt s.trackers t f)

/-- One tracker's part of the cycle former changed by f. -/
def State.modFormerTracker (s : State) (t : TrackerId) (f : FormerTracker → FormerTracker) : State :=
  s.setFormer { s.former with trackers := modAt s.former.trackers t f }

/-- One tap's part of the cycle former changed by f. -/
def State.modFormerTap (s : State) (tap : TapId) (f : FormerTap → FormerTap) : State :=
  s.setFormer { s.former with taps := modAt s.former.taps tap f }

/-- Every tap's part of the cycle former changed by f. -/
def State.mapFormerTaps (s : State) (f : TapId → FormerTap → FormerTap) : State :=
  s.setFormer { s.former with taps := Vector.ofFn fun tap => f tap s.former.taps[tap] }

/-- One tap's accounts changed by f. -/
def State.modAccount (s : State) (tap : TapId) (f : TapAccount → TapAccount) : State :=
  s.setAccounts (modAt s.accounts tap f)

/-- One tap's slot of the table store changed by f. -/
def State.modTapSlot (s : State) (tap : TapId) (f : TapSlot → TapSlot) : State :=
  s.setTables { s.tables with taps := modAt s.tables.taps tap f }

/-- One tracker's settings changed by f. -/
def State.modSettings (s : State) (t : TrackerId) (f : TrackerSettings → TrackerSettings) : State :=
  s.setTables { s.tables with settings := modAt s.tables.settings t f }

/-- A window of entries written from a start position, each further entry one index above the previous one and the
table's first index after its last (R34). -/
def writeWindow {α : Type} {n : Nat} [NeZero n] : Vector α n → Nat → List α → Vector α n
  | v, _, [] => v
  | v, i, x :: l => writeWindow (upd v (Fin.ofNat n i) x) (i + 1) l

end Sys2Proof.Machine
end

