-- ==== Sys2Proof/Machine/Flags.lean ====
section
/-! DEFINITION. The flags of the part: the marks of a cycle (R80), the flags that an entry sets in its block (R132,
R145), and the exceed flags and values of a record's five limit kinds (R148). -/

namespace Sys2Proof.Machine

open Sys2Proof

/-- The mark of a state entered during a cycle, beside the marks already set (R80). -/
def Marks.add (m : Marks) : TrackerState → Marks
  | .acquiring => { m with acquiring := true }
  | .holdover => { m with holdover := true }
  | .freerun => { m with freerun := true }
  | .following => { m with following := true }
  | .idle | .locked => m

/-- The flags that a cycle entry's marks set in its block (R132). -/
def BlockFlags.takeCycle (f : BlockFlags) (c : CycleInfo) : BlockFlags :=
  { f with
    acquiring := f.acquiring || c.marks.acquiring
    holdover := f.holdover || c.marks.holdover
    freerun := f.freerun || c.marks.freerun
    following := f.following || c.marks.following
    dipSeen := f.dipSeen || c.marks.dip
    filled := f.filled || c.filled
    clipped := f.clipped || decide (0 < c.clips)
    channelAbsent := f.channelAbsent || c.absent
    realigned := f.realigned || c.realigned }

/-- The limit kinds in the order of R152. -/
def allLimitKinds : List LimitKind := [.g0, .g1, .g2, .g3, .thd]

/-- The exceed flag of a kind. -/
def ExceedFlags.get (e : ExceedFlags) : LimitKind → Bool
  | .g0 => e.g0
  | .g1 => e.g1
  | .g2 => e.g2
  | .g3 => e.g3
  | .thd => e.thd

/-- The limit of a kind in a tap entry (R37, R148). -/
def TapEntry.limit (e : TapEntry) : LimitKind → Nat
  | .g0 => e.limits[0].toNat
  | .g1 => e.limits[1].toNat
  | .g2 => e.limits[2].toNat
  | .g3 => e.limits[3].toNat
  | .thd => e.thdLimit.toNat

/-- The largest THD among the channels whose fundamental sum is above 0; none where there is no such channel (R148). -/
def thdPeak (thd : Vector Nat 6) (fundamentalSums : Vector Nat 6) : Option Nat :=
  [0, 1, 2, 3, 4, 5].foldl
    (fun (best : Option Nat) (c : Fin 6) =>
      if fundamentalSums[c] = 0 then best else some (max thd[c] (best.getD 0)))
    none

/-- The value of a kind in a closed block, or none where the kind is not evaluated (R148). -/
def limitValue (cycles : Nat) (increments : Vector Nat 12) (thd : Option (Vector Nat 6))
    (fundamentalSums : Vector Nat 6) : LimitKind → Option Nat
  | .g0 => if 0 < cycles then some increments[8] else none
  | .g1 => if 0 < cycles then some increments[9] else none
  | .g2 => if 0 < cycles then some increments[10] else none
  | .g3 => if 0 < cycles then some increments[11] else none
  | .thd =>
    match thd with
    | none => none
    | some l => thdPeak l fundamentalSums

/-- A kind exceeds: it is evaluated, its limit is not 0 and its value is above the limit (R148). -/
def exceeds (value : Option Nat) (limit : Nat) : Bool :=
  match value with
  | none => false
  | some v => decide (limit ≠ 0) && decide (limit < v)

end Sys2Proof.Machine
end

