-- ==== Sys2Proof/Machine/Records.lean ====
section
/-! DEFINITION. The record unit (chapter 9): the receipt of a closed block, with the record's computed values, the ring,
the limit states and the block reports. -/

namespace Sys2Proof.Machine

open Sys2Proof

/-- A closed block as the accounting unit hands it over (R134, R135). -/
structure ClosedBlock where
  tap : TapId
  acc : Accumulator
  reason : CloseReason
  outstanding : Nat
  late : Nat
  unrestored : Bool
  deriving DecidableEq, Repr

/-- The mean frequency of a block in mHz, at R_s = `rate` (R146). -/
def meanFrequency (rate periodSum cycles : Nat) : Nat :=
  if cycles = 0 then 0 else rate * 65536000 / (periodSum / cycles)

/-- THD of one channel in units of 0.01 % from its sums (R147). -/
def thdOf (fundamental harmonic : Nat) : Nat :=
  if fundamental = 0 then 65535 else min 65535 (isqrt (10 ^ 8 * harmonic / fundamental))

/-- The THD list of a block: present when it has cycles and its h_max is above 1 (R147). -/
def thdList (acc : Accumulator) : Option (Vector Nat 6) :=
  if 0 < acc.cycles ∧ 1 < acc.snapshot.hMax then
    some (Vector.ofFn fun c => thdOf acc.fundamentalSums[c] acc.harmonicSums[c])
  else none

/-- NO_FUNDAMENTAL: a channel with a fundamental sum of 0 in a record with a THD list (R145, R147). -/
def noFundamental (acc : Accumulator) : Bool :=
  (thdList acc).isSome && acc.fundamentalSums.toList.any fun f => decide (f = 0)

/-- The value of a limit kind in a closed block, none where it is not evaluated (R148). -/
def ClosedBlock.value (c : ClosedBlock) (k : LimitKind) : Option Nat :=
  limitValue c.acc.cycles c.acc.increments (thdList c.acc) c.acc.fundamentalSums k

/-- Does the closed block exceed the limit of the kind in the tap entry? -/
def ClosedBlock.exceeds (c : ClosedBlock) (e : TapEntry) (k : LimitKind) : Bool :=
  Machine.exceeds (c.value k) (e.limit k)

/-- The block record of a closed block under the profile and the tap entry in force at the receipt (R144 to R148). -/
def ClosedBlock.record (c : ClosedBlock) (profile : ProfileCode) (e : TapEntry) (d : Disposition) : BlockRecord where
  tap := c.tap
  tracker := c.acc.tracker
  block := c.acc.block
  tariff := c.acc.tariff
  profile := profile
  generation := c.acc.snapshot.generation
  cls := c.acc.snapshot.cls
  hMax := c.acc.snapshot.hMax
  reason := c.reason
  cycles := c.acc.cycles
  analysed := c.acc.analysed
  estimated := c.acc.estimated
  dropped := c.acc.dropped
  late := c.late
  outstanding := if c.reason = .forced then c.outstanding else 0
  unaccounted := c.acc.unaccounted
  clipTotal := c.acc.clipTotal
  flags := { c.acc.flags with unrestored := c.unrestored, noFundamental := noFundamental c.acc }
  meanFrequency := Machine.meanFrequency (sampleRate profile) c.acc.periodSum c.acc.cycles
  increments := c.acc.increments
  thd := thdList c.acc
  exceed := ⟨c.exceeds e .g0, c.exceeds e .g1, c.exceeds e .g2, c.exceeds e .g3, c.exceeds e .thd⟩
  stamp := if c.acc.close.isSome then c.acc.stamp else none
  disposition := d

/-- The report slot that a receipt finds free: the one the marker names first, else the other (R153). -/
def freeReportSlot (p : Ports) (marker : Fin 2) : Option (Fin 2) :=
  if p.reportSlots[marker].isNone then some marker
  else if p.reportSlots[1 - marker].isNone then some (1 - marker)
  else none

/-- The disposition a receipt gives its record (R153, R154). -/
def State.disposition (s : State) (tracker : TrackerId) : Disposition :=
  if s.tables.settings[tracker].autoReport then
    match freeReportSlot s.ports s.records.nextSlot with
    | some _ => .placed
    | none => .skipped
  else .off

/-- A record enters the ring as its newest; at 64 records the oldest is removed first (R149). -/
def State.storeRecord (s : State) (r : BlockRecord) : State :=
  s.setRecords
    { s.records with
      ring := (if s.records.ring.length < Config.ringCapacity then s.records.ring else s.records.ring.tail) ++ [r] }

/-- A limit state's next value for one record, with the outcome its notice gives (R151). -/
def LimitState.move (l : LimitState) (evaluated exceeding : Bool) : LimitState × Option LimitOutcome :=
  if evaluated then
    if exceeding then (⟨true, 0⟩, if l.exceeded then none else some .entered)
    else if l.exceeded then
      if l.clearCount < 2 then (⟨true, l.clearCount + 1⟩, none) else (⟨false, 0⟩, some .cleared)
    else (⟨false, 0⟩, none)
  else (l, none)

/-- The limit state of a kind. -/
def TapLimits.get (l : TapLimits) : LimitKind → LimitState
  | .g0 => l.g0
  | .g1 => l.g1
  | .g2 => l.g2
  | .g3 => l.g3
  | .thd => l.thd

/-- The limit state of a kind, replaced. -/
def TapLimits.set (l : TapLimits) (x : LimitState) : LimitKind → TapLimits
  | .g0 => { l with g0 := x }
  | .g1 => { l with g1 := x }
  | .g2 => { l with g2 := x }
  | .g3 => { l with g3 := x }
  | .thd => { l with thd := x }

/-- One limit kind at a receipt: the state moves and a transition hands over its LIMIT notice (R151, R152). -/
def State.moveLimit (s : State) (c : ClosedBlock) (k : LimitKind) : State :=
  let e := s.tapEntry c.tap
  let m := (s.records.limits[c.tap].get k).move (c.value k).isSome (c.exceeds e k)
  let s' := s.setRecords { s.records with limits := modAt s.records.limits c.tap fun l => l.set m.1 k }
  match m.2 with
  | none => s'
  | some o => s'.handOver (.limit c.tap k o c.acc.tariff c.acc.block ((c.value k).getD 0) (e.limit k))

/-- The five limit kinds in the order of R152. -/
def State.moveLimits (s : State) (c : ClosedBlock) : State := allLimitKinds.foldl (fun s k => s.moveLimit c k) s

/-- Which slot was placed first, once slot k is filled: the other one if it holds a report (R14). -/
def firstReportAfter (p : Ports) (k : Fin 2) : Fin 2 := if p.reportSlots[1 - k].isSome then 1 - k else k

/-- A BLOCK REPORT is placed in a free slot with the tap's skip count, which then returns to 0; or, with no slot free,
a skip is counted; or, with auto-report OFF, nothing (R153, R154). -/
def State.placeReport (s : State) (r : BlockRecord) : State :=
  match r.disposition with
  | .off => s
  | .skipped =>
    s.setRecords { s.records with skips := modAt s.records.skips r.tap fun n => satAdd 255 n 1 }
  | .placed =>
    match freeReportSlot s.ports s.records.nextSlot with
    | none => s
    | some k =>
      ((s.setPorts
        { s.ports with
          reportSlots := upd s.ports.reportSlots k (some ⟨s.tables.station.destination, s.records.skips[r.tap], r⟩)
          firstReport := firstReportAfter s.ports k }).setRecords
        { s.records with skips := upd s.records.skips r.tap 0, nextSlot := 1 - k }).chooseB

/-- The receipt of a closed block (R143): the record is completed, stored, judged against the tap's limits and
reported. The disposition is the one step 4 finds: nothing between the steps takes or frees a report slot. -/
def State.receive (s : State) (c : ClosedBlock) : State :=
  let r := c.record s.agreement.profile (s.tapEntry c.tap) (s.disposition c.acc.tracker)
  ((s.storeRecord r).moveLimits c).placeReport r

/-- READ RECORD's answer: the first condition of R150 that applies. -/
def State.findRecord (s : State) (tap : TapId) (block : BitVec 32) : Result × Bytes :=
  match s.records.ring.find? fun r => decide (r.tap = tap ∧ r.block = block) with
  | some r => (.done, r.encode)
  | none =>
    if s.accounts[tap].accumulators.any fun a => decide (a.block = block) then (.notYet, [])
    else if (block - s.accounts[tap].blockNumber).toNat < 2 ^ 31 then (.notYet, [])
    else (.gone, [])

end Sys2Proof.Machine
end

