-- ==== Sys2Proof/Machine/Accounting.lean ====
section
/-! DEFINITION. The accounting unit (chapter 8): the contributions of a cycle, their division into the decimal
registers, the open block accumulators with registration and close, and the operations of SET CONSTANT, RESTORE and
CLEAR on the registers. -/

namespace Sys2Proof.Machine

open Sys2Proof

/-! ## Registers -/

/-- The position of register r of a tariff within a tap's 48 registers (R124). -/
def registerIndex (tariff : Tariff) (r : Fin 12) : Fin 48 := ⟨12 * tariff.val + r.val, by omega⟩

/-- Quanta added to a count: twelve decimal digits, passes of 999,999,999,999 counted up to 15 (R129 steps 3, 4). -/
def Register.addCount (g : Register) (q : Nat) : Register :=
  { g with
    count := (g.count + q) % Config.countModulus
    rollover := satAdd Config.rolloverMax g.rollover ((g.count + q) / Config.countModulus) }

/-- A contribution x added to a register at constant K: the register after, and the increment q (R129). -/
def Register.addEnergy (g : Register) (k x : Nat) : Register × Nat :=
  let q := (g.residue + x) / k
  (({ g with residue := g.residue + x - q * k } : Register).addCount q, q)

/-- The conversion of a register at a new constant, with its conversion quotient (R138). -/
def Register.convert (g : Register) (k : Nat) : Register × Nat :=
  let q := g.residue / k
  (({ g with residue := g.residue - q * k } : Register).addCount q, q)

/-- A restored count and rollover count added to a register; the residue is kept (R139). -/
def Register.restore (g : Register) (count rollover : Nat) : Register :=
  { g with
    count := (g.count + count) % Config.countModulus
    rollover := satAdd Config.rolloverMax g.rollover (rollover + (g.count + count) / Config.countModulus) }

/-! ## Contributions (R127, R128) -/

/-- D_k or R_k of a list that starts at order 1. -/
def orderValue (l : List Int) (k : Nat) : Int := l.getD (k - 1) 0

/-- The group entry of harmonic k, 2 to 50. -/
def groupOf (groups : Vector GroupEntry 49) (k : Nat) : GroupEntry := groups.toList.getD (k - 2) ⟨.none, 0⟩

/-- The harmonic orders 2 to h. -/
def harmonicOrders (h : Nat) : List Nat := (List.range (h - 1)).map (· + 2)

/-- N of R128: the weighted signed sum of D_k over the orders 2 to h whose group is not NONE. -/
def netHarmonic (groups : Vector GroupEntry 49) (active : List Int) (h : Nat) : Int :=
  (harmonicOrders h).foldl
    (fun n k =>
      if (groupOf groups k).group = .none then n else n + (groupOf groups k).weight.toNat * orderValue active k) 0

/-- The sum of w_k x |R_k| over the orders 2 to h in a group (R128). -/
def groupReactive (groups : Vector GroupEntry 49) (reactive : List Int) (h : Nat) (g : Group) : Nat :=
  (harmonicOrders h).foldl
    (fun n k =>
      if (groupOf groups k).group = g then n + (groupOf groups k).weight.toNat * (orderValue reactive k).natAbs else n) 0

/-- The twelve contributions of a cycle of S_c input samples, in register order (R127, R128). -/
def contributions (groups : Vector GroupEntry 49) (active reactive : List Int) (h sc : Nat) : Vector Nat 12 :=
  let d := orderValue active 1
  let r := orderValue reactive 1
  let n := netHarmonic groups active h
  let fundamental (z : Int) (here : Bool) : Nat := if here then 256 * z.natAbs * sc else 0
  let group (g : Group) : Nat := 2 * sc * groupReactive groups reactive h g
  #v[fundamental d (decide (0 ≤ d)), fundamental d (decide (d < 0)),
     fundamental r (decide (0 ≤ d ∧ 0 ≤ r)), fundamental r (decide (d < 0 ∧ 0 ≤ r)),
     fundamental r (decide (d < 0 ∧ r < 0)), fundamental r (decide (0 ≤ d ∧ r < 0)),
     if 0 ≤ n then 2 * n.natAbs * sc else 0, if n < 0 then 2 * n.natAbs * sc else 0,
     group .g0, group .g1, group .g2, group .g3]

/-- The twelve registers of a tariff with their contributions added (R129). -/
def addContributions (registers : Vector Register 48) (k : Nat) (tariff : Tariff) (x : Vector Nat 12) :
    Vector Register 48 :=
  Vector.ofFn fun i =>
    if h : i.val / 12 = tariff.val then (registers[i].addEnergy k x[i.val % 12]).1 else registers[i]

/-- The twelve increments of those additions (R129). -/
def incrementsOf (registers : Vector Register 48) (k : Nat) (tariff : Tariff) (x : Vector Nat 12) : Vector Nat 12 :=
  Vector.ofFn fun r => (registers[registerIndex tariff r].addEnergy k x[r]).2

/-! ## Open block accumulators -/

/-- The accumulator opened for an entry (R132). -/
def Accumulator.start (e : EntryHead) (first : Bool) : Accumulator where
  block := e.block
  tracker := e.tracker
  tariff := e.tariff
  snapshot := e.snapshot
  cycles := 0
  analysed := 0
  estimated := 0
  dropped := 0
  unaccounted := 0
  outstanding := 0
  close := none
  increments := Vector.replicate 12 0
  periodSum := 0
  fundamentalSums := Vector.replicate 6 0
  harmonicSums := Vector.replicate 6 0
  clipTotal := 0
  flags := { firstAfterReset := first }
  stamp := none

/-- What an accumulator takes from every entry (R132): its unaccounted samples, its snapshot, and its close marker with
the time stamp where it carries them. -/
def Accumulator.takeHead (a : Accumulator) (e : EntryHead) : Accumulator :=
  { a with
    unaccounted := satAdd (2 ^ 32 - 1) a.unaccounted e.unaccounted
    snapshot := e.snapshot
    close := if e.close.isSome then e.close else a.close
    stamp := if e.close.isSome then e.stamp else a.stamp }

/-- What an accumulator takes besides from a cycle entry: its marks and its clip count (R132). -/
def Accumulator.takeCycle (a : Accumulator) (c : CycleInfo) : Accumulator :=
  { a with flags := a.flags.takeCycle c, clipTotal := satAdd 65535 a.clipTotal c.clips }

/-- A cycle accounting taken by its accumulator (R133); `estimate` tells an estimate from a job. -/
def Accumulator.account (a : Accumulator) (estimate accounting : Bool) (period : Nat) (q : Vector Nat 12)
    (spectrum : Spectrum) : Accumulator :=
  { a with
    cycles := a.cycles + 1
    analysed := if estimate then a.analysed else a.analysed + 1
    estimated := if estimate then a.estimated + 1 else a.estimated
    increments := if accounting then Vector.ofFn fun r => satAdd (2 ^ 48 - 1) a.increments[r] q[r] else a.increments
    flags := if accounting then a.flags else { a.flags with acctOff := true }
    periodSum := a.periodSum + period
    fundamentalSums := Vector.ofFn fun c => a.fundamentalSums[c] + spectrum.fundamental[c]
    harmonicSums := Vector.ofFn fun c => a.harmonicSums[c] + spectrum.harmonic[c]
    outstanding := if estimate then a.outstanding else a.outstanding - 1 }

/-- A complete accumulator: it has a close marker and no outstanding job (R134). -/
def Accumulator.complete (a : Accumulator) : Bool := a.close.isSome && decide (a.outstanding = 0)

/-- A tap's accumulators with the one of a block changed by f. -/
def onBlock (block : BitVec 32) (f : Accumulator → Accumulator) (l : List Accumulator) : List Accumulator :=
  l.map fun a => if a.block = block then f a else a

/-- Has the tap an accumulator with this block number? -/
def TapAccount.hasBlock (t : TapAccount) (block : BitVec 32) : Bool :=
  t.accumulators.any fun a => decide (a.block = block)

/-- The tap's oldest accumulator is closed and handed to the record unit with UNRESTORED and the late tally, which
returns to 0 (R134); with `forced` the close is that of R135. -/
def State.closeOldest (s : State) (tap : TapId) (forced : Bool) : State :=
  match s.accounts[tap].accumulators with
  | [] => s
  | a :: rest =>
    (s.modAccount tap fun t => { t with accumulators := rest, late := 0 }).receive
      { tap := tap
        acc := a
        reason := if forced then .forced else a.close.getD .forced
        outstanding := a.outstanding
        late := s.accounts[tap].late
        unrestored := decide (s.accounts[tap].restore = .opened) }

/-- One close test: the tap's oldest accumulator closes if it is complete (R134). -/
def State.closeTest (s : State) (tap : TapId) : State :=
  match s.accounts[tap].accumulators with
  | [] => s
  | a :: _ => if a.complete then s.closeOldest tap false else s

/-- The close test after an event of the tap, and again after each close for the tap's next accumulator: a tap has at
most two (R134). -/
def State.closeComplete (s : State) (tap : TapId) : State := (s.closeTest tap).closeTest tap

/-- Registration finds the accumulator of the entry's block or opens one, closing the oldest by force where the tap
holds two (R132, R135). -/
def State.openFor (s : State) (e : EntryHead) : State :=
  if s.accounts[e.tap].hasBlock e.block then s
  else
    let s1 :=
      if s.accounts[e.tap].accumulators.length < 2 then s else (s.closeOldest e.tap true).closeTest e.tap
    s1.modAccount e.tap fun t =>
      { t with
        accumulators := t.accumulators ++ [.start e t.firstAfterReset]
        firstAfterReset := false }

/-! ## Cycle accounting and registration -/

/-- The registers and the last accounted cycle at a cycle accounting (R126, R129, R130). -/
def TapAccount.accountCycle (t : TapAccount) (groups : Vector GroupEntry 49) (e : EntryHead) (c : CycleInfo)
    (spectrum : Spectrum) (h : Nat) : TapAccount :=
  { t with
    registers :=
      if e.snapshot.accounting then
        addContributions t.registers t.constant e.tariff (contributions groups spectrum.active spectrum.reactive h c.length)
      else t.registers
    lastCycle := some ⟨e.tracker, e.block, c.index⟩ }

/-- The increments of a cycle accounting, from the registers as they stood before it (R129, R130). -/
def TapAccount.cycleIncrements (t : TapAccount) (groups : Vector GroupEntry 49) (e : EntryHead) (c : CycleInfo)
    (spectrum : Spectrum) (h : Nat) : Vector Nat 12 :=
  incrementsOf t.registers t.constant e.tariff (contributions groups spectrum.active spectrum.reactive h c.length)

/-- A cycle accounting of a tap: the registers, and the accumulator of the entry's block where one is open (R126 to
R130, R133). -/
def TapAccount.account (t : TapAccount) (groups : Vector GroupEntry 49) (estimate : Bool) (e : EntryHead)
    (c : CycleInfo) (spectrum : Spectrum) (h : Nat) : TapAccount :=
  let q := t.cycleIncrements groups e c spectrum h
  { t.accountCycle groups e c spectrum h with
    accumulators :=
      onBlock e.block (fun a => a.account estimate e.snapshot.accounting c.period q spectrum) t.accumulators }

/-- What the kind of an entry adds at its registration (R132). -/
def State.registerKind (s : State) : Entry → State
  | .job e c =>
    s.modAccount e.tap fun t =>
      { t with
        accumulators := onBlock e.block (fun a => { a.takeCycle c with outstanding := a.outstanding + 1 }) t.accumulators }
  | .estimate e c copy =>
    (s.modAccount e.tap fun t => { t with accumulators := onBlock e.block (·.takeCycle c) t.accumulators }).modAccount
      e.tap fun t => t.account s.tables.groups true e c copy (min copy.h e.snapshot.hMax)
  | .dropped e c =>
    s.modAccount e.tap fun t =>
      { t with
        accumulators :=
          onBlock e.block
            (fun a =>
              { a.takeCycle c with
                dropped := a.dropped + 1
                unaccounted := satAdd (2 ^ 32 - 1) a.unaccounted c.length })
            t.accumulators
        lastCycle := some ⟨e.tracker, e.block, c.index⟩ }
  | .close _ => s

/-- The fields that every kind of entry carries. -/
def Entry.head : Entry → EntryHead
  | .job e _ => e
  | .estimate e _ _ => e
  | .dropped e _ => e
  | .close e => e

/-- The registration of an entry with the accounting unit, and the close test after it (R132, R134). -/
def State.register (s : State) (x : Entry) : State :=
  let e := x.head
  let s1 := s.openFor e
  let s2 := s1.modAccount e.tap fun t => { t with accumulators := onBlock e.block (·.takeHead e) t.accumulators }
  (s2.registerKind x).closeComplete e.tap

/-- The accounting of a completed job: into its accumulator, or, where the block was closed by force, as a late job
(R126, R133, R136). -/
def State.accountJob (s : State) (e : EntryHead) (c : CycleInfo) (spectrum : Spectrum) : State :=
  let isLate := !s.accounts[e.tap].hasBlock e.block
  let s1 := s.modAccount e.tap fun t => t.account s.tables.groups false e c spectrum e.snapshot.hMax
  let s2 := if isLate then s1.modAccount e.tap fun t => { t with late := satAdd 65535 t.late 1 } else s1
  s2.closeComplete e.tap

/-! ## Requests on the registers (section 8.4) -/

/-- The jobs of a tap in the cycle queue and in flight (R141). -/
def State.outstandingJobs (s : State) (tap : TapId) : Nat :=
  (s.engine.queue.filter fun j => decide (j.head.tap = tap)).length +
    match s.engine.flight with
    | none => 0
    | some f => if f.job.head.tap = tap then 1 else 0

/-- SET CONSTANT on a tap: its registers converted, K replaced, its open accumulators marked (R138). -/
def TapAccount.setConstant (t : TapAccount) (k : Nat) : TapAccount :=
  { t with
    registers := mapVec (fun g => (g.convert k).1) t.registers
    constant := k
    accumulators := t.accumulators.map fun a => { a with flags := { a.flags with kChanged := true } } }

/-- The 48 conversion quotients (R138). -/
def TapAccount.conversionQuotients (t : TapAccount) (k : Nat) : List Nat :=
  t.registers.toList.map fun g => (g.convert k).2

/-- RESTORE on a tap: counts and rollover counts added in register order, restore state CLOSED (R139). -/
def TapAccount.restoreFrom (t : TapAccount) (saved : List (Nat × Nat)) : TapAccount :=
  { t with
    registers := Vector.ofFn fun i =>
      t.registers[i].restore (saved.getD i.val (0, 0)).1 (saved.getD i.val (0, 0)).2
    restore := .closed }

/-- CLEAR on a tap: its 48 registers zeroed, restore state CLOSED (R140). -/
def TapAccount.clearRegisters (t : TapAccount) : TapAccount :=
  { t with registers := Vector.replicate 48 ⟨0, 0, 0⟩, restore := .closed }

/-- The counts and rollover counts of one tariff in an answer (R141, R177). -/
def TapAccount.tariffGroup (t : TapAccount) (tariff : Tariff) : Bytes :=
  let regs : List Register := ([0, 1, 2, 3, 4, 5, 6, 7, 8, 9, 10, 11] : List (Fin 12)).map fun r =>
    t.registers[registerIndex tariff r]
  (regs.flatMap fun g => packedDecimal g.count) ++ regs.flatMap fun g => oneByte g.rollover

/-- A tap's accounts after a warm reset, its block number apart (R142). -/
def TapAccount.warmReset (t : TapAccount) : TapAccount :=
  { t with accumulators := [], late := 0, firstAfterReset := true, lastCycle := none }

end Sys2Proof.Machine
end

