-- ==== Sys2Proof/Machine/Engine.lean ====
section
/-! DEFINITION. The harmonic engine (chapter 7): phasors, correction, clamping, powers and magnitudes of a job, the take
and the completion, the held spectrum with stale jobs, and the spectrum store. -/

namespace Sys2Proof.Machine

open Sys2Proof

/-! ## The computation on a job (R113 to R117) -/

/-- The sum over the points, n counting up from `n`, of y[n] x C[(k n + phase) mod 128] (R113). -/
def pointSum (k phase : Nat) : List Int → Nat → Int
  | [], _ => 0
  | y :: l, n => y * cosine (k * n + phase) + pointSum k phase l (n + 1)

/-- The phasor of order k of a channel's points (R113). -/
def phasorOf (points : Vector Int 128) (k : Nat) : Phasor :=
  ⟨roundDiv (pointSum k 0 points.toList 0) (2 ^ 21), roundDiv (-(pointSum k 96 points.toList 0)) (2 ^ 21)⟩

/-- The correction of a current phasor (R114). -/
def Phasor.correct (p : Phasor) (e : CorrectionEntry) : Phasor :=
  ⟨roundDiv (p.re * e.c.toInt - p.im * e.s.toInt) 32768, roundDiv (p.re * e.s.toInt + p.im * e.c.toInt) 32768⟩

/-- The clamp of a phasor, part by part (R115). -/
def Phasor.clamp (p : Phasor) : Phasor := ⟨clampInt (-1048575) 1048575 p.re, clampInt (-1048575) 1048575 p.im⟩

/-- The correction entry of a class for order k; none for class 0 (R114, R45). -/
def correctionFor (tables : Vector (Vector CorrectionEntry 50) 4) (cls : Fin 5) (k : Nat) : Option CorrectionEntry :=
  if h : cls.val = 0 then none
  else some (tables[cls.val - 1].toList.getD (k - 1) .default)

/-- The orders 1 to h. -/
def orders (h : Nat) : List Nat := (List.range h).map (· + 1)

/-- The phasor of the job's channel c (0 to 2 voltage, 3 to 5 current) at order k, corrected and clamped (R113 to
R115). -/
def jobPhasor (tables : Vector (Vector CorrectionEntry 50) 4) (j : Job) (c : Fin 6) (k : Nat) : Phasor :=
  let p := phasorOf j.points[c] k
  match (if c.val < 3 then none else correctionFor tables j.head.snapshot.cls k) with
  | none => p.clamp
  | some e => (p.correct e).clamp

/-- The phasors of the job: of each channel, for k = 1 to h_max (R115). -/
def jobPhasors (tables : Vector (Vector CorrectionEntry 50) 4) (j : Job) : Vector (List Phasor) 6 :=
  Vector.ofFn fun c => (orders j.head.snapshot.hMax).map fun k => jobPhasor tables j c k

/-- The sum over three phases of a product of the voltage and current phasors of one order. -/
def phaseSum (f : Phasor → Phasor → Int) (p : Fin 6 → Phasor) : Int := f (p 0) (p 3) + f (p 1) (p 4) + f (p 2) (p 5)

/-- The active product of one phase (R116). -/
def activeProduct (v i : Phasor) : Int := v.re * i.re + v.im * i.im

/-- The reactive product of one phase (R116). -/
def reactiveProduct (v i : Phasor) : Int := v.im * i.re - v.re * i.im

/-- Re² + Im². -/
def Phasor.squared (p : Phasor) : Nat := (p.re * p.re + p.im * p.im).toNat

/-- The phasor of order k in a list that starts at order 1. -/
def phasorAt (l : List Phasor) (k : Nat) : Phasor := l.getD (k - 1) ⟨0, 0⟩

/-- The spectrum of a job from its phasors (R116, R117). -/
def spectrumOf (h : Nat) (phasors : Vector (List Phasor) 6) : Spectrum where
  h := h
  active := (orders h).map fun k => phaseSum activeProduct fun c => phasorAt phasors[c] k
  reactive := (orders h).map fun k => phaseSum reactiveProduct fun c => phasorAt phasors[c] k
  fundamental := Vector.ofFn fun c => (phasorAt phasors[c] 1).squared
  harmonic := Vector.ofFn fun c => ((phasors[c].drop 1).map Phasor.squared).sum

/-! ## Take and completion -/

/-- The engine takes the oldest job: it becomes the job in flight for its engine time (R110). -/
def Engine.take (e : Engine) : Engine :=
  match e.flight, e.queue with
  | none, j :: rest => { e with queue := rest, flight := some ⟨j, jobClocks j.head.snapshot.hMax⟩ }
  | _, _ => e

/-- The spectrum store that a job's completion writes (R121). -/
def storeOf (j : Job) (phasors : Vector (List Phasor) 6) : SpectrumStore where
  tracker := j.head.tracker
  block := j.head.block
  index := j.cycle.index
  generation := j.head.snapshot.generation
  cls := j.head.snapshot.cls
  hMax := j.head.snapshot.hMax
  phasors := phasors

/-- Steps 1 and 2 of a completion (R118): the spectrum store is written; the held spectrum is written, or, for a stale
job, the stale job count decremented (R119). -/
def Engine.record (e : Engine) (j : Job) (phasors : Vector (List Phasor) 6) : Engine :=
  let tap := j.head.tap
  let e1 := { e with store := upd e.store tap (some (storeOf j phasors)), flight := none }
  if 0 < e.stale[tap] then { e1 with stale := modAt e.stale tap (· - 1) }
  else { e1 with held := upd e.held tap (some (spectrumOf j.head.snapshot.hMax phasors)) }

/-- The entries of a correction window written to their class (R34, R45). -/
def State.applyCorrection (s : State) (w : CorrectionWindow) : State :=
  s.setTables
    { s.tables with corrections := modAt s.tables.corrections w.table fun t => writeWindow t w.start w.entries }

/-- Step 4 of a completion: a waiting correction window is applied and its WRITE CORRECTION answered (R45, R161). -/
def State.applyWaitingWindow (s : State) : State :=
  match s.engine.window with
  | none => s
  | some w =>
    let s1 := (s.applyCorrection w).setEngine { s.engine with window := none }
    match s1.management.inService with
    | none => s1
    | some r => s1.answer r .done []

/-- The completion of a job: the five steps of R118. -/
def State.complete (s : State) (j : Job) : State :=
  let phasors := jobPhasors s.tables.corrections j
  let s1 := s.setEngine (s.engine.record j phasors)
  let s2 := s1.accountJob j.head j.cycle (spectrumOf j.head.snapshot.hMax phasors)
  let s3 := s2.applyWaitingWindow
  s3.setEngine s3.engine.take

/-! ## What applications do to the engine (R119) -/

/-- A configuration break of a tap: its held spectrum becomes absent and its stale job count becomes the number of its
jobs in the queue and in flight (R119). -/
def State.breakSpectrum (s : State) (tap : TapId) : State :=
  s.setEngine
    { s.engine with held := upd s.engine.held tap none, stale := upd s.engine.stale tap (s.outstandingJobs tap) }

/-- A job is appended to the cycle queue; `stale` says that a break at the same cycle end makes it stale (R109, R119). -/
def State.appendJob (s : State) (j : Job) (stale : Bool) : State :=
  s.setEngine
    { s.engine with
      queue := s.engine.queue ++ [j]
      stale := if stale then modAt s.engine.stale j.head.tap (· + 1) else s.engine.stale }

/-- A phasor in an answer: real part, imaginary part, 3 bytes each (R177). -/
def Phasor.encode (p : Phasor) : Bytes := intToBE 3 p.re ++ intToBE 3 p.im

/-- The DONE body of READ SPECTRUM; `currents` selects the part (R122, R177). -/
def SpectrumStore.encode (x : SpectrumStore) (tap : TapId) (currents : Bool) : Bytes :=
  let channels : List (Fin 6) := if currents then [3, 4, 5] else [0, 1, 2]
  oneByte tap.val ++ boolByte currents ++ oneByte x.tracker.val ++ toBE 4 x.block.toNat ++ oneByte x.index ++
    toBE 2 x.generation.toNat ++ oneByte x.cls.val ++ oneByte x.hMax ++
    channels.flatMap fun c => x.phasors[c].flatMap Phasor.encode

end Sys2Proof.Machine
end

