-- ==== Sys2Proof/Machine/Trackers.lean ====
section
/-! DEFINITION. The trackers (chapter 5): crossing candidates, the period filter, lock and loss, the dip monitor, and
the pending handover with its shadow detector, commit and drop. -/

namespace Sys2Proof.Machine

open Sys2Proof

/-! ## Crossings (R67, R68) -/

/-- The class of an input sample at a detector (R68): no candidate, or a candidate with its time, and for an accepted
one its distance M from the last crossing. -/
inductive Crossing where
  | none
  | seed (t : BitVec 48)
  | ignored
  | rejected (t : BitVec 48)
  | accepted (t : BitVec 48) (m : Nat)
  deriving DecidableEq, Repr

/-- The time of a candidate between the values x_prev < 0 and x ≥ 0 at the sample counted n (R67). -/
def crossingTime (n : BitVec 32) (previous x : Int) : BitVec 48 :=
  BitVec.ofNat 48 ((n - 1).toNat * 65536 + ((-previous) * 65536 / (x - previous)).toNat)

/-- The class of a candidate at time t against the last crossing, by the window on Lnom (R68). -/
def classifyAt (lnom : Nat) (last : Option (BitVec 48)) (t : BitVec 48) : Crossing :=
  match last with
  | Option.none => .seed t
  | some l =>
    let m := (t - l).toNat
    if 4 * m < 3 * lnom then .ignored else if 5 * lnom < 4 * m then .rejected t else .accepted t m

/-- The class of an input sample with value x, count n and start mark `start` at a detector (R67, R68). -/
def Detector.classify (d : Detector) (lnom : Nat) (start : Bool) (n : BitVec 32) (x : Int) : Crossing :=
  match (if start then Option.none else d.previous) with
  | Option.none => .none
  | some p => if p < 0 ∧ 0 ≤ x then classifyAt lnom d.last (crossingTime n p x) else .none

/-- The detector after a sample of a class: the age counts, x becomes the previous value, and the class has its effect
on the last crossing, the age and the lock count (R68). The lock count of an accepted crossing is set by its owner. -/
def Detector.after (d : Detector) (x : Int) (c : Crossing) : Detector :=
  let d1 := { d with previous := some x, age := satAdd 65535 d.age 1 }
  match c with
  | .none | .ignored => d1
  | .seed t => { d1 with last := some t, age := 0 }
  | .rejected t => { d1 with last := some t, lockCount := 0 }
  | .accepted t _ => { d1 with last := some t, age := 0 }

/-- The period filter: an eighth of the difference, toward zero, clamped to the band of Lnom (R69). -/
def filterPeriod (lnom lfix m : Nat) : Nat :=
  (clampInt (bandLow lnom) (bandHigh lnom) ((lfix : Int) + ((m : Int) - lfix).tdiv 8)).toNat

/-- |M - period| ≤ floor(period / 64) (R72, R83). -/
def inLockWindow (period m : Nat) : Bool := decide (((m : Int) - period).natAbs ≤ period / 64)

/-- A lock count after an accepted crossing, tested against the period before its update; it stops at 4 (R72, R83). -/
def nextLockCount (count period m : Nat) : Nat := if inLockWindow period m then satAdd 4 count 1 else 0

/-- The detector after an accepted crossing has been tested against a period (R72, R83). -/
def Detector.testLock (d : Detector) (c : Crossing) (period : Nat) : Detector :=
  match c with
  | .accepted _ m => { d with lockCount := nextLockCount d.lockCount period m }
  | _ => d

/-! ## State changes (R73, R81) -/

/-- A state entered, with its mark on the cycle in progress (R80). -/
def Tracker.enter (k : Tracker) (st : TrackerState) : Tracker := { k with state := st, marks := k.marks.add st }

/-- The TRACKER notice of a change out of `previous`, made after the change (R81). -/
def State.trackerNotice (s : State) (t : TrackerId) (previous : TrackerState) (cause : TrackerCause) : State :=
  s.handOver
    (.tracker t previous s.trackers[t].state cause s.tables.settings[t].reference (s.lfix t) s.intake.count)

/-- The loss of a tracker into HOLDOVER: Lfix frozen, the four counts 0 (R73). -/
def Tracker.lose (k : Tracker) : Tracker :=
  { k.enter .holdover with
    holdoverCount := 0
    detector := { k.detector with lockCount := 0 }
    rejections := 0
    dipCount := 0 }

/-- The loss of a tracker with its notice (R73). -/
def State.lose (s : State) (t : TrackerId) (cause : TrackerCause) : State :=
  let before := s.trackers[t].state
  (s.modTracker t Tracker.lose).trackerNotice t before cause

/-- ACQUIRING or LOCKED. -/
def TrackerState.onBus : TrackerState → Bool
  | .acquiring | .locked => true
  | .idle | .holdover | .freerun | .following => false

/-- HOLDOVER or FREERUN. -/
def TrackerState.offBus : TrackerState → Bool
  | .holdover | .freerun => true
  | .idle | .acquiring | .locked | .following => false

/-! ## The main detector at an input sample -/

/-- An accepted crossing in each state: lock test and filter in ACQUIRING, filter in LOCKED, reacquisition in HOLDOVER
and FREERUN (R68, R69, R72, R75). -/
def State.acceptCrossing (s : State) (t : TrackerId) (m : Nat) : State :=
  let k := s.trackers[t]
  match k.state with
  | .acquiring =>
    let s1 := s.modTracker t fun k =>
      { k with
        rejections := 0
        detector := { k.detector with lockCount := nextLockCount k.detector.lockCount k.lfix m }
        lfix := filterPeriod s.lnom k.lfix m }
    if nextLockCount k.detector.lockCount k.lfix m = 4 then
      (s1.modTracker t fun k => k.enter .locked).trackerNotice t .acquiring .lock
    else s1
  | .locked => s.modTracker t fun k => { k with rejections := 0, lfix := filterPeriod s.lnom k.lfix m }
  | .holdover | .freerun =>
    (s.modTracker t fun k =>
      { k.enter .acquiring with rejections := 0, detector := { k.detector with lockCount := 0 } }).trackerNotice
      t k.state .reacquire
  | .idle | .following => s

/-- A rejected candidate: in ACQUIRING or LOCKED the rejection count advances, and at 3 the tracker is lost (R68, R73). -/
def State.rejectCrossing (s : State) (t : TrackerId) : State :=
  if s.trackers[t].state.onBus then
    let s1 := s.modTracker t fun k => { k with rejections := satAdd 3 k.rejections 1 }
    if s1.trackers[t].rejections = 3 then s1.lose t .rejections else s1
  else s

/-- The crossing age has reached twice the nominal period (R73). -/
def ageReached (lnom age : Nat) : Bool := decide (2 * lnom ≤ age * 65536)

/-- The loss of a tracker whose crossing age has reached its limit, in ACQUIRING or LOCKED (R73). -/
def State.checkAge (s : State) (t : TrackerId) : State :=
  if s.trackers[t].state.onBus && ageReached s.lnom s.trackers[t].detector.age then s.lose t .noCrossing else s

/-- The main detector of a running tracker examines an input sample with reference value x (R67, R68, R73). -/
def State.examineMain (s : State) (t : TrackerId) (start : Bool) (x : Int) : State :=
  let c := s.trackers[t].detector.classify s.lnom start s.intake.count x
  let s1 := s.modTracker t fun k => { k with detector := k.detector.after x c }
  let s2 :=
    match c with
    | .accepted _ m => s1.acceptCrossing t m
    | .rejected _ => s1.rejectCrossing t
    | .none | .seed _ | .ignored => s1
  s2.checkAge t

/-- The shadow detector of a pending handover examines an input sample with value x of the new channel (R83). -/
def Handover.examine (h : Handover) (lnom : Nat) (start : Bool) (n : BitVec 32) (x : Int) : Handover :=
  let c := h.shadow.classify lnom start n x
  let d := (h.shadow.after x c).testLock c h.ls
  match c with
  | .accepted _ m =>
    { h with shadow := d, ls := filterPeriod lnom h.ls m, locked := h.locked || decide (d.lockCount = 4) }
  | _ => { h with shadow := d }

/-- The pending handover's shadow at an input sample, if there is one (R83, R84). -/
def State.examineShadow (s : State) (t : TrackerId) (start : Bool) (values : ChannelValues) : State :=
  s.modTracker t fun k =>
    { k with handover := k.handover.map fun h => h.examine s.lnom start s.intake.count values[h.channel] }

/-- The crossing candidates of an input sample at a running tracker, on the main and the shadow detector, before the
sample's points are produced (R80, R84). -/
def State.examine (s : State) (t : TrackerId) (start : Bool) (values : ChannelValues) : State :=
  (s.examineMain t start values[s.tables.settings[t].reference]).examineShadow t start values

/-! ## The dip monitor (R70) -/

/-- Is a half-cycle with this sum of squares a dip? -/
def isDip (threshold halfSum : Nat) : Bool := decide (threshold ≠ 0) && decide (halfSum / 64 < threshold)

/-- The dip count after a half (R70). -/
def nextDipCount (state : TrackerState) (count : Nat) (dip : Bool) : Nat :=
  if state.onBus then if dip then satAdd 2 count 1 else 0 else 0

/-- The half-cycle check at point 63 or 127 (R70), with the loss at the second consecutive dip (R73). -/
def State.dipCheck (s : State) (t : TrackerId) : State :=
  let dip := isDip s.tables.settings[t].dipThreshold s.trackers[t].halfSum
  let s1 := s.modTracker t fun k =>
    { k with
      halfSum := 0
      marks := if dip then { k.marks with dip := true } else k.marks
      dipCount := nextDipCount k.state k.dipCount dip }
  if s1.trackers[t].state.onBus && decide (s1.trackers[t].dipCount = 2) then s1.lose t .dips else s1

/-! ## Reference handover (section 5.4) -/

/-- The HANDOVER notice of a pending handover h, with the reference before the event and the state after it (R89). -/
def State.handoverNotice (s : State) (t : TrackerId) (outcome : HandoverOutcome) (old : Channel) (h : Handover) : State :=
  s.handOver (.handover t outcome old h.channel h.timeout h.locked s.trackers[t].state h.ls)

/-- The tracker after a commit (R85). -/
def Tracker.commit (k : Tracker) (h : Handover) : Tracker :=
  { k.enter .locked with
    lfix := h.ls
    detector := ⟨h.shadow.previous, h.shadow.last, 0, h.shadow.age⟩
    rejections := 0
    dipCount := 0
    holdoverCount := 0
    handover := none }

/-- The commit of a pending handover: the reference moves, the tracker becomes LOCKED, and the HANDOVER notice is made,
before a TRACKER notice where the state changed (R85). -/
def State.commit (s : State) (t : TrackerId) (h : Handover) : State :=
  let before := s.trackers[t].state
  let old := s.tables.settings[t].reference
  let s1 := (s.modSettings t fun x => { x with reference := h.channel }).modTracker t fun k => k.commit h
  let s2 := s1.handoverNotice t .committed old h
  if before = .locked then s2 else s2.trackerNotice t before .commit

/-- A pending handover h is dropped with a HANDOVER notice (R86, R87). -/
def State.dropHandover (s : State) (t : TrackerId) (outcome : HandoverOutcome) (h : Handover) : State :=
  (s.modTracker t fun k => { k with handover := none }).handoverNotice t outcome s.tables.settings[t].reference h

/-- The advance of the timeout count of an unlocked handover, and its drop at 64 (R86). -/
def State.advanceTimeout (s : State) (t : TrackerId) (h : Handover) : State :=
  let h1 := { h with timeout := h.timeout + 1 }
  if Config.handoverTimeoutCount ≤ h1.timeout then s.dropHandover t .timedOut h1
  else s.modTracker t fun k => { k with handover := some h1 }

/-- The handover step of a cycle end (R80 step 3). -/
def State.handoverStep (s : State) (t : TrackerId) : State :=
  match s.trackers[t].handover with
  | none => s
  | some h => if h.locked then s.commit t h else s.advanceTimeout t h

/-- The advance of the holdover count, and FREERUN at the holdover limit (R74). -/
def State.advanceHoldover (s : State) (t : TrackerId) : State :=
  if s.tables.settings[t].holdoverLimit ≤ s.trackers[t].holdoverCount + 1 then
    (s.modTracker t fun k => { k.enter .freerun with lfix := s.lnom, holdoverCount := 0 }).trackerNotice
      t .holdover .holdoverLimit
  else s.modTracker t fun k => { k with holdoverCount := k.holdoverCount + 1 }

/-- The tracker's own work at a cycle end (R80), with the ended cycle's marks: the dip check, the marks, the handover
step, the holdover step (not where HOLDOVER was entered by the dip check), and the next cycle's first mark. -/
def State.trackerWork (s : State) (t : TrackerId) : State × Marks :=
  let s1 := s.dipCheck t
  let entered := decide (s.trackers[t].state ≠ .holdover) && decide (s1.trackers[t].state = .holdover)
  let marks := s1.trackers[t].marks
  let s2 := s1.handoverStep t
  let s3 := if decide (s2.trackers[t].state = .holdover) && !entered then s2.advanceHoldover t else s2
  (s3.modTracker t fun k => { k with marks := .ofState k.state }, marks)

/-! ## Breaks and changes of rate (R79, R88, R30) -/

/-- The shadow at a break: last crossing, previous value, lock count, age and lock flag are lost (R88). -/
def Handover.atBreak (h : Handover) : Handover := { h with shadow := .cleared, locked := false }

/-- A running tracker at a stream break or leaving of AGREED (R63, R79). -/
def Tracker.atBreak (k : Tracker) : Tracker :=
  { k with
    detector := ⟨k.detector.previous, none, 0, 0⟩
    rejections := 0
    halfSum := 0
    dipCount := 0
    marks := .ofState k.state
    handover := k.handover.map Handover.atBreak }

/-- The pending handover at a change of rate (R30, R88). -/
def Handover.atRate (h : Handover) (lnom : Nat) : Handover :=
  { h with ls := lnom, locked := false, shadow := { h.shadow with lockCount := 0 } }

/-- A running tracker at a change of rate: ACQUIRING at the new Lnom, counts and crossing age 0 (R30, R79). -/
def Tracker.atRate (k : Tracker) (lnom : Nat) : Tracker :=
  { k with
    state := .acquiring
    marks := .ofState .acquiring
    lfix := lnom
    detector := { k.detector with lockCount := 0, age := 0 }
    rejections := 0
    dipCount := 0
    handover := k.handover.map fun h => h.atRate lnom }

/-- One tracker at a change of rate, with its RATE_CHANGE notice where the state changed (R30, R81). -/
def State.rateChange (s : State) (t : TrackerId) : State :=
  match s.trackers[t].state with
  | .idle => s
  | .following => s.modTracker t fun k => { k with lfix := s.lnom }
  | .acquiring => s.modTracker t fun k => k.atRate s.lnom
  | .locked | .holdover | .freerun =>
    (s.modTracker t fun k => k.atRate s.lnom).trackerNotice t s.trackers[t].state .rateChange

end Sys2Proof.Machine
end

