-- ==== Sys2Proof/Machine/Former.lean ====
section
/-! DEFINITION. The cycle former (chapter 6): the resampler, block index and alignment, tariffs, taps in cycles, the
applications of tap entries, the cycle end with its entries, and the starts, stops and breaks of trackers. -/

namespace Sys2Proof.Machine

open Sys2Proof

/-! ## Taps in cycles (R100, R102, R103) -/

/-- A tap that stops collecting, or begins a cycle: point area, clip count and CHANNEL_ABSENT mark cleared (R100). -/
def FormerTap.clear (f : FormerTap) (collect : Collect) : FormerTap :=
  { f with collect := collect, points := .cleared, clips := 0, absent := false }

/-- Input samples added to a tap's pending unaccounted count, saturating (R100). -/
def FormerTap.addUnaccounted (f : FormerTap) (n : Nat) : FormerTap :=
  { f with unaccounted := satAdd (2 ^ 32 - 1) f.unaccounted n }

/-- The gap a tap has counted so far; 0 where it counts none (R102, R103). -/
def FormerTap.gap (f : FormerTap) : Nat :=
  match f.collect with
  | .joining (some n) => n
  | .joining none | .inactive | .collecting => 0

/-- A tap at a cycle start of the tracker it collects from or waits for: a JOINING tap becomes COLLECTING and its gap
is added to its pending unaccounted count (R100, R102). -/
def FormerTap.cycleStart (f : FormerTap) : FormerTap :=
  match f.collect with
  | .inactive => f
  | .joining _ | .collecting => (f.addUnaccounted f.gap).clear .collecting

/-- A cycle start of tracker t, for the taps of every tracker whose cycles are t's (R100, R105 step 6). -/
def State.cycleStart (s : State) (t : TrackerId) : State :=
  s.mapFormerTaps fun tap f => if s.cycleSource (s.tapTracker tap) = some t then f.cycleStart else f

/-- A tap's cycle abandoned: its points are discarded and `n` input samples become unaccounted, for a tap that was
collecting it (R63, R76, R77, R78). -/
def FormerTap.abandon (f : FormerTap) (n : Nat) : FormerTap :=
  match f.collect with
  | .collecting => (f.addUnaccounted n).clear .collecting
  | .inactive | .joining _ => f

/-- The samples that a break makes unaccounted for a tap of the cycle: those since the last cycle end or break, and none
where no point has been collected yet (R63; DEDUCED that this is point index 0, notes/assumptions/10.md). -/
def Resampler.breakSamples (r : Resampler) : Nat := if r.point = 0 then 0 else r.samples

/-- The cycle in progress of tracker t abandoned for the taps that `which` selects, with the samples that `samples`
counts on t's resampler (R63, R76, R77, R78). -/
def State.abandonCycle (s : State) (t : TrackerId) (samples : Resampler → Nat) (which : TapId → Bool) : State :=
  match s.former.trackers[t].resampler with
  | none => s
  | some r => s.mapFormerTaps fun tap f => if which tap then f.abandon (samples r) else f

/-- A resampler start of tracker t, with the cycle start it makes (R91). -/
def State.startResampler (s : State) (t : TrackerId) : State :=
  (s.modFormerTracker t fun f => { f with resampler := some (.start s.trackers[t].lfix) }).cycleStart t

/-- The tracker has no resampler from here on (R91). -/
def State.discardResampler (s : State) (t : TrackerId) : State :=
  s.modFormerTracker t fun f => { f with resampler := none }

/-! ## Block index and alignment (R94, R96) -/

/-- What the index step of a cycle end decides (R94, R96). -/
structure IndexStep where
  close : Option CloseReason
  taken : Bool
  held : Bool

/-- The decision of R94 and R96 at the ended cycle c, by the values in force before the cycle end. -/
def FormerTracker.indexDecision (f : FormerTracker) : IndexStep :=
  let natural := f.index + 1 = f.inForce.length
  match f.align, f.inForce.align with
  | .due, .hard => ⟨some (if natural then .natural else .aligned), true, false⟩
  | .due, .soft =>
    if natural then ⟨some .natural, true, false⟩ else if f.reindexed then ⟨none, false, true⟩ else ⟨none, true, false⟩
  | .held, _ => ⟨if natural then some .natural else none, natural, false⟩
  | .due, .off | .none, _ => ⟨if natural then some .natural else none, false, false⟩

/-- The cycle former's index step for a tracker with the written block settings (R94, R96, R105 step 2): the cycle end
since the mark counted, the close with the written settings taken into force, and the next index. -/
def FormerTracker.indexStep (f : FormerTracker) (written : BlockSettings) : FormerTracker :=
  let d := f.indexDecision
  let inForce := if d.close.isSome then written else f.inForce
  let plain := if d.close.isSome then 0 else f.index + 1
  let next := if d.taken then inForce.preset else plain
  { f with
    cycleEnds := satAdd 65535 f.cycleEnds 1
    inForce := inForce
    index := next
    align := if d.taken then .none else if d.held then .held else f.align
    reindexed := if d.close.isSome then false else f.reindexed || (d.taken && next != plain)
    realigned := d.taken && next != plain }

/-! ## Tariffs (R97, R99) -/

/-- The pending record is open (R99). -/
def PendingTariff.isOpen (p : PendingTariff) (second : Option (BitVec 32)) : Bool :=
  match p.effective, second with
  | none, _ => true
  | some e, some n => decide (e.toNat ≤ n.toNat)
  | some _, none => false

/-- Every tracker that is enabled and not FOLLOWING has its applied flag set (R99). -/
def State.tariffApplied (s : State) (p : PendingTariff) : Bool :=
  ([0, 1] : List TrackerId).all fun t =>
    !s.tables.settings[t].enabled || decide (s.trackers[t].state = .following) || p.applied[t]

/-- The removal of the pending record at an application and at a WRITE TRACKER that disables a tracker or sets it to
FOLLOWING (R99). -/
def State.removeTariff (s : State) : State :=
  match s.former.pendingTariff with
  | none => s
  | some p => if s.tariffApplied p then s.setFormer { s.former with pendingTariff := none } else s

/-- The tariff step at a block close of tracker u (R97, R99, R105 step 3): a running tracker applies an open pending
record; a following tracker 1 takes tracker 0's tariff. -/
def State.tariffStep (s : State) (u : TrackerId) : State :=
  if s.trackers[u].state = .following then
    s.modFormerTracker u fun f => { f with tariff := s.former.trackers[(0 : TrackerId)].tariff }
  else
    match s.former.pendingTariff with
    | none => s
    | some p =>
      if !p.applied[u] && p.isOpen s.former.second then
        let s1 := s.modFormerTracker u fun f => { f with tariff := p.tariff }
        (s1.setFormer
          { s1.former with pendingTariff := some { p with applied := upd p.applied u true } }).removeTariff
      else s

/-! ## Applications of tap entries (R40, R101, R103) -/

/-- The class of an application (R40). -/
inductive ApplyClass where
  | plain | configBreak | trackerMove
  deriving DecidableEq, Repr

/-- An application classified by the applied entry and the entry in force before it (R40). -/
def classifyApply (old new : TapEntry) : ApplyClass :=
  if new.tracker ≠ old.tracker then .trackerMove else if new.channels ≠ old.channels then .configBreak else .plain

/-- The table store's part of an application, with the held spectrum and the stale count at a configuration break (R40,
R119). -/
def State.applyEntry (s : State) (tap : TapId) (e : TapEntry) : State :=
  let s1 := s.modTapSlot tap fun x => ⟨e, x.generation + 1, none⟩
  if classifyApply (s.tapEntry tap) e = .plain then s1 else s1.breakSpectrum tap

/-- The collection state of a tap that an application leaves INACTIVE or brings onto a tracker that makes cycles: such
a tap joins and counts no gap (R103). -/
def State.collectAfterApply (s : State) (e : TapEntry) : Collect :=
  if e.enabled && s.makesCycles e.tracker then .joining none else .inactive

/-- An application to an INACTIVE tap: no block boundary, whatever its class (R39, R41, R103). -/
def State.applyInactive (s : State) (tap : TapId) (e : TapEntry) : State :=
  (s.applyEntry tap e).modFormerTap tap fun f => f.clear (s.collectAfterApply e)

/-- The collection state of a JOINING or COLLECTING tap after an application at a cycle end (R101, R102). -/
def State.collectAtCycleEnd (s : State) (old new : TapEntry) (collect : Collect) : Collect :=
  if new.enabled then
    if new.tracker ≠ old.tracker then if s.makesCycles new.tracker then .joining (some 0) else .inactive
    else collect
  else .inactive

/-- Does an application at a cycle end close the tap's block with reason CONFIG (R101)? -/
def closesBlock (old new : TapEntry) : Bool := !new.enabled || decide (classifyApply old new ≠ .plain)

/-- The staged entry of a tap of tracker u applied at a cycle end (R101). A JOINING tap that the application takes
off its tracker adds the gap it has counted to its pending count, as at a stop (R103). -/
def State.applyStaged (s : State) (tap : TapId) : State :=
  match s.tables.taps[tap].staged with
  | none => s
  | some e =>
    match s.former.taps[tap].collect with
    | .inactive => s.applyInactive tap e
    | .joining _ | .collecting =>
      let next := s.collectAtCycleEnd (s.tapEntry tap) e s.former.taps[tap].collect
      (s.applyEntry tap e).modFormerTap tap fun f =>
        if next = f.collect then f else (f.addUnaccounted f.gap).clear next

/-- The staged entries of the taps whose tracker in force is u, applied in tap order (R101, R105 step 4). -/
def State.applyAllStaged (s : State) (u : TrackerId) : State :=
  allTaps.foldl (fun s' tap => if s.tapTracker tap = u then s'.applyStaged tap else s') s

/-! ## Entries (R106, R107) -/

/-- The snapshot of a tap's entry in force (R40). -/
def State.snapshot (s : State) (tap : TapId) : Snapshot :=
  let x := s.tables.taps[tap]
  ⟨x.entry.cls, x.entry.hMax, x.entry.accounting, x.generation⟩

/-- The time stamp of an entry with a close marker (R107). -/
def State.stamp (s : State) (u : TrackerId) (close : Option CloseReason) : Option TimeStamp :=
  match close, s.former.second with
  | some _, some n => some ⟨n, s.former.trackers[u].cycleEnds⟩
  | _, _ => none

/-- What the cycle end of tracker u hands to every tap's entry: the ended cycle's index, S_c, period, marks, FILLED and
REALIGNED, the tracker's close and the tariff before the tariff step (R105, R107). -/
structure EndedCycle where
  tracker : TrackerId
  index : Nat
  length : Nat
  period : Nat
  marks : Marks
  filled : Bool
  realigned : Bool
  close : Option CloseReason
  tariff : Tariff

/-- The pending unaccounted count is handed in an entry and set to 0 (R100). -/
def State.takeUnaccounted (s : State) (tap : TapId) : State :=
  s.modFormerTap tap fun f => { f with unaccounted := 0 }

/-- The head of a tap's cycle entry; `config` says that an application of this cycle end closed its block (R107). -/
def State.entryHead (s : State) (c : EndedCycle) (tap : TapId) (config : Bool) : EntryHead :=
  let close := if config then some .config else c.close
  { tap := tap
    tracker := c.tracker
    block := s.accounts[tap].blockNumber
    close := close
    unaccounted := s.former.taps[tap].unaccounted
    tariff := c.tariff
    snapshot := s.snapshot tap
    stamp := s.stamp c.tracker close }

/-- The cycle fields of a tap's entry, from the tap as it collected the ended cycle; `absent` says that the entry in
force names an absent channel (R107). The mark that the tap has kept with the cycle counts too (R100). -/
def EndedCycle.info (c : EndedCycle) (f : FormerTap) (absent : Bool) : CycleInfo :=
  ⟨c.index, c.length, c.period, c.marks, c.filled, f.clips, f.absent || absent, c.realigned⟩

/-- The cycle entry of a tap that collected the ended cycle: a job, an estimate or a dropped entry, registered at once
(R106). `f` is the tap as it collected, `config` and `stale` say what an application of this cycle end did. The entry
carries CHANNEL_ABSENT where the entry in force, after that application, names an absent channel (R61, R107); DEDUCED: it
does so also where the channels collected before the application did (notes/assumptions/24.md). -/
def State.buildEntry (s : State) (c : EndedCycle) (tap : TapId) (f : FormerTap) (config stale : Bool) : State :=
  let head := s.entryHead c tap config
  let info := c.info f (s.namesAbsent tap)
  let s1 := s.takeUnaccounted tap
  if s1.engine.queue.length < Config.cycleQueueCapacity then
    (s1.appendJob ⟨head, info, f.points⟩ stale).register (.job head info)
  else
    match s1.engine.held[tap] with
    | some copy => s1.register (.estimate head info copy)
    | none => s1.register (.dropped head info)

/-- A close entry of a tap: an entry without a cycle, reason CONFIG, with the snapshot given (R101, R103, R107). -/
def State.closeEntry (s : State) (u : TrackerId) (tariff : Tariff) (tap : TapId) (snapshot : Snapshot) : State :=
  let head : EntryHead :=
    { tap := tap
      tracker := u
      block := s.accounts[tap].blockNumber
      close := some .config
      unaccounted := s.former.taps[tap].unaccounted
      tariff := tariff
      snapshot := snapshot
      stamp := s.stamp u (some .config) }
  (s.takeUnaccounted tap).register (.close head)

/-- A tap's block number advances by one at a block boundary (R104). -/
def State.advanceBlock (s : State) (tap : TapId) : State :=
  s.modAccount tap fun t => { t with blockNumber := t.blockNumber + 1 }

/-- Did the application of a cycle end close this tap's block, seen from the state before the applications? -/
def configClosed (before : State) (tap : TapId) : Bool :=
  match before.tables.taps[tap].staged with
  | none => false
  | some e => closesBlock (before.tapEntry tap) e

/-- Was the application of a cycle end a configuration break, seen from the state before the applications? -/
def configBroken (before : State) (tap : TapId) : Bool :=
  match before.tables.taps[tap].staged with
  | none => false
  | some e => decide (classifyApply (before.tapEntry tap) e ≠ .plain)

/-- One tap at step 5 of the cycle end of c's tracker (R106): its cycle entry if it collected the ended cycle, a close
entry if it was JOINING and an application closed its block, nothing otherwise. `before` is the state before the
applications. -/
def State.entryOf (s before : State) (c : EndedCycle) (tap : TapId) : State :=
  if before.tapTracker tap = c.tracker then
    match before.former.taps[tap].collect with
    | .collecting =>
      s.buildEntry c tap before.former.taps[tap] (configClosed before tap) (configBroken before tap)
    | .joining _ =>
      if configClosed before tap then s.closeEntry c.tracker c.tariff tap (before.snapshot tap) else s
    | .inactive => s
  else s

/-- Does step 5 close the tap's block (R94, R101, R104)? -/
def closedAtEnd (before : State) (c : EndedCycle) (tap : TapId) : Bool :=
  decide (before.tapTracker tap = c.tracker) &&
    match before.former.taps[tap].collect with
    | .collecting => c.close.isSome || configClosed before tap
    | .joining _ => configClosed before tap
    | .inactive => false

/-- Step 5 of a cycle end: the entries in ascending tap order, then the block numbers of the closed blocks (R105). -/
def State.buildEntries (s before : State) (c : EndedCycle) : State :=
  let s1 := allTaps.foldl (fun s' tap => s'.entryOf before c tap) s
  allTaps.foldl (fun s' tap => if closedAtEnd before c tap then s'.advanceBlock tap else s') s1

/-! ## The cycle end (R105) -/

/-- Steps 2 to 5 of a cycle end for tracker u, whose cycle ended with S_c = `length` (R105). -/
def State.formerPart (s : State) (length period : Nat) (filled : Bool) (marks : Marks) (u : TrackerId) : State :=
  let f := s.former.trackers[u]
  let following := decide (s.trackers[u].state = .following)
  let c : EndedCycle :=
    { tracker := u
      index := f.index
      length := length
      period := period
      marks := if following then { marks with following := true } else marks
      filled := filled
      realigned := f.realigned
      close := f.indexDecision.close
      tariff := f.tariff }
  let s1 := s.modFormerTracker u fun f => f.indexStep s.tables.settings[u].written
  let s2 := if c.close.isSome then s1.tariffStep u else s1
  (s2.applyAllStaged u).buildEntries s2 c

/-- The cycle end of running tracker t (R93, R105): the tracker's own work, then the cycle former's steps 1 to 5, for
tracker 1 too where it follows tracker 0, then the cycle start. `r` is the resampler with the ended cycle's sample
count and FILLED mark; `acc` is the accumulator after the reduction. -/
def State.cycleEnd (s : State) (t : TrackerId) (r : Resampler) (acc : Nat) : State :=
  let (s1, marks) := s.trackerWork t
  let lfix := s1.trackers[t].lfix
  let s2 := s1.modFormerTracker t fun f =>
    { f with resampler := some ⟨acc, 0, increment lfix, 0, lfix, false⟩ }
  let s3 := s2.formerPart r.samples r.period r.filled marks t
  let s4 := if t = 0 ∧ s3.follows then s3.formerPart r.samples r.period r.filled marks 1 else s3
  s4.cycleStart t

/-! ## The resampler at an input sample (R92, R93) -/

/-- One interpolated value: x_prev + round((x - x_prev) (B - A) / I) (R92). -/
def interpolate (previous x : Int) (num inc : Nat) : Int := previous + roundDiv ((x - previous) * num) inc

/-- One point p of tracker t's cycle, at B - A = `num` and increment `inc`: into the point areas of the taps that collect
the cycle, and into the dip monitor's half sum, which is checked at point 63 (R70, R92, R100). -/
def State.producePoint (s : State) (t : TrackerId) (previous values : ChannelValues) (num inc : Nat) (p : Fin 128) :
    State :=
  let y (c : Channel) : Int := interpolate previous[c] values[c] num inc
  let s1 := s.mapFormerTaps fun tap f =>
    if s.collectsFrom t tap then
      { f with points := Vector.ofFn fun c => upd f.points[c] p (y (s.tapEntry tap).channels[c]) }
    else f
  let ref := y s.tables.settings[t].reference
  let s2 := s1.modTracker t fun k => { k with halfSum := k.halfSum + (ref * ref).toNat }
  if p = 63 then s2.dipCheck t else s2

/-- The points of one step from the next point p on, for every boundary B = (p + 1) x 65536 with A < B ≤ A_new, up to
point 127; the state after them and the next point's index (R92). At most `fuel` points are made, and a cycle has 128. -/
def State.producePoints (s : State) (t : TrackerId) (previous values : ChannelValues) (r : Resampler) :
    Nat → Nat → State × Nat
  | 0, p => (s, p)
  | fuel + 1, p =>
    if h : p < 128 then
      if r.acc < (p + 1) * 65536 ∧ (p + 1) * 65536 ≤ r.acc + r.inc then
        (s.producePoint t previous values ((p + 1) * 65536 - r.acc) r.inc ⟨p, h⟩).producePoints t previous values r
          fuel (p + 1)
      else (s, p)
    else (s, p)

/-- One resampler step of running tracker t at an input sample (R92), with the cycle end where it produces point 127,
and then point 0 of the next cycle where the reduced accumulator has passed it (R93). -/
def State.resample (s : State) (t : TrackerId) (previous values : ChannelValues) (filled : Bool) : State :=
  match s.former.trackers[t].resampler with
  | none => s
  | some r =>
    let (s1, next) := s.producePoints t previous values r 128 r.point
    let r1 := { r with acc := r.acc + r.inc, point := next, samples := r.samples + 1, filled := r.filled || filled }
    if next < 128 then s1.modFormerTracker t fun f => { f with resampler := some r1 }
    else
      let acc := r.acc + r.inc - Config.cycleUnits
      let s2 := s1.cycleEnd t r1 acc
      if acc < 65536 then s2
      else
        (s2.producePoint t previous values (65536 + Config.cycleUnits - r.acc) r.inc 0).modFormerTracker t fun f =>
          { f with resampler := f.resampler.map fun r2 => { r2 with point := 1 } }

/-! ## Mark arrivals (R95) -/

/-- A tracker's part of a mark arrival (R95). -/
def FormerTracker.markArrival (f : FormerTracker) (makesCycles : Bool) : FormerTracker :=
  { f with
    cycleEnds := 0
    align := if makesCycles && decide (f.inForce.align ≠ .off) && decide (f.align ≠ .held) then .due else f.align }

/-- A mark arrival with its second count (R95). -/
def State.markArrival (s : State) (second : BitVec 32) : State :=
  s.setFormer
    { s.former with
      second := some second
      trackers := Vector.ofFn fun t => s.former.trackers[t].markArrival (s.makesCycles t) }

/-! ## Trackers that start and stop making cycles (R103) -/

/-- A tracker's block index at a start or a stop: 0, its alignment NONE; the written block settings are taken into
force at a start, and at any time the tracker is IDLE (R47, R103). -/
def State.clearBlockIndex (s : State) (u : TrackerId) (takeWritten : Bool) : State :=
  s.modFormerTracker u fun f =>
    { f with
      index := 0
      inForce := if takeWritten then s.tables.settings[u].written else f.inForce
      align := .none
      reindexed := false
      realigned := false }

/-- Tracker u starts making cycles: its enabled taps pass from INACTIVE to COLLECTING (R103). -/
def State.startCycles (s : State) (u : TrackerId) : State :=
  (s.clearBlockIndex u true).mapFormerTaps fun tap f =>
    if s.tapTracker tap = u ∧ (s.tapEntry tap).enabled ∧ f.collect = .inactive then f.clear .collecting else f

/-- One tap at a stop of its tracker u: the gap counted so far is added, the close entry built and its block number
advanced, and the tap becomes INACTIVE (R103, R104). -/
def State.stopTap (s : State) (u : TrackerId) (tap : TapId) : State :=
  match s.former.taps[tap].collect with
  | .inactive => s
  | .joining _ | .collecting =>
    let s1 := s.modFormerTap tap fun f => f.addUnaccounted f.gap
    let s2 := (s1.closeEntry u s1.former.trackers[u].tariff tap (s1.snapshot tap)).advanceBlock tap
    s2.modFormerTap tap fun f => f.clear .inactive

/-- The trackers that `stopping` selects stop making cycles: the close entries of their taps in one ascending order,
then the staged entries waiting on them, applied to INACTIVE taps (R41, R103). -/
def State.stopCycles (s : State) (stopping : TrackerId → Bool) : State :=
  let s1 := allTaps.foldl
    (fun s' tap => if stopping (s.tapTracker tap) then s'.stopTap (s.tapTracker tap) tap else s') s
  let s2 := ([0, 1] : List TrackerId).foldl (fun s' u => if stopping u then s'.clearBlockIndex u false else s') s1
  allTaps.foldl (fun s' tap => if stopping (s.tapTracker tap) then s'.applyStaged tap else s') s2

/-! ## Breaks and changes of rate -/

/-- Running tracker t at a break (R63): its cycle is abandoned for every tap collecting it, the detectors and the dip
monitor lose what R79 says, and the resampler starts again. -/
def State.breakTracker (s : State) (t : TrackerId) : State :=
  if s.trackers[t].state.isRunning then
    ((s.abandonCycle t Resampler.breakSamples fun tap => s.collectsFrom t tap).modTracker t Tracker.atBreak).startResampler t
  else s

/-- The effect of a stream break, and of the leaving of AGREED, on the trackers and the cycle former (R63). -/
def State.breakCycles (s : State) : State := (s.breakTracker 0).breakTracker 1

/-- A change of rate: each tracker in order, then each running tracker's increment from its new Lfix (R30, R91). -/
def State.changeRate (s : State) : State :=
  let s1 := (s.rateChange 0).rateChange 1
  ([0, 1] : List TrackerId).foldl
    (fun s' t =>
      s'.modFormerTracker t fun f =>
        { f with
          resampler := f.resampler.map fun r =>
            { r with inc := increment s'.trackers[t].lfix, period := s'.trackers[t].lfix } }) s1

end Sys2Proof.Machine
end

