-- ==== Sys2Proof/Machine/Intake.lean ====
section
/-! DEFINITION. The intake (chapter 4): admission, the sequence check, gap filling, stream breaks, calibration, and the
handing on of an input sample to the trackers and the cycle former; and the effect of leaving and entering AGREED on
it. -/

namespace Sys2Proof.Machine

open Sys2Proof

/-! ## Calibration (R59 to R61) -/

/-- The calibrated value of a code before the clamp (R59). -/
def calibrate (e : ChannelEntry) (code : Int) : Int := roundDiv ((code - e.offset) * e.gain.toNat) 32768

/-- The clamp to -524288 to 524287 (R59). -/
def clampValue (v : Int) : Int := clampInt (-524288) 524287 v

/-- The calibrated values of an admitted frame; an absent channel holds 0 (R59, R61). -/
def calibrateSet (table : Vector ChannelEntry 48) (count : Nat) (x : SampleSet) : ChannelValues :=
  Vector.ofFn fun c => if c.val < count then clampValue (calibrate table[c] (x.value c.val)) else 0

/-- The channels of an admitted frame whose values were clamped (R59, R62). -/
def clampedSet (table : Vector ChannelEntry 48) (count : Nat) (x : SampleSet) : Vector Bool 48 :=
  Vector.ofFn fun c =>
    decide (c.val < count) &&
      decide (calibrate table[c] (x.value c.val) ≠ clampValue (calibrate table[c] (x.value c.val)))

/-- CLIPPED, and one clip for each clamped value at each collecting tap that uses its channel (R60, R65). -/
def State.countClips (s : State) (clamped : Vector Bool 48) : State :=
  let s1 := if clamped.toList.any id then s.setLatches { s.latches with clipped := true } else s
  s1.mapFormerTaps fun tap f =>
    if f.collect = .collecting then
      { f with
        clips := satAdd 65535 f.clips (((s.tapEntry tap).channels.toList.filter fun c => clamped[c]).length) }
    else f

/-! ## Input samples (R62) -/

/-- What an input sample brings to every tap before the trackers work: a counted gap grows, and a COLLECTING tap that
names an absent channel has its CHANNEL_ABSENT mark set (R61, R100, R102). -/
def State.sampleTaps (s : State) : State :=
  s.mapFormerTaps fun tap f =>
    match f.collect with
    | .joining (some n) => { f with collect := .joining (some (n + 1)) }
    | .collecting =>
      { f with absent := f.absent || s.namesAbsent tap }
    | .inactive | .joining none => f

/-- The work of tracker t at an input sample: candidates first, then the resampler's step (R80, R92). -/
def State.trackerSample (s : State) (previous values : ChannelValues) (filled start : Bool) (t : TrackerId) : State :=
  if s.trackers[t].state.isRunning then (s.examine t start values).resample t previous values filled else s

/-- The order in which the two trackers work at this input sample: free where both run, tracker 0 first otherwise (no
order is then to be seen). -/
def State.trackerOrder (s : State) : List TrackerId :=
  if s.trackers[(0 : TrackerId)].state.isRunning && s.trackers[(1 : TrackerId)].state.isRunning then
    if Config.trackerOneFirst s.choices then [1, 0] else [0, 1]
  else [0, 1]

/-- The choice counter advances where a free order was read. -/
def State.advanceChoice (s : State) : State :=
  if s.trackers[(0 : TrackerId)].state.isRunning && s.trackers[(1 : TrackerId)].state.isRunning then
    s.setChoices (s.choices + 1)
  else s

/-- One input sample handed on (R62): the count advances and the sample becomes the current sample set, then each
tracker takes it. A start-marked sample has itself for predecessor. -/
def State.handOn (s : State) (values : ChannelValues) (filled start : Bool) : State :=
  let previous := if start then values else s.intake.current
  let s1 := (s.setIntake { s.intake with current := values, count := s.intake.count + 1 }).sampleTaps
  s1.trackerOrder.foldl (fun s' t => s'.trackerSample previous values filled start t) s1.advanceChoice

/-- g filled input samples, each repeating the current sample set (R54). -/
def State.fill : Nat → State → State
  | 0, s => s
  | g + 1, s => State.fill g (s.handOn s.intake.current true false)

/-- The expected number after a frame, with the silence timer started or restarted (R52, R53, R56). -/
def State.awaitNext (s : State) (sequence : BitVec 16) : State :=
  s.setIntake
    { s.intake with
      stream := .running
      expected := some (sequence + 1)
      silence := .running s.tables.station.silenceMs }

/-- A frame is taken, as first or as expected (R52, R53): calibrated, handed on, the next number awaited. -/
def State.takeFrame (s : State) (x : SampleSet) (start : Bool) : State :=
  let table := s.tables.channels
  let count := channelCount s.agreement.profile
  let s1 := (s.countClips (clampedSet table count x)).handOn (calibrateSet table count x) false start
  s1.awaitNext x.sequence

/-- The intake in WAITING: no expected number, no silence timer (R52, R56). -/
def State.intakeWait (s : State) : State :=
  s.setIntake { s.intake with stream := .waiting, expected := none, silence := .stopped }

/-- The length of a running timer, 0 for a stopped one. -/
def Timer.length : Timer → Nat
  | .stopped => 0
  | .running ms => ms

/-- A stream break: its notice, STREAM_INTACT, and its effect on the trackers and the cycle former (R57, R58, R63). -/
def State.streamBreak (s : State) (cause : StreamCause) (received : BitVec 16) : State :=
  let expected := s.intake.expected.getD 0
  let silence := match cause with
    | .gap => 0
    | .silence => s.intake.silence.length
  let s1 := s.handOver (.stream s.agreement.profile cause expected received silence s.intake.count)
  (s1.setLatches { s1.latches with streamIntact := false }).breakCycles

/-- An admitted frame in RUNNING at distance g from the expected number (R53 to R55, R57). -/
def State.sequenceCheck (s : State) (x : SampleSet) (g : Nat) : State :=
  if g = 0 then s.takeFrame x false
  else if g ≤ 8 then
    ((s.setLatches { s.latches with gapFilled := true }).fill g).takeFrame x false
  else if g ≤ 32767 then (s.streamBreak .gap x.sequence).takeFrame x true
  else s

/-- An admitted frame (R52, R53). -/
def State.admitSet (s : State) (x : SampleSet) : State :=
  match s.intake.stream, s.intake.expected with
  | .running, some e => s.sequenceCheck x (x.sequence - e).toNat
  | .running, none | .waiting, _ => s.takeFrame x true

/-- A SAMPLE SET at the intake under the agreement state at its reception end (R28, R51). -/
def State.intakeSampleSet (s : State) (x : SampleSet) : State :=
  match s.agreement.state with
  | .agreed p =>
    if x.code = p.val ∧ x.formOk p then s.admitSet x
    else s.setLatches { s.latches with profileMismatch := true }
  | .listen | .acknowledge | .pause | .noCommon => s

/-- A TIME MARK at the intake: a mark arrival when well formed (R64). -/
def State.intakeTimeMark (s : State) (f : StreamFrame) : State :=
  if 4 ≤ f.stated then s.markArrival (BitVec.ofNat 32 (beNat f.carried 0 4)) else s

/-- The silence expiry: a break with cause SILENCE, and WAITING (R56, R57). -/
def State.silenceExpired (s : State) : State :=
  (s.streamBreak .silence (s.intake.expected.getD 0)).intakeWait

end Sys2Proof.Machine
end

