-- ==== Sys2Proof/Machine/Agreement.lean ====
section
/-! DEFINITION. The agreement unit (chapter 2): offering, partner OFFERs, adoption, resolution, the entering and the
leaving of AGREED, and SET AGREEMENT. -/

namespace Sys2Proof.Machine

open Sys2Proof

/-- An AGREEMENT notice (R27). -/
def State.agreementNotice (s : State) (outcome : AgreementOutcome) (subject : ProfileCode) (partner : BitVec 8) :
    State :=
  s.handOver (.agreement subject outcome s.agreement.acceptMask partner)

/-- The unit places an OFFER with its accept mask and starts the offer timer (R19). -/
def State.offerAgain (s : State) (ack : Bool) : State :=
  (s.setAgreement { s.agreement with offerTimer := .running Config.offerTimerMs }).placeOffer
    ⟨s.agreement.acceptMask, ack⟩

/-- The entry into LISTEN (R19, R21). -/
def State.enterListen (s : State) : State :=
  (s.setAgreement
    { s.agreement with
      state := .listen
      candidate := 0
      matchCount := 0
      recorded := 0
      offerSeen := false
      adoptionCount := 0
      ackTimer := .stopped
      pauseTimer := .stopped }).offerAgain false

/-- The entry into ACKNOWLEDGE with the candidate mask recorded (R19, R21, R23). -/
def State.enterAcknowledge (s : State) : State :=
  (s.setAgreement
    { s.agreement with
      state := .acknowledge
      recorded := s.agreement.candidate
      ackCount := 0
      ackTimer := .running Config.acknowledgeTimerMs }).offerAgain true

/-- The end of offering, on leaving LISTEN or ACKNOWLEDGE: offer and acknowledge timers stopped, the pending OFFER
withdrawn (R19, R23). -/
def State.stopOffering (s : State) : State :=
  (s.setAgreement { s.agreement with offerTimer := .stopped, ackTimer := .stopped }).withdrawOffer

/-- The entry into PAUSE (R24). -/
def State.enterPause (s : State) : State :=
  let s1 := s.stopOffering
  s1.setAgreement { s1.agreement with state := .pause, pauseTimer := .running Config.pauseTimerMs }

/-- The entry into NO_COMMON (R25). -/
def State.enterNoCommon (s : State) : State :=
  let s1 := s.stopOffering
  s1.setAgreement { s1.agreement with state := .noCommon }

/-- The entry into AGREED(p) (R18, R30, R52): `notice` gives the AGREEMENT notice's outcome and partner mask where the
entry makes one. The TRACKER notices of a change of rate follow it. -/
def State.enterAgreed (s : State) (p : ProfileCode) (notice : Option (AgreementOutcome × BitVec 8)) : State :=
  let changed := decide (sampleRate s.agreement.profile ≠ sampleRate p)
  let s1 := s.stopOffering
  let s2 := (s1.setAgreement { s1.agreement with state := .agreed p, profile := p }).intakeWait
  let s3 :=
    match notice with
    | none => s2
    | some (o, partner) => s2.agreementNotice o p partner
  if changed then s3.changeRate else s3

/-- The leaving of AGREED: the effect of a break without its notice, STREAM_INTACT cleared, the intake WAITING (R29). -/
def State.leaveAgreed (s : State) : State :=
  ((s.setLatches { s.latches with streamIntact := false }).breakCycles).intakeWait

/-- A well-formed partner OFFER's mask matched in LISTEN (R21). -/
def State.matchOffer (s : State) (mask : BitVec 8) : State :=
  let same := decide (0 < s.agreement.matchCount) && decide (mask = s.agreement.candidate)
  let count := if same then s.agreement.matchCount + 1 else 1
  let s1 := s.setAgreement { s.agreement with offerSeen := true, candidate := mask, matchCount := count }
  if 3 ≤ count then s1.enterAcknowledge else s1

/-- The highest profile code of a mask (R25). -/
def highestCode (mask : BitVec 8) : Option ProfileCode :=
  ([7, 6, 5, 4, 3, 2, 1, 0] : List ProfileCode).find? fun p => mask.getLsbD p.val

/-- Resolution (R25). -/
def State.resolve (s : State) : State :=
  let partner := s.agreement.recorded
  match highestCode (partner &&& s.agreement.acceptMask) with
  | none => s.enterNoCommon.agreementNotice .noCommon s.agreement.profile partner
  | some p => s.enterAgreed p (some (.agreed, partner))

/-- A well-formed partner OFFER in ACKNOWLEDGE (R23). -/
def State.acknowledgeOffer (s : State) (mask : BitVec 8) (ack : Bool) : State :=
  if mask = s.agreement.recorded then
    if ack then
      let s1 := s.setAgreement { s.agreement with ackCount := s.agreement.ackCount + 1 }
      if 3 ≤ s1.agreement.ackCount then s1.resolve else s1
    else s
  else (s.agreementNotice .consistencyFail s.agreement.profile s.agreement.recorded).enterPause

/-- A renegotiation out of AGREED(p) (R26, R29). -/
def State.renegotiate (s : State) (p : ProfileCode) (mask : BitVec 8) : State :=
  ((s.agreementNotice .renegotiation p mask).leaveAgreed.enterListen).matchOffer mask

/-- A well-formed partner OFFER, by the rule of the present state (R20). -/
def State.takeOffer (s : State) (mask : BitVec 8) (ack : Bool) : State :=
  match s.agreement.state with
  | .listen => s.matchOffer mask
  | .acknowledge => s.acknowledgeOffer mask ack
  | .pause => s
  | .noCommon => if mask = s.agreement.recorded then s else s.enterListen.matchOffer mask
  | .agreed p =>
    match s.agreement.mode with
    | .fixed => s
    | .negotiate => if ack then s else s.renegotiate p mask

/-- A partner OFFER received on port A: ignored when its length is below 2 or its ack flag neither 0 nor 1 (R20,
R175). -/
def State.partnerOffer (s : State) (f : StreamFrame) : State :=
  if 2 ≤ f.stated then
    match readBool (byteAt f.carried 1) with
    | none => s
    | some ack => s.takeOffer (f.carried.getD 0 0) ack
  else s

/-- The adoption count after a profile code (R22): the code counted and the count. -/
def Agreement.countAdoption (a : Agreement) (code : Nat) : Agreement :=
  if h : code < 8 then
    if 0 < a.adoptionCount ∧ a.adoptionCode = ⟨code, h⟩ then
      { a with adoptionCount := satAdd Config.adoptionTarget a.adoptionCount 1 }
    else { a with adoptionCode := ⟨code, h⟩, adoptionCount := 1 }
  else { a with adoptionCount := 0 }

/-- A SAMPLE SET at the agreement unit (R22): in LISTEN with no OFFER seen it counts for adoption. -/
def State.adopt (s : State) (code : Nat) : State :=
  if s.agreement.state = .listen ∧ s.agreement.offerSeen = false then
    let s1 := s.setAgreement (s.agreement.countAdoption code)
    if s1.agreement.adoptionCount = Config.adoptionTarget ∧
        s1.agreement.acceptMask.getLsbD s1.agreement.adoptionCode.val then
      s1.enterAgreed s1.agreement.adoptionCode (some (.adopted, 0))
    else s1
  else s

/-- A SAMPLE SET delivered from port A, to the intake and to the agreement unit: the intake goes by the agreement state
before the unit acts on the frame (R28). -/
def State.sampleSet (s : State) (x : SampleSet) : State :=
  match s.agreement.state with
  | .agreed _ => s.intakeSampleSet x
  | .listen | .acknowledge | .pause | .noCommon => s.adopt x.code

/-- Steps 1 and 2 of an accepted SET AGREEMENT: the fields stored, every timer stopped, counts and masks cleared (R32). -/
def Agreement.restart (a : Agreement) (mode : AgreementMode) (mask : BitVec 8) (fixed : ProfileCode) : Agreement :=
  { a with
    mode := mode
    acceptMask := mask
    fixedCode := fixed
    candidate := 0
    matchCount := 0
    recorded := 0
    ackCount := 0
    offerSeen := false
    adoptionCount := 0
    offerTimer := .stopped
    ackTimer := .stopped
    pauseTimer := .stopped }

/-- AGREED, with any code. -/
def AgreementState.isAgreed : AgreementState → Bool
  | .agreed _ => true
  | .listen | .acknowledge | .pause | .noCommon => false

/-- The four steps of an accepted SET AGREEMENT (R32). -/
def State.setAgreementFields (s : State) (mode : AgreementMode) (mask : BitVec 8) (fixed : ProfileCode) : State :=
  let s1 := (s.setAgreement (s.agreement.restart mode mask fixed)).withdrawOffer
  let s2 := if s.agreement.state.isAgreed then s1.leaveAgreed else s1
  match mode with
  | .negotiate => s2.enterListen
  | .fixed => s2.enterAgreed fixed none

end Sys2Proof.Machine
end

