-- ==== Sys2Proof/Machine/Resets.lean ====
section
/-! DEFINITION. The three resets: power-on (R16), pin reset with its assertion and release (R170), and the request reset
(R17, R169), each block taking the value that the reset table of its chapter gives. -/

namespace Sys2Proof.Machine

open Sys2Proof

/-- A tracker after a reset, by its settings and the Lnom that the reset leaves (R90). -/
def resetTracker (t : TrackerId) (x : TrackerSettings) (lnom : Nat) : Tracker :=
  if x.enabled then
    if t = 1 ∧ x.mode = .follower then .fresh .following lnom else .fresh .acquiring lnom
  else .fresh .idle lnom

/-- The cycle former's part for a tracker after a reset: the resampler of a running tracker started, the written block
settings in force, the tariff as given (R48, R108). -/
def resetFormerTracker (k : Tracker) (x : TrackerSettings) (tariff : Tariff) : FormerTracker :=
  .cleared (if k.state.isRunning then some (.start k.lfix) else none) x.written tariff

/-- The trackers and the cycle former of a part whose tables and profile the reset has settled (R90, R108): tariffs
kept, collection states COLLECTING for an enabled tap whose tracker in force makes cycles, INACTIVE otherwise. -/
def State.resetTrackers (s : State) : State :=
  let s1 := s.setTrackers (Vector.ofFn fun t => resetTracker t s.tables.settings[t] s.lnom)
  s1.setFormer
    { trackers := Vector.ofFn fun t =>
        resetFormerTracker s1.trackers[t] s.tables.settings[t] s.former.trackers[t].tariff
      taps := Vector.ofFn fun tap =>
        .cleared (if (s1.tapEntry tap).enabled && s1.makesCycles (s1.tapTracker tap) then .collecting else .inactive)
      second := none
      pendingTariff := none }

/-- Every tap's block number incremented once (R104, R108). -/
def State.advanceAllBlocks (s : State) : State :=
  s.setAccounts (mapVec (fun t => { t with blockNumber := t.blockNumber + 1 }) s.accounts)

/-- Staged tap entries discarded (R43). -/
def Tables.discardStaged (x : Tables) : Tables :=
  { x with taps := mapVec (fun slot => { slot with staged := none }) x.taps }

/-- What the two warm resets empty at once: queues and slots, with the transmissions in progress aborted (R3, R16),
latches (R163), the intake (R66), the engine (R123), accumulators, tallies and marks (R142), the record unit (R156), the
management unit (R171), staged tap entries (R43), and pending handovers (R90). -/
def State.emptyOut (s : State) (cause : StartCause) : State :=
  { s with
    ports := .cleared s.ports.linkA s.ports.linkB
    wire := (s.wire.ended .a s.ports.txA .aborted).ended .b s.ports.txB .aborted
    latches := .cleared
    tables := s.tables.discardStaged
    intake := .cleared
    trackers := mapVec (fun k => { k with handover := none }) s.trackers
    engine := .cleared
    accounts := mapVec TapAccount.warmReset s.accounts
    records := .cleared
    management := .cleared cause }

/-- The assertion of the reset line: the part is emptied, the agreement unit's timers do not run, and no block takes an
event until the release (R16, R33, R170). -/
def State.assertReset (s : State) : State :=
  let s1 := s.emptyOut .pin
  { s1 with
    resetLine := true
    agreement := .cleared s.agreement.mode s.agreement.acceptMask s.agreement.fixedCode s.agreement.profile }

/-- The release of the reset line: tables, settings and the agreement unit at their power-on values, generations and
block numbers advanced once, the trackers and the cycle former reset; then LISTEN is entered and the ports resume
(R33, R43, R90, R108, R170). -/
def State.releaseReset (s : State) : State :=
  let s1 : State :=
    { s with
      resetLine := false
      agreement := .cleared .negotiate 0xFF 0 0
      tables := .default (mapVec (fun slot => slot.generation + 1) s.tables.taps) }
  (s1.resetTrackers.advanceAllBlocks).enterListen

/-- The request reset as one event (R17, R169): tables, settings, the agreement unit's mode, masks, codes and profile,
registers and tariffs kept. The unit then enters LISTEN, or AGREED(fixed code) under FIXED, and the ports resume
(R16, R33). -/
def State.requestReset (s : State) : State :=
  let s1 := s.emptyOut .request
  let s2 := s1.setAgreement
    (.cleared s.agreement.mode s.agreement.acceptMask s.agreement.fixedCode s.agreement.profile)
  let s3 := s2.resetTrackers.advanceAllBlocks
  match s.agreement.mode with
  | .negotiate => s3.enterListen
  | .fixed => s3.enterAgreed s.agreement.fixedCode none

end Sys2Proof.Machine
end

