-- ==== Sys2Proof/Machine/Management.lean ====
section
/-! DEFINITION. The management unit (chapter 10): the request queue and the take, the serving of each request by the
block that owns it, and the classifier's delivery of received frames (sections 1.2, 1.3). -/

namespace Sys2Proof.Machine

open Sys2Proof

/-! ## The request queue (R157 to R159) -/

/-- The take: with the unit IDLE, the answer slot empty and a request waiting, the oldest request enters service, or is
answered MALFORMED at the take (R158, R159). -/
def State.takeRequest (s : State) : State :=
  match s.management.inService, s.ports.answerSlot, s.management.requestQueue with
  | none, none, r :: rest =>
    let s1 := s.setManagement { s.management with requestQueue := rest }
    match r.validKind with
    | none => s1.refuse r .malformed
    | some _ => s1.setManagement { s1.management with inService := some r }
  | _, _, _ => s

/-- A request arrives: appended when fewer than 4 are held, else discarded with REQUEST_DROPPED (R157). -/
def State.requestArrives (s : State) (r : Request) : State :=
  if s.management.requestQueue.length < Config.requestCapacity then
    (s.setManagement
      { s.management with requestQueue := s.management.requestQueue ++ [r] }).takeRequest
  else s.setLatches { s.latches with requestDropped := true }

/-- The request in service, where it is of a kind. -/
def State.serving (s : State) (k : RequestKind) : Option Request :=
  match s.management.inService with
  | none => none
  | some r => if r.validKind = some k then some r else none

/-- A request of kind k is served by `f` where one is in service and no reset is in effect; otherwise the event is not
due and nothing changes (R158, R170). -/
def State.serve (s : State) (k : RequestKind) (f : State → Request → State) : State :=
  if s.resetLine then s
  else
    match s.serving k with
    | none => s
    | some r => f s r

/-! ## Serving (section 10.6) -/

/-- One tracker's part of the READ STATUS body (R165, R177). -/
def State.trackerStatus (s : State) (t : TrackerId) : Bytes :=
  oneByte s.trackers[t].state.code ++ toBE 4 (s.lfix t) ++ oneByte s.tables.settings[t].reference.val ++
    oneByte s.former.trackers[t].tariff.val ++
    optionalPart
      (fun (h : Handover) => oneByte h.channel.val ++ toBE 4 h.ls ++ boolByte h.locked ++ oneByte h.timeout)
      s.trackers[t].handover

/-- The DONE body of READ STATUS (R165, R177). -/
def State.statusBody (s : State) : Bytes :=
  toBE 2 s.latches.bits ++ oneByte s.management.startCause.code ++ oneByte s.straps.station.toNat ++
    oneByte (hertz s.straps.frequency) ++ oneByte s.agreement.mode.code ++ oneByte s.agreement.acceptMask.toNat ++
    oneByte s.agreement.fixedCode.val ++ oneByte s.agreement.state.code ++ oneByte s.agreement.profile.val ++
    oneByte s.intake.stream.code ++ s.trackerStatus 0 ++ s.trackerStatus 1 ++
    optionalPart PendingTariff.encode s.former.pendingTariff ++
    optionalPart (fun n => toBE 4 n.toNat) s.former.second ++
    oneByte (maskBits (s.accounts.toList.map fun t => decide (t.restore = .closed)))

/-- READ STATUS: the answer from the values read, and every latch reset (R163, R164). -/
def serveReadStatus (s : State) (r : Request) : State :=
  (s.setLatches { Latches.cleared with streamIntact := decide (s.intake.stream = .running) }).answer r .done s.statusBody

/-- WRITE CHANNELS (R34, R36). -/
def serveWriteChannels (s : State) (r : Request) : State :=
  match readChannelWindow r.body with
  | none => s.refuse r .outOfRange
  | some w =>
    (s.setTables { s.tables with channels := writeWindow s.tables.channels w.start w.entries }).answer r .done []

/-- The DONE body of WRITE TAP (R39, R177). -/
def State.tapWriteBody (s : State) (tap : TapId) (staged : Bool) : Bytes :=
  boolByte staged ++ toBE 2 s.tables.taps[tap].generation.toNat

/-- An accepted WRITE TAP: applied at once for a disabled tap or a tracker in force that makes no cycles, staged
otherwise (R39). -/
def serveWriteTap (s : State) (r : Request) : State :=
  match readTapWrite r.body with
  | none => s.refuse r .outOfRange
  | some (tap, e) =>
    if (s.tapEntry tap).enabled && s.makesCycles (s.tapTracker tap) then
      let s1 := s.modTapSlot tap fun x => { x with staged := some e }
      s1.answer r .done (s1.tapWriteBody tap true)
    else
      let s1 := s.applyInactive tap e
      s1.answer r .done (s1.tapWriteBody tap false)

/-- READ TAP (R42). -/
def serveReadTap (s : State) (r : Request) : State :=
  match readTapId (byteAt r.body 0) with
  | none => s.refuse r .outOfRange
  | some tap =>
    let x := s.tables.taps[tap]
    s.answer r .done
      (oneByte tap.val ++ toBE 2 x.generation.toNat ++ x.entry.encode ++ optionalPart TapEntry.encode x.staged)

/-- WRITE GROUPS (R34, R44). -/
def serveWriteGroups (s : State) (r : Request) : State :=
  match readGroupWindow r.body with
  | none => s.refuse r .outOfRange
  | some w =>
    (s.setTables { s.tables with groups := writeWindow s.tables.groups w.start w.entries }).answer r .done []

/-- WRITE CORRECTION (R45, R161): applied at once with no job in flight; with one, the window waits for its completion
and the request stays in service. A request whose window already waits is not served again. -/
def serveWriteCorrection (s : State) (r : Request) : State :=
  match s.engine.window with
  | some _ => s
  | none =>
    match readCorrectionWindow r.body with
    | none => s.refuse r .outOfRange
    | some w =>
      match s.engine.flight with
      | none => (s.applyCorrection w).answer r .done []
      | some _ => s.setEngine { s.engine with window := some w }

/-- The two state checks of WRITE TRACKER that answer WRONG_STATE (R46). -/
def State.trackerWriteRefused (s : State) (t : TrackerId) (x : TrackerSettings) : Bool :=
  let old := s.tables.settings[t]
  (old.enabled && decide (old.mode = .independent) && decide (x.reference ≠ old.reference)) ||
    (decide (x.mode = .follower) && s.trackers[t].handover.isSome)

/-- Tracker t leaves IDLE into ACQUIRING: cleared, at Lnom, its resampler started with the next sample, its taps
COLLECTING; a following tracker 1 starts with tracker 0 (R71, R103). -/
def State.enableAcquiring (s : State) (t : TrackerId) : State :=
  let s1 := s.modTracker t fun _ => .fresh .acquiring s.lnom
  let s2 := s1.startCycles t
  let s3 := if t = 0 ∧ s2.follows then s2.startCycles 1 else s2
  s3.startResampler t

/-- Tracker 1 enters FOLLOWING from IDLE: its taps join tracker 0's cycles where tracker 0 makes cycles, counting the
samples between (R77, R47). -/
def State.enableFollowing (s : State) (t : TrackerId) : State :=
  let s1 := (s.modTracker t fun _ => .fresh .following s.lnom).clearBlockIndex t true
  s1.mapFormerTaps fun tap f =>
    if s1.tapTracker tap = t ∧ (s1.tapEntry tap).enabled ∧ s1.makesCycles t ∧ f.collect = .inactive then
      f.clear (.joining (some 0))
    else f

/-- The cycle in progress that tracker t's cycles are, abandoned with the samples that `samples` counts: for every tap
collecting it where it is t's own, for the taps on t alone where t follows (R76, R78). -/
def State.abandonOf (s : State) (t : TrackerId) (samples : Resampler → Nat) : State :=
  match s.cycleSource t with
  | none => s
  | some u =>
    s.abandonCycle u samples fun tap => s.collectsFrom u tap && (decide (u = t) || decide (s.tapTracker tap = t))

/-- The pending handover of a tracker that is being disabled is dropped with its notice (R76, R87). -/
def State.cancelHandover (s : State) (t : TrackerId) : State :=
  match s.trackers[t].handover with
  | none => s
  | some h => s.dropHandover t .cancelled h

/-- Tracker t enters IDLE from any state (R76, R103): the pending handover dropped with its notice, the cycle in
progress abandoned, the trackers that stop making cycles stopped, everything of the tracker discarded. -/
def State.disable (s : State) (t : TrackerId) : State :=
  let s1 := (s.cancelHandover t).abandonOf t Resampler.breakSamples
  let stopping : TrackerId → Bool := fun u => s1.makesCycles u && (decide (u = t) || decide (s1.cycleSource u = some t))
  let s2 := (s1.modTracker t fun _ => .fresh .idle s.lnom).discardResampler t
  (s2.stopCycles stopping).clearBlockIndex t true

/-- Running tracker 1 enters FOLLOWING (R77, R102): its cycle abandoned; with tracker 0 making cycles its COLLECTING
taps join them counting a gap, with tracker 0 IDLE it stops making cycles. -/
def State.follow (s : State) (t : TrackerId) : State :=
  let s1 := s.abandonCycle t Resampler.breakSamples fun tap => s.collectsFrom t tap
  let s2 := ((s1.modTracker t fun _ => .fresh .following s.lnom).discardResampler t).trackerNotice
    t s.trackers[t].state .follow
  if s2.makesCycles t then
    s2.mapFormerTaps fun tap f =>
      if s2.tapTracker tap = t ∧ f.collect = .collecting then f.clear (.joining (some 0)) else f
  else s2.stopCycles fun u => decide (u = t)

/-- Tracker 1 leaves FOLLOWING into ACQUIRING (R78, R102, R103): its taps leave tracker 0's cycle in progress with all
its samples unaccounted, also where no point of it was made yet, and collect from its own resampler start. -/
def State.unfollow (s : State) (t : TrackerId) : State :=
  let s1 := ((s.abandonOf t Resampler.samples).modTracker t fun _ => .fresh .acquiring s.lnom).trackerNotice
    t s.trackers[t].state .unfollow
  let s2 := if s.makesCycles t then s1 else s1.startCycles t
  s2.startResampler t

/-- The transitions of an accepted WRITE TRACKER whose settings are stored, by the tracker's state before and the new
settings, with the removal test of R99 where it disables the tracker or sets it to FOLLOWING (R47, R71, R76 to R78). -/
def State.trackerTransition (s : State) (t : TrackerId) (x : TrackerSettings) : State :=
  match s.trackers[t].state with
  | .idle =>
    if x.enabled then
      if x.mode = .follower then (s.enableFollowing t).removeTariff else s.enableAcquiring t
    else s.clearBlockIndex t true
  | .following =>
    if x.enabled then if x.mode = .independent then s.unfollow t else s else (s.disable t).removeTariff
  | .acquiring | .locked | .holdover | .freerun =>
    if x.enabled then if x.mode = .follower then (s.follow t).removeTariff else s else (s.disable t).removeTariff

/-- WRITE TRACKER (R46, R47). -/
def serveWriteTracker (s : State) (r : Request) : State :=
  match readTrackerWrite r.body with
  | none => s.refuse r .outOfRange
  | some (t, x) =>
    if s.trackerWriteRefused t x then s.refuse r .wrongState
    else ((s.modSettings t fun _ => x).trackerTransition t x).answer r .done []

/-- The pending handover that an accepted START creates (R82). -/
def Handover.start (channel : Channel) (lfix : Nat) : Handover := ⟨channel, .cleared, lfix, false, 0⟩

/-- HANDOVER with action START, after the first check of R82: the checks of state and channel, and the pending handover
with a cleared shadow detector and Ls = Lfix (R82). -/
def State.startHandover (s : State) (r : Request) (t : TrackerId) (c : Channel) : State :=
  if s.trackers[t].state.isRunning = false ∨ s.trackers[t].handover.isSome then s.refuse r .wrongState
  else if c = s.tables.settings[t].reference then s.refuse r .outOfRange
  else
    (s.modTracker t fun k => { k with handover := some (.start c k.lfix) }).answer r .done
      (oneByte t.val ++ oneByte c.val ++ toBE 4 s.trackers[t].lfix)

/-- HANDOVER with action START (R82); a HANDOVER whose action is neither START nor CANCEL is refused here. -/
def serveHandoverStart (s : State) (r : Request) : State :=
  if byteAt r.body 1 = 1 then s
  else if byteAt r.body 1 = 0 then
    match readTrackerId (byteAt r.body 0), readChannel (byteAt r.body 2) with
    | some t, some c => s.startHandover r t c
    | _, _ => s.refuse r .outOfRange
  else s.refuse r .outOfRange

/-- HANDOVER with action CANCEL: the pending handover is dropped with outcome CANCELLED (R82, R87). -/
def serveHandoverCancel (s : State) (r : Request) : State :=
  if byteAt r.body 1 = 1 then
    match readTrackerId (byteAt r.body 0) with
    | none => s.refuse r .outOfRange
    | some t =>
      match s.trackers[t].handover with
      | none => s.refuse r .wrongState
      | some h => (s.dropHandover t .cancelled h).answer r .done []
  else s

/-- The DONE body of SET TARIFF (R98, R177). -/
def State.tariffBody (s : State) : Bytes :=
  oneByte s.former.trackers[(0 : TrackerId)].tariff.val ++ oneByte s.former.trackers[(1 : TrackerId)].tariff.val ++
    optionalPart PendingTariff.encode s.former.pendingTariff

/-- SET TARIFF (R98). -/
def serveSetTariff (s : State) (r : Request) : State :=
  match readTariff r.body with
  | none => s.refuse r .outOfRange
  | some (tariff, effective) =>
    let s1 := s.setFormer
      { s.former with pendingTariff := some ⟨tariff, effective, Vector.replicate 2 false⟩ }
    s1.answer r .done s1.tariffBody

/-- SET CONSTANT (R138). -/
def serveSetConstant (s : State) (r : Request) : State :=
  match readConstant r.body with
  | none => s.refuse r .outOfRange
  | some (tap, k) =>
    (s.modAccount tap fun t => t.setConstant k).answer r .done
      (oneByte tap.val ++ toBE 8 k ++ (s.accounts[tap].conversionQuotients k).flatMap fun q => toBE 8 q)

/-- READ REGISTERS (R141). -/
def serveReadRegisters (s : State) (r : Request) : State :=
  match readSelector r.body with
  | none => s.refuse r .outOfRange
  | some (tap, tariffs) =>
    let t := s.accounts[tap]
    s.answer r .done
      (oneByte tap.val ++ oneByte (byteAt r.body 1) ++ (tariffs.flatMap fun x => t.tariffGroup x) ++
        toBE 8 t.constant ++ oneByte t.restore.code ++
        optionalPart (fun (c : CycleName) => oneByte c.tracker.val ++ toBE 4 c.block.toNat ++ oneByte c.index)
          t.lastCycle ++
        oneByte (s.outstandingJobs tap))

/-- RESTORE (R139). -/
def serveRestore (s : State) (r : Request) : State :=
  match readRestore r.body with
  | none => s.refuse r .outOfRange
  | some (tap, saved) =>
    match s.accounts[tap].restore with
    | .closed => s.refuse r .wrongState
    | .opened => (s.modAccount tap fun t => t.restoreFrom saved).answer r .done []

/-- CLEAR (R140). -/
def serveClear (s : State) (r : Request) : State :=
  match readTapId (byteAt r.body 0) with
  | none => s.refuse r .outOfRange
  | some tap =>
    if (s.tapEntry tap).accounting then s.refuse r .wrongState
    else (s.modAccount tap TapAccount.clearRegisters).answer r .done []

/-- READ RECORD (R150). -/
def serveReadRecord (s : State) (r : Request) : State :=
  match readTapId (byteAt r.body 0) with
  | none => s.refuse r .outOfRange
  | some tap =>
    let x := s.findRecord tap (BitVec.ofNat 32 (beNat r.body 1 4))
    s.answer r x.1 x.2

/-- READ SPECTRUM (R122). -/
def serveReadSpectrum (s : State) (r : Request) : State :=
  match readSpectrumPart r.body with
  | none => s.refuse r .outOfRange
  | some (tap, currents) =>
    match s.engine.store[tap] with
    | none => s.refuse r .wrongState
    | some x => s.answer r .done (x.encode tap currents)

/-- SET AGREEMENT (R32). -/
def serveSetAgreement (s : State) (r : Request) : State :=
  match readAgreement r.body with
  | none => s.refuse r .outOfRange
  | some (mode, mask, fixed) =>
    let s1 := s.setAgreementFields mode mask fixed
    s1.answer r .done (oneByte s1.agreement.state.code ++ oneByte s1.agreement.profile.val)

/-- SET STATION (R167). -/
def serveSetStation (s : State) (r : Request) : State :=
  match readStation r.body with
  | none => s.refuse r .outOfRange
  | some x => (s.setTables { s.tables with station := x }).answer r .done x.encode

/-- RESET: DONE is placed, and the request reset waits for that answer's transmission end (R17, R161, R169). -/
def serveReset (s : State) (r : Request) : State :=
  (s.setManagement { s.management with resetWaiting := true }).answer r .done []

/-! ## Classification and delivery (R5 to R7) -/

/-- A frame placed in the forward queue and delivered to a block: two parts in some order where port B could start a
transmission at once (R5, R11); otherwise the order is not to be seen, and the frame enters the queue first. -/
def State.forwardAnd (s : State) (bytes : Bytes) (deliver : State → State) : State :=
  if s.ports.freeB then
    let s1 := s.setChoices (s.choices + 1)
    if Config.blockBeforeForward s.choices then (deliver s1).enterForward bytes else deliver (s1.enterForward bytes)
  else deliver (s.enterForward bytes)

/-- Delivery of a SAMPLE SET or TIME MARK: to its block, and to the forward queue when forwarding is on (R5, R7). -/
def State.deliverStream (s : State) (bytes : Bytes) (deliver : State → State) : State :=
  if s.tables.station.forwarding then s.forwardAnd bytes deliver else deliver s

/-- The delivery of a good frame received on port A (R5). -/
def State.deliverA (s : State) (bytes : Bytes) : State :=
  match recognise bytes with
  | none => s.enterForward bytes
  | some f =>
    match f.kind with
    | .sampleSet => s.deliverStream bytes fun x => x.sampleSet (readSampleSet f)
    | .timeMark => s.deliverStream bytes fun x => x.intakeTimeMark f
    | .offer => s.partnerOffer f
    | .request | .answer | .blockReport | .notice => s.enterForward bytes

/-- The delivery of a good frame received on port B (R6). -/
def State.deliverB (s : State) (bytes : Bytes) : State :=
  match recognise bytes with
  | none => s.enterRelay bytes
  | some f =>
    match f.kind with
    | .request =>
      if byteAt f.carried 0 = s.straps.station.toNat then s.requestArrives (readRequest bytes f) else s.enterRelay bytes
    | .sampleSet | .timeMark | .offer | .answer | .blockReport | .notice => s.enterRelay bytes

/-- The two checks of a reception end (R1). -/
def frameGood (f : RxFrame) : Bool :=
  f.fcsGood && decide (Config.minFrameLength ≤ f.bytes.length) && decide (f.bytes.length ≤ Config.maxFrameLength)

/-- The link of a port. -/
def Ports.link (p : Ports) : Port → Link
  | .a => p.linkA
  | .b => p.linkB

/-- A reception end (R1): nothing is received while the port is DOWN or a pin reset lasts (R2, R16). -/
def State.receptionEnd (s : State) (port : Port) (f : RxFrame) : State :=
  if s.resetLine ∨ s.ports.link port = .down then s
  else if frameGood f then
    match port with
    | .a => s.deliverA f.bytes
    | .b => s.deliverB f.bytes
  else s.setLatches { s.latches with badCheck := true }

/-! ## The end of a transmission (R3, R15, R17) -/

/-- The end of port A's transmission, normal or cut off, and the next choice (R3, R11). -/
def State.endTransmissionA (s : State) (e : Ending) : State :=
  if s.resetLine ∨ s.ports.txA = none then s
  else ((s.setPorts s.ports.finishA).setWire (s.wire.ended .a s.ports.txA e)).chooseA

/-- Is the transmission in progress on port B that of the answer? -/
def Ports.sendsAnswer (p : Ports) : Bool :=
  match p.txB with
  | none => false
  | some t => decide (t.source = .answer)

/-- The end of port B's transmission, normal or cut off (R3, R15): port B makes its choice, and at the end of an answer
the management unit then may take a request (R11, R158); the end of the answer to RESET brings the request reset
(R17). -/
def State.endTransmissionB (s : State) (e : Ending) : State :=
  if s.resetLine ∨ s.ports.txB = none then s
  else
    let s1 := (s.setPorts s.ports.finishB).setWire (s.wire.ended .b s.ports.txB e)
    if s.ports.sendsAnswer then
      if s.management.resetWaiting then s1.requestReset else s1.chooseB.takeRequest
    else s1.chooseB

/-- A port's link established (R2): UP, and a choice. -/
def State.linkUp (s : State) : Port → State
  | .a => if s.ports.linkA = .up then s else (s.setPorts { s.ports with linkA := .up }).chooseA
  | .b => if s.ports.linkB = .up then s else (s.setPorts { s.ports with linkB := .up }).chooseB

/-- A port's link lost (R2): DOWN, a transmission in progress cut off, which counts as its end (R3). -/
def State.linkDown (s : State) : Port → State
  | .a => (s.setPorts { s.ports with linkA := .down }).endTransmissionA .cutOff
  | .b => (s.setPorts { s.ports with linkB := .down }).endTransmissionB .cutOff

end Sys2Proof.Machine
end

