-- ==== Sys2Proof/Machine/Events.lean ====
section
/-! DEFINITION. The meanings of the events: power and resets, links, reception and transmission, timers, the counts of a
tracker that reach their limit, and the engine. An event that is not due (a timer that is stopped, a transmission that
is not in progress, any event but power, the reset line and the links while the reset line is asserted) does not
happen, and the part stays as it stands. -/

namespace Sys2Proof.Machine

open Sys2Proof

/-- What every meaning answers with. -/
abbrev StepResult := Host.Outcome State Fault Refusal

/-- POWER_ON (R16): the part at its power-on values with the straps read; the queue of commands is no part of the
part, and the model's choice counter runs on. -/
def execPowerOn (station : BitVec 6) (frequency : NominalFrequency) (s : State) : StepResult :=
  .next (((State.atPowerOn station frequency).setChoices s.choices).setPending s.pending)

/-- PIN_RESET (R170): the reset line is asserted; a line already asserted stays so. -/
def execPinReset (s : State) : StepResult := .next (if s.resetLine then s else s.assertReset)

/-- PIN_RESET_RELEASE (R170): the reset line is released. -/
def execPinResetRelease (s : State) : StepResult := .next (if s.resetLine then s.releaseReset else s)

/-- LINK_UP (R2). -/
def execLinkUp (port : Port) (s : State) : StepResult := .next (s.linkUp port)

/-- LINK_DOWN (R2). -/
def execLinkDown (port : Port) (s : State) : StepResult := .next (s.linkDown port)

/-- RECEPTION_END (R1). -/
def execReceptionEnd (port : Port) (frame : RxFrame) (s : State) : StepResult := .next (s.receptionEnd port frame)

/-- TRANSMISSION_END (R3). -/
def execTransmissionEnd (port : Port) (s : State) : StepResult :=
  match port with
  | .a => .next (s.endTransmissionA .normal)
  | .b => .next (s.endTransmissionB .normal)

/-- OFFER_TIMER_EXPIRY (R19): a new OFFER in LISTEN or ACKNOWLEDGE, and the timer started again. -/
def execOfferTimerExpiry (s : State) : StepResult :=
  if s.resetLine ∨ s.agreement.offerTimer = .stopped then .next s
  else
    match s.agreement.state with
    | .listen => .next (s.offerAgain false)
    | .acknowledge => .next (s.offerAgain true)
    | .pause | .agreed _ | .noCommon => .next s

/-- ACKNOWLEDGE_TIMER_EXPIRY (R23): from ACKNOWLEDGE into LISTEN without a notice. -/
def execAcknowledgeTimerExpiry (s : State) : StepResult :=
  .next
    (if s.resetLine = false ∧ s.agreement.ackTimer ≠ .stopped ∧ s.agreement.state = .acknowledge then s.enterListen
     else s)

/-- PAUSE_TIMER_EXPIRY (R24): from PAUSE into LISTEN. -/
def execPauseTimerExpiry (s : State) : StepResult :=
  .next
    (if s.resetLine = false ∧ s.agreement.pauseTimer ≠ .stopped ∧ s.agreement.state = .pause then s.enterListen else s)

/-- SILENCE_TIMER_EXPIRY (R56): in RUNNING, a break with cause SILENCE and WAITING. -/
def execSilenceTimerExpiry (s : State) : StepResult :=
  .next
    (if s.resetLine = false ∧ s.intake.silence ≠ .stopped ∧ s.intake.stream = .running then s.silenceExpired else s)

/-- NO_CROSSING (R73): due where one more input sample brings the crossing age of a tracker in ACQUIRING or LOCKED to
twice the nominal period; the age takes that count and the tracker is lost. The same loss is made within the reception
of the sample itself (`State.checkAge`); see notes/assumptions/6.md. -/
def execNoCrossing (tracker : TrackerId) (s : State) : StepResult :=
  .next
    (if s.resetLine = false ∧ s.trackers[tracker].state.onBus ∧
        ageReached s.lnom (satAdd 65535 s.trackers[tracker].detector.age 1) then
      (s.modTracker tracker fun k =>
        { k with detector := { k.detector with age := satAdd 65535 k.detector.age 1 } }).lose tracker .noCrossing
     else s)

/-- HANDOVER_TIMEOUT (R86): due where one more cycle end with the shadow unlocked brings the timeout count to 64; the
handover is dropped with outcome TIMED_OUT. The same drop is made within a cycle end (`State.handoverStep`); see
notes/assumptions/6.md. -/
def execHandoverTimeout (tracker : TrackerId) (s : State) : StepResult :=
  match s.trackers[tracker].handover with
  | none => .next s
  | some h =>
    .next
      (if s.resetLine = false ∧ h.locked = false ∧ Config.handoverTimeoutCount ≤ h.timeout + 1 then
        s.advanceTimeout tracker h
       else s)

/-- HOLDOVER_LIMIT (R74): due where one more cycle end in HOLDOVER brings the holdover count to its limit; the tracker
enters FREERUN. The same change is made within a cycle end (`State.trackerWork`); see notes/assumptions/6.md. -/
def execHoldoverLimit (tracker : TrackerId) (s : State) : StepResult :=
  .next
    (if s.resetLine = false ∧ s.trackers[tracker].state = .holdover ∧
        s.tables.settings[tracker].holdoverLimit ≤ s.trackers[tracker].holdoverCount + 1 then
      s.advanceHoldover tracker
     else s)

/-- ENGINE_TAKE (R110): the IDLE engine takes the oldest job of a queue that is not empty. -/
def execEngineTake (s : State) : StepResult := .next (if s.resetLine then s else s.setEngine s.engine.take)

/-- JOB_COMPLETION (R118): the job in flight completes. -/
def execJobCompletion (s : State) : StepResult :=
  match s.engine.flight with
  | none => .next s
  | some f => .next (if s.resetLine then s else s.complete f.job)

end Sys2Proof.Machine
end

