-- ==== Sys2Proof/Machine/Requests.lean ====
section
/-! DEFINITION. The meanings of the request rows: each is the event at which the owning block serves the request in
service of its kind (R158, section 10.6). With no such request in service the event is not due. -/

namespace Sys2Proof.Machine

open Sys2Proof

/-- READ_STATUS (R164). -/
def execReadStatus (s : State) : StepResult := .next (s.serve .readStatus serveReadStatus)

/-- WRITE_CHANNELS (R36). -/
def execWriteChannels (s : State) : StepResult := .next (s.serve .writeChannels serveWriteChannels)

/-- WRITE_TAP (R39). -/
def execWriteTap (s : State) : StepResult := .next (s.serve .writeTap serveWriteTap)

/-- READ_TAP (R42). -/
def execReadTap (s : State) : StepResult := .next (s.serve .readTap serveReadTap)

/-- WRITE_GROUPS (R44). -/
def execWriteGroups (s : State) : StepResult := .next (s.serve .writeGroups serveWriteGroups)

/-- WRITE_CORRECTION (R45). -/
def execWriteCorrection (s : State) : StepResult := .next (s.serve .writeCorrection serveWriteCorrection)

/-- WRITE_TRACKER (R47). -/
def execWriteTracker (s : State) : StepResult := .next (s.serve .writeTracker serveWriteTracker)

/-- HANDOVER_START (R82). -/
def execHandoverStart (s : State) : StepResult := .next (s.serve .handover serveHandoverStart)

/-- HANDOVER_CANCEL (R87). -/
def execHandoverCancel (s : State) : StepResult := .next (s.serve .handover serveHandoverCancel)

/-- SET_TARIFF (R98). -/
def execSetTariff (s : State) : StepResult := .next (s.serve .setTariff serveSetTariff)

/-- SET_CONSTANT (R138). -/
def execSetConstant (s : State) : StepResult := .next (s.serve .setConstant serveSetConstant)

/-- READ_REGISTERS (R141). -/
def execReadRegisters (s : State) : StepResult := .next (s.serve .readRegisters serveReadRegisters)

/-- RESTORE (R139). -/
def execRestore (s : State) : StepResult := .next (s.serve .restore serveRestore)

/-- CLEAR (R140). -/
def execClear (s : State) : StepResult := .next (s.serve .clear serveClear)

/-- READ_RECORD (R150). -/
def execReadRecord (s : State) : StepResult := .next (s.serve .readRecord serveReadRecord)

/-- READ_SPECTRUM (R122). -/
def execReadSpectrum (s : State) : StepResult := .next (s.serve .readSpectrum serveReadSpectrum)

/-- SET_AGREEMENT (R32). -/
def execSetAgreement (s : State) : StepResult := .next (s.serve .setAgreement serveSetAgreement)

/-- SET_STATION (R167). -/
def execSetStation (s : State) : StepResult := .next (s.serve .setStation serveSetStation)

/-- RESET (R169). -/
def execReset (s : State) : StepResult := .next (s.serve .reset serveReset)

end Sys2Proof.Machine
end

