-- ==== Sys2Proof/Machine/Dispatch.lean ====
section
/-! DEFINITION. The meaning of every command, one arm per row of spec/opcode_table.json. -/

namespace Sys2Proof.Machine

open Sys2Proof

def exec (i : Instr) (s : State) : Host.Outcome State Fault Refusal :=
  match i with
  | .powerOn station frequency => Sys2Proof.Machine.execPowerOn station frequency s
  | .pinReset => Sys2Proof.Machine.execPinReset s
  | .pinResetRelease => Sys2Proof.Machine.execPinResetRelease s
  | .linkUp port => Sys2Proof.Machine.execLinkUp port s
  | .linkDown port => Sys2Proof.Machine.execLinkDown port s
  | .receptionEnd port frame => Sys2Proof.Machine.execReceptionEnd port frame s
  | .transmissionEnd port => Sys2Proof.Machine.execTransmissionEnd port s
  | .offerTimerExpiry => Sys2Proof.Machine.execOfferTimerExpiry s
  | .acknowledgeTimerExpiry => Sys2Proof.Machine.execAcknowledgeTimerExpiry s
  | .pauseTimerExpiry => Sys2Proof.Machine.execPauseTimerExpiry s
  | .silenceTimerExpiry => Sys2Proof.Machine.execSilenceTimerExpiry s
  | .noCrossing tracker => Sys2Proof.Machine.execNoCrossing tracker s
  | .handoverTimeout tracker => Sys2Proof.Machine.execHandoverTimeout tracker s
  | .holdoverLimit tracker => Sys2Proof.Machine.execHoldoverLimit tracker s
  | .engineTake => Sys2Proof.Machine.execEngineTake s
  | .jobCompletion => Sys2Proof.Machine.execJobCompletion s
  | .readStatus => Sys2Proof.Machine.execReadStatus s
  | .writeChannels => Sys2Proof.Machine.execWriteChannels s
  | .writeTap => Sys2Proof.Machine.execWriteTap s
  | .readTap => Sys2Proof.Machine.execReadTap s
  | .writeGroups => Sys2Proof.Machine.execWriteGroups s
  | .writeCorrection => Sys2Proof.Machine.execWriteCorrection s
  | .writeTracker => Sys2Proof.Machine.execWriteTracker s
  | .handoverStart => Sys2Proof.Machine.execHandoverStart s
  | .handoverCancel => Sys2Proof.Machine.execHandoverCancel s
  | .setTariff => Sys2Proof.Machine.execSetTariff s
  | .setConstant => Sys2Proof.Machine.execSetConstant s
  | .readRegisters => Sys2Proof.Machine.execReadRegisters s
  | .restore => Sys2Proof.Machine.execRestore s
  | .clear => Sys2Proof.Machine.execClear s
  | .readRecord => Sys2Proof.Machine.execReadRecord s
  | .readSpectrum => Sys2Proof.Machine.execReadSpectrum s
  | .setAgreement => Sys2Proof.Machine.execSetAgreement s
  | .setStation => Sys2Proof.Machine.execSetStation s
  | .reset => Sys2Proof.Machine.execReset s

end Sys2Proof.Machine
end

