-- ==== Sys2Proof/Machine/Step.lean ====
section
/-! DEFINITION. One step of the part: the command at the front of the queue runs on the state with the queue's rest; on
an empty queue the part idles. -/

namespace Sys2Proof.Machine

open Sys2Proof

/-- One step. DESIGN CHOICE: on an empty queue the part stays as it stands (notes/assumptions/3.md). -/
def step (s : State) : Host.Outcome State Fault Refusal :=
  match s.pending with
  | [] => .next s
  | c :: rest => exec c (s.setPending rest)

/-- s with the command that the word spells put at the front of its queue; s itself where the word spells none, which
is every word (Sys2Proof/Decode.lean). -/
def State.withFetchWord (s : State) (nbits w : Nat) : State :=
  match decodeTableWord nbits w with
  | none => s
  | some c => s.setPending (c :: s.pending)

end Sys2Proof.Machine
end

