-- ==== Sys2Proof/Safety.lean ====
section
/-! DEFINITION. What the claims are written in: which blocks of the state a command may change, when an answer has been
placed, and the laws of the manual that every step keeps (the capacities of the queues, the ranges of the registers,
the limits of the open block accumulators, the band of the periods, the places of the resamplers). -/

namespace Sys2Proof.Machine

open Sys2Proof

/-! ## Frames -/

/-- The parts of the state that a frame may name. -/
inductive Block where
  | straps | resetLine | ports | wire | latches | agreement | tables | intake | trackers | former | engine | accounts
  | records | management | choices | pending
  deriving DecidableEq, Repr

/-- The block reads the same in both states. -/
def Block.same (s t : State) : Block → Prop
  | .straps => t.straps = s.straps
  | .resetLine => t.resetLine = s.resetLine
  | .ports => t.ports = s.ports
  | .wire => t.wire = s.wire
  | .latches => t.latches = s.latches
  | .agreement => t.agreement = s.agreement
  | .tables => t.tables = s.tables
  | .intake => t.intake = s.intake
  | .trackers => t.trackers = s.trackers
  | .former => t.former = s.former
  | .engine => t.engine = s.engine
  | .accounts => t.accounts = s.accounts
  | .records => t.records = s.records
  | .management => t.management = s.management
  | .choices => t.choices = s.choices
  | .pending => t.pending = s.pending

/-- Every block outside `changed` reads in t as it does in s. -/
def SameOutside (changed : List Block) (s t : State) : Prop := ∀ b : Block, b ∉ changed → b.same s t

/-- What stays of port state when items are only placed for port B: everything but the answer slot, the notice queue,
the report slots, and what port B's next choice moves (its transmission and the turn marker). -/
structure Ports.Kept (p q : Ports) : Prop where
  linkA : q.linkA = p.linkA
  linkB : q.linkB = p.linkB
  txA : q.txA = p.txA
  relayQueue : q.relayQueue = p.relayQueue
  offer : q.offer = p.offer
  forwardQueue : q.forwardQueue = p.forwardQueue

/-- In t the answer to request r stands in the answer slot with this result and body, the unit is IDLE, nothing else of
it has changed, and of the ports only what port B's choice moves once the answer is placed (R158, R160, R11). -/
structure Answered (s t : State) (r : Request) (result : Result) (body : Bytes) : Prop where
  slot : t.ports.answerSlot = some ⟨r.source, r.tag, r.kind, result, body⟩
  idle : t.management.inService = none
  queue : t.management.requestQueue = s.management.requestQueue
  cause : t.management.startCause = s.management.startCause
  resetWaiting : t.management.resetWaiting = s.management.resetWaiting
  kept : s.ports.Kept t.ports
  notices : t.ports.noticeQueue = s.ports.noticeQueue
  reports : t.ports.reportSlots = s.ports.reportSlots
  firstReport : t.ports.firstReport = s.ports.firstReport
  sending : s.ports.txB.isSome → t.ports.txB = s.ports.txB ∧ t.ports.turn = s.ports.turn
  choice : s.resetLine = false → t.ports = Ports.chooseB s.straps.station
    { s.ports with answerSlot := some ⟨r.source, r.tag, r.kind, result, body⟩ }

/-- A request of kind k is in service and no reset is in effect. -/
structure Serving (s : State) (k : RequestKind) (r : Request) : Prop where
  running : s.resetLine = false
  service : s.management.inService = some r
  kind : r.validKind = some k

/-- The row that serves a request of kind k with this body: HANDOVER by its action, every other kind by its own row
(section 10.6). -/
def commandOf (body : Bytes) : RequestKind → Instr
  | .readStatus => .readStatus
  | .writeChannels => .writeChannels
  | .writeTap => .writeTap
  | .readTap => .readTap
  | .writeGroups => .writeGroups
  | .writeCorrection => .writeCorrection
  | .writeTracker => .writeTracker
  | .handover => if byteAt body 1 = 1 then .handoverCancel else .handoverStart
  | .setTariff => .setTariff
  | .setConstant => .setConstant
  | .readRegisters => .readRegisters
  | .restore => .restore
  | .clear => .clear
  | .readRecord => .readRecord
  | .readSpectrum => .readSpectrum
  | .setAgreement => .setAgreement
  | .setStation => .setStation
  | .reset => .reset

/-- The number of a request kind (section 10.6). -/
def kindNumber : RequestKind → Nat
  | .readStatus => 1
  | .writeChannels => 2
  | .writeTap => 3
  | .readTap => 4
  | .writeGroups => 5
  | .writeCorrection => 6
  | .writeTracker => 7
  | .handover => 8
  | .setTariff => 9
  | .setConstant => 10
  | .readRegisters => 11
  | .restore => 12
  | .clear => 13
  | .readRecord => 14
  | .readSpectrum => 15
  | .setAgreement => 16
  | .setStation => 17
  | .reset => 18

/-- The body lengths that step 2 of R159 takes for a kind: those of R176, of a window write by the count that its own
body carries. -/
def bodyLengths (body : Bytes) : RequestKind → List Nat
  | .readStatus | .reset => [0]
  | .writeChannels => [2 + 6 * byteAt body 1]
  | .writeTap => [31]
  | .readTap | .clear => [1]
  | .writeGroups => [2 + 2 * byteAt body 1]
  | .writeCorrection => [3 + 4 * byteAt body 2]
  | .writeTracker => [14]
  | .handover | .setAgreement => [3]
  | .setTariff => [1, 5]
  | .setConstant | .setStation => [9]
  | .readRegisters | .readSpectrum => [2]
  | .restore => [337]
  | .readRecord => [5]

/-- Every field of the body lies in its range: the ranges of R34, R35, R38, R44, R45, R46, R32, R82, R98, R122, R138 to
R141, R150 and R167, on the bytes where R176 places the fields. -/
def bodyInRange (body : Bytes) : RequestKind → Bool
  | .readStatus | .reset => true
  | .writeChannels =>
    decide (byteAt body 0 ≤ 47 ∧ 1 ≤ byteAt body 1 ∧ byteAt body 1 ≤ 48 ∧
      ∀ j, j < byteAt body 1 → -524288 ≤ beInt body (4 + 6 * j) 4 ∧ beInt body (4 + 6 * j) 4 ≤ 524287)
  | .writeTap =>
    decide (byteAt body 0 ≤ 7 ∧ byteAt body 1 ≤ 1 ∧ byteAt body 2 ≤ 1 ∧
      (∀ i : Fin 6, byteAt body (3 + i.val) ≤ 47 ∧
        ∀ j : Fin 6, j < i → byteAt body (3 + i.val) ≠ byteAt body (3 + j.val)) ∧
      byteAt body 9 ≤ 4 ∧ 1 ≤ byteAt body 10 ∧ byteAt body 10 ≤ 50 ∧ byteAt body 11 ≤ 1)
  | .readTap | .clear | .readRecord => decide (byteAt body 0 ≤ 7)
  | .writeGroups =>
    decide (2 ≤ byteAt body 0 ∧ byteAt body 0 ≤ 50 ∧ 1 ≤ byteAt body 1 ∧ byteAt body 1 ≤ 49 ∧
      ∀ j, j < byteAt body 1 → byteAt body (2 + 2 * j) ≤ 4)
  | .writeCorrection =>
    decide (1 ≤ byteAt body 0 ∧ byteAt body 0 ≤ 4 ∧ 1 ≤ byteAt body 1 ∧ byteAt body 1 ≤ 50 ∧
      1 ≤ byteAt body 2 ∧ byteAt body 2 ≤ 50)
  | .writeTracker =>
    decide (byteAt body 0 ≤ 1 ∧ byteAt body 1 ≤ 1 ∧ byteAt body 2 ≤ 47 ∧ byteAt body 3 ≤ 1 ∧
      8 ≤ byteAt body 4 ∧ byteAt body 4 ≤ 32 ∧ byteAt body 5 ≤ 2 ∧ byteAt body 6 ≤ byteAt body 4 - 1 ∧
      1 ≤ byteAt body 7 ∧ byteAt body 8 ≤ 1 ∧ beNat body 9 5 ≤ 2 ^ 38 ∧
      ¬(byteAt body 0 = 0 ∧ byteAt body 3 = 1))
  | .handover =>
    decide (byteAt body 0 ≤ 1) && (decide (byteAt body 1 = 1) || decide (byteAt body 1 = 0 ∧ byteAt body 2 ≤ 47))
  | .setTariff => decide (byteAt body 0 ≤ 3)
  | .setConstant => decide (byteAt body 0 ≤ 7 ∧ 1 ≤ beNat body 1 8 ∧ beNat body 1 8 < 2 ^ 56)
  | .readRegisters => decide (byteAt body 0 ≤ 7 ∧ byteAt body 1 ≤ 4)
  | .restore =>
    decide (byteAt body 0 ≤ 7 ∧
      (∀ i : Fin 288, byteAt body (1 + i.val) / 16 ≤ 9 ∧ byteAt body (1 + i.val) % 16 ≤ 9) ∧
      ∀ i : Fin 48, byteAt body (289 + i.val) ≤ 15)
  | .readSpectrum => decide (byteAt body 0 ≤ 7 ∧ byteAt body 1 ≤ 1)
  | .setAgreement =>
    decide (byteAt body 0 ≤ 1 ∧ byteAt body 1 ≠ 0 ∧ byteAt body 2 ≤ 7 ∧
      byteAt body 1 / 2 ^ byteAt body 2 % 2 = 1)
  | .setStation => decide (byteAt body 6 ≤ 1 ∧ byteAt body 7 ≤ 1 ∧ 1 ≤ byteAt body 8)

/-- The kind whose requests the row serves, for the nineteen request rows. -/
def requestKindOf : Instr → Option RequestKind
  | .readStatus => some .readStatus
  | .writeChannels => some .writeChannels
  | .writeTap => some .writeTap
  | .readTap => some .readTap
  | .writeGroups => some .writeGroups
  | .writeCorrection => some .writeCorrection
  | .writeTracker => some .writeTracker
  | .handoverStart | .handoverCancel => some .handover
  | .setTariff => some .setTariff
  | .setConstant => some .setConstant
  | .readRegisters => some .readRegisters
  | .restore => some .restore
  | .clear => some .clear
  | .readRecord => some .readRecord
  | .readSpectrum => some .readSpectrum
  | .setAgreement => some .setAgreement
  | .setStation => some .setStation
  | .reset => some .reset
  | .powerOn _ _ | .pinReset | .pinResetRelease | .linkUp _ | .linkDown _ | .receptionEnd _ _ | .transmissionEnd _
  | .offerTimerExpiry | .acknowledgeTimerExpiry | .pauseTimerExpiry | .silenceTimerExpiry | .noCrossing _
  | .handoverTimeout _ | .holdoverLimit _ | .engineTake | .jobCompletion => none

/-! ## Frames that arrive -/

/-- The link state of one port, replaced. -/
def Ports.withLink (p : Ports) (port : Port) (l : Link) : Ports :=
  match port with
  | .a => { p with linkA := l }
  | .b => { p with linkB := l }

/-- The record of a port's last ended transmission, once the transmission `x` in progress there, if any, has ended in
this way (R3; the record is the model's own, notes/assumptions/25.md). -/
def endedAs (x : Option Transmission) (e : Ending) (last : Option SentFrame) : Option SentFrame :=
  match x with
  | none => last
  | some y => some ⟨y, e⟩

/-- A frame that passes both checks of R1 ends its reception on a port that is UP, with no reset in effect. -/
structure Arrives (s : State) (port : Port) (f : RxFrame) : Prop where
  running : s.resetLine = false
  up : s.ports.link port = .up
  fcs : f.fcsGood = true
  long : 64 ≤ f.bytes.length
  short : f.bytes.length ≤ 1522

/-- A recognised stream frame of kind k so arrives (R4). -/
structure StreamArrives (s : State) (port : Port) (f : RxFrame) (k : FrameKind) (x : StreamFrame) : Prop where
  arrives : Arrives s port f
  recognised : recognise f.bytes = some x
  kind : x.kind = k

/-- A well-formed partner OFFER so arrives on port A, with its mask and ack flag (R20). -/
structure OfferArrives (s : State) (f : RxFrame) (mask : BitVec 8) (ack : Bool) : Prop where
  frame : ∃ x, StreamArrives s .a f .offer x ∧ 2 ≤ x.stated ∧ x.carried.getD 0 0 = mask ∧
    readBool (byteAt x.carried 1) = some ack

/-- A SAMPLE SET so arrives on port A (R5). -/
structure SampleArrives (s : State) (f : RxFrame) (x : SampleSet) : Prop where
  frame : ∃ y, StreamArrives s .a f .sampleSet y ∧ x = readSampleSet y

/-- The intake admits the SAMPLE SET under profile p (R28, R51). -/
structure Admitted (s : State) (x : SampleSet) (p : ProfileCode) : Prop where
  agreed : s.agreement.state = .agreed p
  profile : s.agreement.profile = p
  code : x.code = p.val
  count : x.valueCount = channelCount p
  length : 4 + 3 * x.valueCount ≤ x.stated

/-- The frame enters the forward queue of s as it is, and port B's choice may start; with 32 held it is lost with
FORWARD_DROPPED (R8, R11). -/
structure Entered (s t : State) (b : Bytes) : Prop where
  room : s.ports.forwardQueue.length < 32 → t = s.setPorts
    (Ports.chooseB s.straps.station { s.ports with forwardQueue := s.ports.forwardQueue ++ [b] })
  full : 32 ≤ s.ports.forwardQueue.length → t = s.setLatches { s.latches with forwardDropped := true }

/-- From s to t the block that a stream frame is delivered to takes s's part from a to b, and with forwarding ON the
frame enters the forward queue before it or after it (R5, R7; the order is free, notes/assumptions/5.md). -/
structure Forwarded (s a b t : State) (bytes : Bytes) : Prop where
  off : s.tables.station.forwarding = false → a = s ∧ t = b
  on : s.tables.station.forwarding = true → ∃ n,
    (a = s.setChoices n ∧ Entered b t bytes) ∨ (Entered (s.setChoices n) a bytes ∧ t = b)

/-- The calibrated value of channel c of an admitted SAMPLE SET (R59, R61). -/
def calibratedValue (s : State) (x : SampleSet) (c : Channel) : Int :=
  if c.val < channelCount s.agreement.profile then
    max (-524288) (min 524287
      (roundDiv ((x.value c.val - s.tables.channels[c].offset) * s.tables.channels[c].gain.toNat) 32768))
  else 0

/-- The calibrated value of channel c of an admitted SAMPLE SET was clamped (R59, R62). -/
def clamped (s : State) (x : SampleSet) (c : Channel) : Bool :=
  let e := s.tables.channels[c]
  decide (c.val < channelCount s.agreement.profile ∧
    calibratedValue s x c ≠ roundDiv ((x.value c.val - e.offset) * e.gain.toNat) 32768)

/-- CLIPPED is set where a value of the frame was clamped, and each COLLECTING tap counts one clip for each of its six
channels whose value was (R60, R65). -/
structure ClipsCounted (s t : State) (x : SampleSet) : Prop where
  frame : SameOutside [.latches, .former] s t
  latches : t.latches = { s.latches with clipped := s.latches.clipped || decide (∃ c : Channel, clamped s x c = true) }
  former : t.former = { s.former with taps := t.former.taps }
  taps : ∀ tap : TapId, t.former.taps[tap] =
    if s.former.taps[tap].collect = .collecting then
      { s.former.taps[tap] with
        clips := min 65535 (s.former.taps[tap].clips + ((s.tapEntry tap).channels.toList.filter (clamped s x)).length) }
    else s.former.taps[tap]

/-- What an input sample brings to a tap before the trackers work: a counted gap grows by one, and a COLLECTING tap that
names an absent channel is marked CHANNEL_ABSENT (R61, R100, R102). -/
def sampledTap (s : State) (tap : TapId) : FormerTap :=
  match s.former.taps[tap].collect with
  | .joining (some n) => { s.former.taps[tap] with collect := .joining (some (n + 1)) }
  | .collecting =>
    { s.former.taps[tap] with
      absent := s.former.taps[tap].absent ||
        decide (∃ c ∈ (s.tapEntry tap).channels.toList, channelCount s.agreement.profile ≤ c.val) }
  | .inactive | .joining none => s.former.taps[tap]

/-- One input sample handed on from s to t (R62, R80, R92): it becomes the current sample set and is counted, the taps
take it, and then each running tracker examines it for crossings and makes its resampler's step, from the sample before
to this one; a start-marked sample has itself for predecessor (R52). Tracker 0 is first unless both trackers run, where
the order is free (R105, R109, notes/assumptions/4.md). -/
structure SampleHandedOn (s t : State) (values : ChannelValues) (filled start : Bool) : Prop where
  work : ∃ (m : State) (order : List TrackerId),
    SameOutside [.intake, .former, .choices] s m ∧
    m.intake = { s.intake with current := values, count := s.intake.count + 1 } ∧
    m.former = { s.former with taps := Vector.ofFn (sampledTap s) } ∧
    (order = [0, 1] ∨ (order = [1, 0] ∧ ∀ u : TrackerId, s.trackers[u].state.isRunning = true)) ∧
    t = order.foldl (fun k u =>
      if k.trackers[u].state.isRunning then
        (k.examine u start values).resample u (if start then values else s.intake.current) values filled
      else k) m

/-- g filled input samples handed on from s to t, each repeating the current sample set (R54). -/
def SamplesFilled : Nat → State → State → Prop
  | 0, s, t => t = s
  | g + 1, s, t => ∃ m, SampleHandedOn s m s.intake.current true false ∧ SamplesFilled g m t

/-- An admitted SAMPLE SET taken from s to t (R52, R53, R60, R62): its clips counted, its calibrated values handed on as
one input sample, the next number expected and the silence timer started. -/
structure FrameTaken (s t : State) (x : SampleSet) (start : Bool) : Prop where
  taken : ∃ m n, ClipsCounted s m x ∧ SampleHandedOn m n (Vector.ofFn (calibratedValue s x)) false start ∧
    t = n.setIntake { n.intake with
      stream := .running, expected := some (x.sequence + 1), silence := .running n.tables.station.silenceMs }

/-! ## Crossings -/

/-- The class of an input sample at a detector: a candidate where the value passes from below 0 to 0 or above, at its
time and against the last crossing; none at a start-marked sample or the first one (R67, R68). -/
def crossingOf (d : Detector) (lnom : Nat) (start : Bool) (n : BitVec 32) (x : Int) : Crossing :=
  match d.previous with
  | none => .none
  | some p => if start = false ∧ p < 0 ∧ 0 ≤ x then classifyAt lnom d.last (crossingTime n p x) else .none

/-- The detector after a sample of value x in a class: the age counts, to 0 again at a seed and an accepted crossing, a
candidate that is not ignored is the last crossing, and a rejected one takes the lock count to 0 (R68). -/
def detectorAfter (d : Detector) (x : Int) : Crossing → Detector
  | .none | .ignored => ⟨some x, d.last, d.lockCount, min 65535 (d.age + 1)⟩
  | .seed t | .accepted t _ => ⟨some x, some t, d.lockCount, 0⟩
  | .rejected t => ⟨some x, some t, 0, min 65535 (d.age + 1)⟩

/-- A pending handover after its shadow detector has examined a sample of value x on the new channel: an accepted
crossing is tested against the shadow period before its update and moves it, and the fourth in the window in a row locks
the shadow (R83, R84). -/
def shadowAfter (h : Handover) (lnom : Nat) (start : Bool) (n : BitVec 32) (x : Int) : Handover :=
  let c := crossingOf h.shadow lnom start n x
  let d := detectorAfter h.shadow x c
  match c with
  | .accepted _ m =>
    let count := if ((m : Int) - h.ls).natAbs ≤ h.ls / 64 then min 4 (h.shadow.lockCount + 1) else 0
    { h with
      shadow := { d with lockCount := count }
      ls := filterPeriod lnom h.ls m
      locked := h.locked || decide (count = 4) }
  | .none | .ignored | .seed _ | .rejected _ => { h with shadow := d }

/-! ## Warm resets -/

/-- What both warm resets leave of the blocks they empty (R16, R66, R123, R142, R156, R163, R171): the registers,
constants, restore states and block numbers of the accounts are said apart. -/
def Emptied (t : State) (cause : StartCause) : Prop :=
  t.ports.relayQueue = [] ∧ t.ports.forwardQueue = [] ∧ t.ports.answerSlot = none ∧ t.ports.noticeQueue = [] ∧
  t.ports.reportSlots = #v[none, none] ∧ t.ports.txB = none ∧ t.ports.turn = .own ∧
  t.latches = ⟨false, false, false, false, false, false, false, false, false⟩ ∧
  (∀ c : Channel, t.intake.current[c] = 0) ∧ t.intake.stream = .waiting ∧ t.intake.expected = none ∧
  t.intake.silence = .stopped ∧ t.intake.count = 0 ∧
  t.engine.queue = [] ∧ t.engine.flight = none ∧ t.engine.window = none ∧
  (∀ tap : TapId, t.engine.held[tap] = none ∧ t.engine.stale[tap] = 0 ∧ t.engine.store[tap] = none) ∧
  (∀ tap : TapId, t.accounts[tap].accumulators = [] ∧ t.accounts[tap].late = 0 ∧
    t.accounts[tap].firstAfterReset = true ∧ t.accounts[tap].lastCycle = none) ∧
  t.records.ring = [] ∧ t.records.nextSlot = 0 ∧
  (∀ (tap : TapId) (k : LimitKind), t.records.skips[tap] = 0 ∧ t.records.limits[tap].get k = ⟨false, 0⟩) ∧
  t.management = ⟨[], none, cause, false⟩ ∧
  (∀ tap : TapId, t.tables.taps[tap].staged = none) ∧ (∀ u : TrackerId, t.trackers[u].handover = none)

/-- The accounts that a warm reset keeps: registers, K and restore states (R142). -/
def RegistersKept (s t : State) : Prop :=
  ∀ tap : TapId, t.accounts[tap].registers = s.accounts[tap].registers ∧
    t.accounts[tap].constant = s.accounts[tap].constant ∧ t.accounts[tap].restore = s.accounts[tap].restore

/-- The trackers, the cycle former and the block numbers after a warm reset from s to t, by the settings and the tap
entries that t has (R90, R104, R108). -/
def TrackersRestarted (s t : State) : Prop :=
  (∀ u : TrackerId, t.trackers[u].state =
    (if t.tables.settings[u].enabled = false then .idle
     else if u = 1 ∧ t.tables.settings[u].mode = .follower then .following else .acquiring) ∧
    t.lfix u = t.lnom ∧ t.trackers[u].detector = ⟨none, none, 0, 0⟩ ∧ t.trackers[u].rejections = 0 ∧
    t.trackers[u].halfSum = 0 ∧ t.trackers[u].dipCount = 0 ∧ t.trackers[u].holdoverCount = 0 ∧
    t.trackers[u].marks = ⟨decide (t.trackers[u].state = .acquiring), false, false,
      decide (t.trackers[u].state = .following), false⟩ ∧
    t.former.trackers[u].resampler =
      (if t.trackers[u].state.isRunning then some ⟨0, 0, 2 ^ 39 / t.lnom, 0, t.lnom, false⟩ else none) ∧
    t.former.trackers[u].index = 0 ∧ t.former.trackers[u].align = .none ∧
    t.former.trackers[u].reindexed = false ∧ t.former.trackers[u].cycleEnds = 0 ∧
    t.former.trackers[u].inForce = t.tables.settings[u].written ∧
    t.former.trackers[u].tariff = s.former.trackers[u].tariff) ∧
  (∀ tap : TapId, t.former.taps[tap].collect =
    (if t.tables.taps[tap].entry.enabled = true ∧ t.makesCycles t.tables.taps[tap].entry.tracker = true
     then .collecting else .inactive) ∧
    t.former.taps[tap].points = Vector.replicate 6 (Vector.replicate 128 0) ∧
    t.former.taps[tap].unaccounted = 0 ∧ t.former.taps[tap].clips = 0 ∧ t.former.taps[tap].absent = false ∧
    t.accounts[tap].blockNumber = s.accounts[tap].blockNumber + 1) ∧
  t.former.second = none ∧ t.former.pendingTariff = none

/-! ## Notices, breaks and entries -/

/-- The notice queue after the notices `l` are handed over in order: kept with notices OFF, and never grown beyond 8
(R168). -/
def queueNotices (settings : StationSettings) (q : List Notice) (l : List NoticeBody) : List Notice :=
  if settings.notices then (q ++ l.map fun n => (⟨settings.destination, n⟩ : Notice)).take (max 8 q.length) else q

/-- Port B's choice on ports p in the part s: none while a reset is in effect (R11). -/
def State.chosenB (s : State) (p : Ports) : Ports := if s.resetLine then p else p.chooseB s.straps.station

/-- What a notice n that is placed first starts (R11, R14, R168): with port B free, notices ON, room in the queue and no
reset in effect, the transmission and the turn marker in q are those of port B's choice on p with n in the queue. -/
def NoticeStarts (s : State) (p q : Ports) (n : NoticeBody) : Prop :=
  s.resetLine = false → p.freeB = true → s.tables.station.notices = true → p.noticeQueue.length < 8 →
    let chosen := Ports.chooseB s.straps.station
      { p with noticeQueue := p.noticeQueue ++ [⟨s.tables.station.destination, n⟩] }
    q.txB = chosen.txB ∧ q.turn = chosen.turn

/-- From ports p and latches x to ports q and latches y exactly the notices `l` are handed over, in this order, under
the station settings of s: they stand in the notice queue as far as it has room, NOTICE_DROPPED is set if one found no
room, the first that is placed starts port B where it is free, and nothing else of the ports and latches differs (R11,
R168). -/
structure HandedOver (s : State) (p : Ports) (x : Latches) (q : Ports) (y : Latches) (l : List NoticeBody) : Prop where
  ports : q = { p with
    noticeQueue := queueNotices s.tables.station p.noticeQueue l, txB := q.txB, turn := q.turn }
  sending : (s.resetLine = true ∨ p.freeB = false ∨ s.tables.station.notices = false ∨ 8 ≤ p.noticeQueue.length ∨
    l = []) → q.txB = p.txB ∧ q.turn = p.turn
  starts : ∀ n rest, l = n :: rest → NoticeStarts s p q n
  latches : y = { x with noticeDropped := x.noticeDropped ||
    (s.tables.station.notices && decide (max 8 p.noticeQueue.length < p.noticeQueue.length + l.length)) }

/-- In t exactly the notices `l` have been handed over, beside ports p and latches x (R11, R168). -/
abbrev NoticesFrom (s : State) (p : Ports) (x : Latches) (t : State) (l : List NoticeBody) : Prop :=
  HandedOver s p x t.ports t.latches l

/-- From s to t exactly the notices `l` are handed over, and nothing else of the ports and latches changes (R168). -/
abbrev Noticed (s t : State) (l : List NoticeBody) : Prop := NoticesFrom s s.ports s.latches t l

/-- From s to t exactly the notices `l` are handed over and then the answer a is placed: port B, where it is free, makes
its choice for the first notice, and for the answer where no notice started it (R11, R160, R168). -/
def NoticesThenAnswer (s t : State) (l : List NoticeBody) (a : Answer) : Prop :=
  ∃ q : Ports, HandedOver s s.ports s.latches q t.latches l ∧ t.ports = s.chosenB { q with answerSlot := some a }

/-- The OFFER's place after a withdrawal: empty, but for an OFFER in transmission, which completes (R12). -/
def OfferPlace.withdrawn : OfferPlace → OfferPlace
  | .empty | .waiting _ => .empty
  | .sending x | .replaced x _ => .sending x

/-- The OFFER that the place will send last, or sends, is o (R12). -/
def OfferPlace.Holds (p : OfferPlace) (o : Offer) : Prop := p = .waiting o ∨ p = .sending o ∨ ∃ x, p = .replaced x o

/-- What a stream break and the leaving of AGREED do to the trackers and to the cycle former (R29, R63, R79, R88, R91):
detectors and counts of a running tracker cleared, its state and Lfix and a pending handover kept, its resampler started
again; the samples of the abandoned cycle unaccounted for every tap that was collecting it, unless it had collected
none (R63), and the gap of a JOINING tap unaccounted; these taps collect from the new start. -/
structure CyclesBroken (s t : State) : Prop where
  running : ∀ u : TrackerId, s.trackers[u].state.isRunning = true → t.trackers[u] =
    { s.trackers[u] with
      detector := ⟨s.trackers[u].detector.previous, none, 0, 0⟩
      rejections := 0
      halfSum := 0
      dipCount := 0
      marks := .ofState s.trackers[u].state
      handover := s.trackers[u].handover.map fun h => { h with shadow := ⟨none, none, 0, 0⟩, locked := false } }
  idle : ∀ u : TrackerId, s.trackers[u].state.isRunning = false → t.trackers[u] = s.trackers[u] ∧
    t.former.trackers[u] = s.former.trackers[u]
  resampler : ∀ u : TrackerId, s.trackers[u].state.isRunning = true → t.former.trackers[u] =
    { s.former.trackers[u] with
      resampler := some ⟨0, 0, 2 ^ 39 / s.trackers[u].lfix, 0, s.trackers[u].lfix, false⟩ }
  collecting : ∀ (tap : TapId) (u : TrackerId) (r : Resampler), s.cycleSource (s.tapTracker tap) = some u →
    s.trackers[u].state.isRunning = true → s.former.trackers[u].resampler = some r →
    s.former.taps[tap].collect = .collecting → t.former.taps[tap] =
      ⟨.collecting, Vector.replicate 6 (Vector.replicate 128 0), 0, false,
        min (2 ^ 32 - 1) (s.former.taps[tap].unaccounted + if r.point = 0 then 0 else r.samples)⟩
  joining : ∀ (tap : TapId) (u : TrackerId) (gap : Option Nat), s.cycleSource (s.tapTracker tap) = some u →
    s.trackers[u].state.isRunning = true → s.former.taps[tap].collect = .joining gap → t.former.taps[tap] =
      ⟨.collecting, Vector.replicate 6 (Vector.replicate 128 0), 0, false,
        min (2 ^ 32 - 1) (s.former.taps[tap].unaccounted + gap.getD 0)⟩
  inactive : ∀ tap : TapId, s.former.taps[tap].collect = .inactive → t.former.taps[tap] = s.former.taps[tap]
  time : t.former.second = s.former.second ∧ t.former.pendingTariff = s.former.pendingTariff

/-- The TRACKER notices of a change of rate to a nominal period: of tracker 0, then of tracker 1, where the state was
not ACQUIRING already (R30, R81). -/
def rateNotices (s : State) (lnom : Nat) : List NoticeBody :=
  ([0, 1] : List TrackerId).filterMap fun u =>
    if s.trackers[u].state = .locked ∨ s.trackers[u].state = .holdover ∨ s.trackers[u].state = .freerun then
      some (.tracker u s.trackers[u].state .acquiring .rateChange s.tables.settings[u].reference lnom s.intake.count)
    else none

/-- What the entry into AGREED(p) does, with the AGREEMENT notices `l` that it makes first, beside ports q (R18, R19,
R30, R79, R91). -/
structure EntersAgreed (s t : State) (q : Ports) (p : ProfileCode) (l : List NoticeBody) : Prop where
  state : t.agreement.state = .agreed p ∧ t.agreement.profile = p
  timers : t.agreement.offerTimer = .stopped ∧ t.agreement.ackTimer = .stopped
  intake : t.intake = { s.intake with stream := .waiting, expected := none, silence := .stopped }
  taps : t.former.taps = s.former.taps ∧ t.former.second = s.former.second ∧
    t.former.pendingTariff = s.former.pendingTariff
  kept : sampleRate p = sampleRate s.agreement.profile →
    t.trackers = s.trackers ∧ t.former = s.former ∧ NoticesFrom s q s.latches t l
  notices : sampleRate p ≠ sampleRate s.agreement.profile →
    NoticesFrom s q s.latches t (l ++ rateNotices s t.lnom)
  running : sampleRate p ≠ sampleRate s.agreement.profile → ∀ u : TrackerId,
    s.trackers[u].state.isRunning = true →
      t.trackers[u] =
        { s.trackers[u] with
          state := .acquiring
          marks := .ofState .acquiring
          lfix := t.lnom
          detector := { s.trackers[u].detector with lockCount := 0, age := 0 }
          rejections := 0
          dipCount := 0
          handover := s.trackers[u].handover.map fun h =>
            { h with ls := t.lnom, locked := false, shadow := { h.shadow with lockCount := 0 } } } ∧
      t.former.trackers[u] =
        { s.former.trackers[u] with
          resampler := s.former.trackers[u].resampler.map fun r =>
            { r with inc := 2 ^ 39 / t.lnom, period := t.lnom } }
  following : sampleRate p ≠ sampleRate s.agreement.profile → ∀ u : TrackerId,
    (s.trackers[u].state = .following → t.trackers[u] = { s.trackers[u] with lfix := t.lnom }) ∧
    (s.trackers[u].state = .idle → t.trackers[u] = s.trackers[u])

/-! ## Frames that leave -/

/-- The bytes of a frame of the part before its FCS: addresses, type value, stream header with the unpadded length, the
fields, and zero bytes up to 60 (R10, R173). -/
def frameBytes (station : BitVec 6) (dest : Mac) (kind : Byte) (fields : Bytes) : Bytes :=
  toBE 6 dest.toNat ++ [0x02, 0x4E, 0x42, 0x00, 0x00, station.setWidth 8, 0x9A, 0x4E, kind, 0x00] ++
    toBE 2 fields.length ++ fields ++ List.replicate (42 - fields.length) 0

/-- `b` are the fields of the notice, each where R179 places it. -/
def NoticeLaidOut (b : Bytes) : NoticeBody → Prop
  | .tracker u previous new cause reference lfix count =>
    b.length = 14 ∧ byteAt b 0 = 0 ∧ byteAt b 1 = u.val ∧ byteAt b 2 = previous.code ∧ byteAt b 3 = new.code ∧
      byteAt b 4 = cause.code ∧ byteAt b 5 = reference.val ∧ beNat b 6 4 = lfix % 2 ^ 32 ∧ beNat b 10 4 = count.toNat
  | .handover u outcome old new timeout locked state ls =>
    b.length = 12 ∧ byteAt b 0 = 1 ∧ byteAt b 1 = u.val ∧ byteAt b 2 = outcome.code ∧ byteAt b 3 = old.val ∧
      byteAt b 4 = new.val ∧ byteAt b 5 = timeout % 256 ∧ byteAt b 6 = (if locked then 1 else 0) ∧
      byteAt b 7 = state.code ∧ beNat b 8 4 = ls % 2 ^ 32
  | .limit tap kind outcome tariff block value bound =>
    b.length = 22 ∧ byteAt b 0 = 2 ∧ byteAt b 1 = tap.val ∧ byteAt b 2 = kind.code ∧ byteAt b 3 = outcome.code ∧
      byteAt b 4 = tariff.val ∧ byteAt b 5 = 0 ∧ beNat b 6 4 = block.toNat ∧ beNat b 10 8 = value % 2 ^ 64 ∧
      beNat b 18 4 = bound % 2 ^ 32
  | .agreement subject outcome accept partner =>
    b.length = 5 ∧ byteAt b 0 = 3 ∧ byteAt b 1 = subject.val ∧ byteAt b 2 = outcome.code ∧
      byteAt b 3 = accept.toNat ∧ byteAt b 4 = partner.toNat
  | .stream subject cause expected received silence count =>
    b.length = 13 ∧ byteAt b 0 = 4 ∧ byteAt b 1 = subject.val ∧ byteAt b 2 = cause.code ∧ byteAt b 3 = 0 ∧
      beNat b 4 2 = expected.toNat ∧ beNat b 6 2 = received.toNat ∧ byteAt b 8 = silence % 256 ∧
      beNat b 9 4 = count.toNat

/-- `b` is the block record with its record header, each field where R178 places it; a count reads modulo its width. -/
structure RecordLaidOut (b : Bytes) (r : BlockRecord) : Prop where
  length : b.length = 116 + (if r.thd.isSome then 12 else 0) + (if r.stamp.isSome then 6 else 0)
  header : byteAt b 0 = 0xA5 ∧ byteAt b 1 = 1 ∧ beNat b 2 2 = b.length - 4
  names : byteAt b 4 = r.tap.val ∧ byteAt b 5 = r.tracker.val ∧ byteAt b 6 = r.tariff.val ∧
    byteAt b 7 = r.profile.val ∧ beNat b 8 4 = r.block.toNat ∧ beNat b 12 2 = r.generation.toNat ∧
    byteAt b 14 = r.cls.val ∧ byteAt b 15 = r.hMax % 256 ∧ byteAt b 16 = r.reason.code ∧
    byteAt b 17 = r.disposition.code
  counts : beNat b 18 2 = r.cycles % 2 ^ 16 ∧ beNat b 20 2 = r.analysed % 2 ^ 16 ∧
    beNat b 22 2 = r.estimated % 2 ^ 16 ∧ beNat b 24 2 = r.dropped % 2 ^ 16 ∧ beNat b 26 2 = r.late % 2 ^ 16 ∧
    byteAt b 28 = r.outstanding % 256 ∧ beNat b 32 4 = r.unaccounted % 2 ^ 32 ∧
    beNat b 36 2 = r.clipTotal % 2 ^ 16 ∧ beNat b 38 4 = r.meanFrequency % 2 ^ 32
  exceed : byteAt b 29 = (if r.exceed.g0 then 1 else 0) + (if r.exceed.g1 then 2 else 0) +
    (if r.exceed.g2 then 4 else 0) + (if r.exceed.g3 then 8 else 0) + (if r.exceed.thd then 16 else 0)
  flags : ∀ i : Fin 16, (BitVec.ofNat 16 (beNat b 30 2)).getLsbD i.val =
    [r.flags.realigned, r.flags.acquiring, r.flags.holdover, r.flags.freerun, r.flags.following, r.flags.dipSeen,
      r.flags.filled, r.flags.clipped, r.flags.channelAbsent, r.flags.acctOff, r.flags.kChanged, r.flags.unrestored,
      r.flags.firstAfterReset, r.flags.noFundamental].getD i.val false
  increments : ∀ i : Fin 12, beNat b (42 + 6 * i.val) 6 = r.increments[i] % 2 ^ 48
  thd : match r.thd with
    | none => byteAt b 114 = 0
    | some l => byteAt b 114 = 6 ∧ ∀ c : Fin 6, beNat b (115 + 2 * c.val) 2 = l[c] % 2 ^ 16
  stamp : let n := if r.thd.isSome then 127 else 115
    match r.stamp with
    | none => byteAt b n = 0
    | some x => byteAt b n = 1 ∧ beNat b (n + 1) 4 = x.second.toNat ∧ beNat b (n + 5) 2 = x.cycleEnds % 2 ^ 16

/-! ## Open block accumulators -/

/-- The accumulator after a cycle entry's marks and clip count (R132). -/
def Accumulator.marked (a : Accumulator) (c : CycleInfo) : Accumulator :=
  { a with
    clipTotal := min 65535 (a.clipTotal + c.clips)
    flags := { a.flags with
      acquiring := a.flags.acquiring || c.marks.acquiring
      holdover := a.flags.holdover || c.marks.holdover
      freerun := a.flags.freerun || c.marks.freerun
      following := a.flags.following || c.marks.following
      dipSeen := a.flags.dipSeen || c.marks.dip
      filled := a.flags.filled || c.filled
      clipped := a.flags.clipped || decide (c.clips ≠ 0)
      channelAbsent := a.flags.channelAbsent || c.absent
      realigned := a.flags.realigned || c.realigned } }

/-- The accumulator after a cycle accounting of the given period, quotients and spectrum: of a job, which is then no
longer outstanding, or of an estimate; with accounting OFF the quotients stay out and ACCT_OFF is set (R130, R133). -/
def Accumulator.counted (a : Accumulator) (job accounting : Bool) (period : Nat) (q : Fin 12 → Nat) (x : Spectrum) :
    Accumulator :=
  { a with
    cycles := a.cycles + 1
    analysed := a.analysed + (if job then 1 else 0)
    estimated := a.estimated + (if job then 0 else 1)
    increments := Vector.ofFn fun r =>
      if accounting then min (2 ^ 48 - 1) (a.increments[r] + q r) else a.increments[r]
    flags := { a.flags with acctOff := a.flags.acctOff || !accounting }
    periodSum := a.periodSum + period
    fundamentalSums := Vector.ofFn fun c => a.fundamentalSums[c] + x.fundamental[c]
    harmonicSums := Vector.ofFn fun c => a.harmonicSums[c] + x.harmonic[c]
    outstanding := a.outstanding - (if job then 1 else 0) }

/-- The twelve quotients of a cycle accounting on a tap, from the registers of the entry's tariff (R129). -/
def quotients (a : TapAccount) (groups : Vector GroupEntry 49) (e : EntryHead) (c : CycleInfo) (x : Spectrum) (h : Nat)
    (r : Fin 12) : Nat :=
  (a.registers[(Fin.ofNat 48 (12 * e.tariff.val + r.val) : Fin 48)].residue +
    (contributions groups x.active x.reactive h c.length)[r]) / a.constant

/-- The accumulator that registers an entry (R131, R132), with the quotients of an estimate. -/
def Accumulator.afterEntry (a : Accumulator) (x : Entry) (q : Fin 12 → Nat) : Accumulator :=
  let e := x.head
  let b : Accumulator :=
    { a with
      unaccounted := min (2 ^ 32 - 1) (a.unaccounted + e.unaccounted)
      snapshot := e.snapshot
      close := if e.close = none then a.close else e.close
      stamp := if e.close = none then a.stamp else e.stamp }
  match x with
  | .job _ c => { b.marked c with outstanding := a.outstanding + 1 }
  | .estimate _ c copy => (b.marked c).counted false e.snapshot.accounting c.period q copy
  | .dropped _ c =>
    { b.marked c with
      dropped := a.dropped + 1, unaccounted := min (2 ^ 32 - 1) (a.unaccounted + e.unaccounted + c.length) }
  | .close _ => b

/-- The accumulators among which an entry finds its block: the tap's own where one has its block number; otherwise a new
one behind them, empty, with the entry's tracker and tariff and with FIRST_AFTER_RESET where the mark is set, the oldest
of two having left (R131, R132, R137). -/
def openedFor (a : TapAccount) (e : EntryHead) : List Accumulator :=
  if ∃ x ∈ a.accumulators, x.block = e.block then a.accumulators
  else
    (if a.accumulators.length < 2 then a.accumulators else a.accumulators.tail) ++
      [{ block := e.block, tracker := e.tracker, tariff := e.tariff, snapshot := e.snapshot, cycles := 0
         analysed := 0, estimated := 0, dropped := 0, unaccounted := 0, outstanding := 0, close := none
         increments := Vector.replicate 12 0, periodSum := 0, fundamentalSums := Vector.replicate 6 0
         harmonicSums := Vector.replicate 6 0, clipTotal := 0
         flags := { firstAfterReset := a.firstAfterReset }, stamp := none }]

/-- The accumulator that an entry closes by force: the older of two, neither with its block number (R132, R135). -/
def forcedBy (a : TapAccount) (e : EntryHead) : List Accumulator :=
  if (∃ x ∈ a.accumulators, x.block = e.block) ∨ a.accumulators.length < 2 then [] else a.accumulators.take 1

/-- An accumulator with a close marker and no outstanding job (R134). -/
def Accumulator.isComplete (a : Accumulator) : Bool := decide (a.close ≠ none ∧ a.outstanding = 0)

/-- The blocks that close, as the record unit receives them: `forced` first with reason FORCED, then the complete ones
at the front of `l` with their markers; the first of all takes the late tally (R134, R135, R136). -/
def closedBlocks (s : State) (tap : TapId) (forced l : List Accumulator) (late : Nat) : List ClosedBlock :=
  (forced.map (fun a => (CloseReason.forced, a)) ++
    (l.takeWhile Accumulator.isComplete).map fun a => (a.close.getD .forced, a)).mapIdx fun i x =>
      { tap := tap, acc := x.2, reason := x.1, outstanding := x.2.outstanding, late := if i = 0 then late else 0
        unrestored := decide (s.accounts[tap].restore = .opened) }

/-- The state after the record unit has received these closed blocks, one after the other (R143). -/
def State.received (s : State) (l : List ClosedBlock) : State := l.foldl State.receive s

/-- The close test on a tap whose accumulators have become `l`, with the late tally at `late`, after `forced` were closed
by force: the complete ones at the front leave, the record unit receives each closed block in order, and the tally
returns to 0 at a close (R134, R135, R136, R143). -/
structure BlocksClose (s t : State) (tap : TapId) (forced l : List Accumulator) (tally : Nat) : Prop where
  left : t.accounts[tap].accumulators = l.dropWhile Accumulator.isComplete
  late : t.accounts[tap].late = if closedBlocks s tap forced l tally = [] then tally else 0
  records : t.records = (s.received (closedBlocks s tap forced l tally)).records
  latches : t.latches = (s.received (closedBlocks s tap forced l tally)).latches

/-! ## Taps in cycles -/

/-- A tap in a collection state with its point area, clip count and CHANNEL_ABSENT mark cleared and `n` samples pending
(R100). -/
def tapCleared (c : Collect) (n : Nat) : FormerTap :=
  ⟨c, Vector.replicate 6 (Vector.replicate 128 0), 0, false, min (2 ^ 32 - 1) n⟩

/-- The samples that a tap leaves unaccounted where its tracker stops: those of the cycle that it collected, none before
its first point, or the gap that it counted (R63, R76, R77, R103). -/
def State.samplesLeft (s : State) (tap : TapId) : Nat :=
  match s.former.taps[tap].collect with
  | .joining gap => gap.getD 0
  | .inactive => 0
  | .collecting =>
    match s.cycleSource (s.tapTracker tap) with
    | none => 0
    | some u =>
      match s.former.trackers[u].resampler with
      | none => 0
      | some m => if m.point = 0 then 0 else m.samples

/-- The close entry of a tap whose tracker stops making cycles (R63, R76, R77, R103, R107): reason CONFIG, the samples
that the tap leaves unaccounted, and the tariff, snapshot and time stamp of the moment. -/
def State.stopEntry (s : State) (tap : TapId) : Entry :=
  let slot := s.tables.taps[tap]
  let v := s.tapTracker tap
  .close
    { tap := tap, tracker := v, block := s.accounts[tap].blockNumber, close := some .config
      unaccounted := min (2 ^ 32 - 1) (s.former.taps[tap].unaccounted + s.samplesLeft tap)
      tariff := s.former.trackers[v].tariff
      snapshot := ⟨slot.entry.cls, slot.entry.hMax, slot.entry.accounting, slot.generation⟩
      stamp := s.former.second.map fun n => ⟨n, s.former.trackers[v].cycleEnds⟩ }

/-- What the stop of its tracker does to a tap (R41, R103, R104): a block in progress is closed by a close entry with
reason CONFIG, registered with the samples that the tap leaves unaccounted, and the block number advances; the tap is
INACTIVE; a staged entry is then applied without a boundary, and leaves the tap JOINING, with no gap counted, where it is
enabled on a tracker that makes cycles. -/
structure TapStopped (s t : State) (tap : TapId) : Prop where
  block : t.accounts[tap].blockNumber =
    s.accounts[tap].blockNumber + (if s.former.taps[tap].collect = .inactive then 0 else 1)
  slot : t.tables.taps[tap] = (match s.tables.taps[tap].staged with
    | none => s.tables.taps[tap]
    | some e => ⟨e, s.tables.taps[tap].generation + 1, none⟩)
  collect : t.former.taps[tap].collect = (match s.tables.taps[tap].staged with
    | none => .inactive
    | some e => if e.enabled = true ∧ t.makesCycles e.tracker = true then .joining none else .inactive)
  pending : s.former.taps[tap].collect ≠ .inactive →
    t.former.taps[tap] = tapCleared t.former.taps[tap].collect 0
  account : s.former.taps[tap].collect ≠ .inactive → t.accounts[tap] =
    { (s.register (s.stopEntry tap)).accounts[tap] with blockNumber := s.accounts[tap].blockNumber + 1 }

/-- What stays of a tap: its slot of the table store, its collection, its accounts, its held spectrum and its count of
stale jobs. -/
structure TapKept (s t : State) (tap : TapId) : Prop where
  slot : t.tables.taps[tap] = s.tables.taps[tap]
  former : t.former.taps[tap] = s.former.taps[tap]
  account : t.accounts[tap] = s.accounts[tap]
  held : t.engine.held[tap] = s.engine.held[tap]
  stale : t.engine.stale[tap] = s.engine.stale[tap]

/-- The tap's staged entry names another tracker or other channels than its entry in force (R40). -/
def State.stagedMoves (s : State) (tap : TapId) : Bool :=
  match s.tables.taps[tap].staged with
  | none => false
  | some e => decide (e.tracker ≠ s.tapTracker tap ∨ e.channels ≠ (s.tapEntry tap).channels)

/-- The application of the tap's staged entry at a cycle end closes the tap's block: it moves the tap, changes its
channels or disables it (R101). -/
def State.stagedCloses (s : State) (tap : TapId) : Bool :=
  s.stagedMoves tap || s.tables.taps[tap].staged.any fun e => !e.enabled

/-- What a cycle end of tracker u does to a tap that collects its cycles, or waits for the next, on tracker v = u or on
a following tracker 1 (R100 to R104): the staged entry is applied; the block closes at the close that tracker v decides,
where the tap collected the cycle, and wherever the application moves the tap, changes its channels or disables it; the
block number advances at a close; a staged entry that moves the tap or changes its channels makes the held spectrum
absent (R119). The tap then collects from the cycle start at once, or joins its new tracker, or is
INACTIVE; its pending samples went with the entry it was given, and the gap of a JOINING tap is added where it begins
to collect. -/
structure TapAtCycleEnd (s t : State) (u : TrackerId) (tap : TapId) : Prop where
  slot : t.tables.taps[tap] = (match s.tables.taps[tap].staged with
    | none => s.tables.taps[tap]
    | some e => ⟨e, s.tables.taps[tap].generation + 1, none⟩)
  collect : t.former.taps[tap].collect = (match s.tables.taps[tap].staged with
    | none => .collecting
    | some e =>
      if e.enabled = false then .inactive
      else if s.cycleSource e.tracker = some u then .collecting
      else if s.makesCycles e.tracker = true then .joining (some 0) else .inactive)
  block : t.accounts[tap].blockNumber = s.accounts[tap].blockNumber +
    (match s.tables.taps[tap].staged with
     | none => if s.former.taps[tap].collect = .collecting ∧
         (s.former.trackers[s.tapTracker tap].indexDecision.close).isSome = true then 1 else 0
     | some e => if e.enabled = false ∨ e.tracker ≠ s.tapTracker tap ∨ e.channels ≠ (s.tapEntry tap).channels ∨
         (s.former.taps[tap].collect = .collecting ∧
           (s.former.trackers[s.tapTracker tap].indexDecision.close).isSome = true) then 1 else 0)
  held : t.engine.held[tap] = if s.stagedMoves tap then none else s.engine.held[tap]
  collected : s.former.taps[tap].collect = .collecting →
    t.former.taps[tap] = tapCleared t.former.taps[tap].collect 0
  joined : ∀ gap, s.former.taps[tap].collect = .joining gap → t.former.taps[tap].unaccounted =
    (match s.tables.taps[tap].staged with
     | none => min (2 ^ 32 - 1) (s.former.taps[tap].unaccounted + gap.getD 0)
     | some e =>
       if e.enabled = false ∨ e.tracker ≠ s.tapTracker tap then 0
       else if e.channels ≠ (s.tapEntry tap).channels then min (2 ^ 32 - 1) (gap.getD 0)
       else min (2 ^ 32 - 1) (s.former.taps[tap].unaccounted + gap.getD 0))

/-! ## Laws that every step keeps -/

/-- The capacities of the queues and of the ring (R8, R9, R15, R109, R149, R157). -/
structure State.WithinCapacity (s : State) : Prop where
  forward : s.ports.forwardQueue.length ≤ 32
  relay : s.ports.relayQueue.length ≤ 8
  notices : s.ports.noticeQueue.length ≤ 8
  requests : s.management.requestQueue.length ≤ 4
  jobs : s.engine.queue.length ≤ 16
  ring : s.records.ring.length ≤ 64

/-- A register at constant K (R124, R129): residue below K, twelve digits, rollover up to 15. -/
structure Register.InRange (g : Register) (k : Nat) : Prop where
  residue : g.residue < k
  count : g.count ≤ 999999999999
  rollover : g.rollover ≤ 15

/-- A tap's constant and registers (R125, R129). -/
structure TapAccount.InRange (t : TapAccount) : Prop where
  low : 1 ≤ t.constant
  high : t.constant ≤ 2 ^ 56 - 1
  registers : ∀ i : Fin 48, t.registers[i].InRange t.constant

/-- The law of R129 over all taps. -/
def State.RegistersInRange (s : State) : Prop := ∀ tap : TapId, s.accounts[tap].InRange

/-- The laws of R133 and R135: at most two open block accumulators a tap, and in each of them, and in each stored record,
the cycle count equals the analysed count plus the estimated count. -/
structure State.BlocksCounted (s : State) : Prop where
  two : ∀ tap : TapId, s.accounts[tap].accumulators.length ≤ 2
  cycles : ∀ tap : TapId, ∀ a ∈ s.accounts[tap].accumulators, a.cycles = a.analysed + a.estimated
  records : ∀ r ∈ s.records.ring, r.cycles = r.analysed + r.estimated

/-- A period within 7/8 to 9/8 of the nominal period of the profile in force, inclusive (R69). -/
def State.InBand (s : State) (period : Nat) : Prop := 7 * s.lnom ≤ 8 * period ∧ 8 * period ≤ 9 * s.lnom

/-- The laws of R69 and R82: every tracker's Lfix in the band, the shadow period of every pending handover too, and no
pending handover on a tracker that is IDLE or FOLLOWING. -/
structure State.TrackersSound (s : State) : Prop where
  lfix : ∀ t : TrackerId, s.InBand (s.lfix t)
  shadow : ∀ t : TrackerId, ∀ h : Handover, s.trackers[t].handover = some h → s.InBand h.ls
  none : ∀ t : TrackerId, s.trackers[t].state.isRunning = false → s.trackers[t].handover = none

/-- A resampler as R91 bounds it: the accumulator within a cycle, the point index the number of boundaries passed, and
the increment computed from its cycle period. -/
structure Resampler.Placed (r : Resampler) : Prop where
  acc : r.acc ≤ 8388607
  point : r.point = r.acc / 65536
  inc : r.inc = 2 ^ 39 / r.period

/-- R91: a tracker has a resampler exactly while it is running, and each is placed as R91 says with its cycle period in
the band. -/
structure State.ResamplersSound (s : State) : Prop where
  running : ∀ t : TrackerId, s.former.trackers[t].resampler.isSome = s.trackers[t].state.isRunning
  placed : ∀ t : TrackerId, ∀ r : Resampler, s.former.trackers[t].resampler = some r → r.Placed
  period : ∀ t : TrackerId, ∀ r : Resampler, s.former.trackers[t].resampler = some r → s.InBand r.period

end Sys2Proof.Machine
end

