-- ==== Sys2Proof/Certificates/Slice0/Obligations.lean ====
section
/-! DEFINITION. The statements for the provers, chapter by chapter. Each docstring names the rule that it formalises, or
the log entry of notes/assumptions where a clause is the model's own choice. -/

open Sys2Proof Sys2Proof.Machine

/-! ## The queue of commands -/

/-- A step with command c at the front of the queue is c's meaning on the state with the queue's rest (the model's own
interface, notes/assumptions/2.md). -/
def Obligations.StepRunsTheFrontCommand : Prop :=
  ∀ (c : Instr) (rest : List Instr) (s : State), step (s.setPending (c :: rest)) = exec c (s.setPending rest)

/-- Every command completes in every state, with neither a fault nor a refusal, and leaves the queue of waiting
commands alone (DESIGN CHOICE, notes/assumptions/2.md and 22.md). -/
def Obligations.CommandsKeepTheQueue : Prop :=
  ∀ (c : Instr) (s : State), ∃ t, exec c s = .next t ∧ t.pending = s.pending

/-- What few commands change: the straps, power-on alone (R10, spec/00_scope.md); the reset line's level, power-on and
its own two commands; a tracker's tariff, power-on and a reception end on port A, where cycle ends fall (R97); a tap's K,
power-on and SET CONSTANT (R125); the channel, group and correction tables and the station settings, power-on, the
release of the reset line and their own requests, for a waiting correction window the completion of the job in flight
(R36, R44, R45, R50). A restore state passes from OPEN to CLOSED at RESTORE and CLEAR alone, and power-on alone opens it
(R139). -/
def Obligations.WhatFewCommandsChange : Prop :=
  ∀ (c : Instr) (s t : State), exec c s = .next t → (∀ a f, c ≠ .powerOn a f) →
    t.straps = s.straps ∧
    (c ≠ .pinReset → c ≠ .pinResetRelease → t.resetLine = s.resetLine) ∧
    ((∀ f, c ≠ .receptionEnd .a f) →
      ∀ u : TrackerId, t.former.trackers[u].tariff = s.former.trackers[u].tariff) ∧
    (c ≠ .setConstant → ∀ tap : TapId, t.accounts[tap].constant = s.accounts[tap].constant) ∧
    (∀ tap : TapId, t.accounts[tap].restore = s.accounts[tap].restore ∨
      (s.accounts[tap].restore = .opened ∧ t.accounts[tap].restore = .closed ∧ (c = .restore ∨ c = .clear))) ∧
    (c ≠ .pinResetRelease →
      (c ≠ .writeChannels → t.tables.channels = s.tables.channels) ∧
      (c ≠ .writeGroups → t.tables.groups = s.tables.groups) ∧
      (c ≠ .writeCorrection → c ≠ .jobCompletion → t.tables.corrections = s.tables.corrections) ∧
      (c ≠ .setStation → t.tables.station = s.tables.station))

/-- While the reset line is asserted no command but power-on, the release and the link events acts, and a link event
moves that port's link state and nothing else (R2, R16, R170; that a timer expiry, a take and a completion are not due
then is DEDUCED, notes/assumptions/7.md). -/
def Obligations.AssertedResetHoldsThePart : Prop :=
  ∀ s : State, s.resetLine = true →
    (∀ port, exec (.linkUp port) s = .next (s.setPorts (s.ports.withLink port .up))) ∧
    (∀ port, exec (.linkDown port) s = .next (s.setPorts (s.ports.withLink port .down))) ∧
    (∀ c : Instr, (∀ a f, c ≠ .powerOn a f) → c ≠ .pinResetRelease → (∀ port, c ≠ .linkUp port) →
      (∀ port, c ≠ .linkDown port) → exec c s = .next s)

/-- Events that are not due leave the part as it stands, by the model's choice (notes/assumptions/2.md, 3.md, 6.md and
7.md): a step on an empty queue, a request row whose kind is not in service, the expiry of a stopped timer, a count
that is not about to reach its limit or whose tracker or handover does not count it, the HANDOVER row of the other
action, a take with a job in flight or an empty cycle queue, a completion and a transmission end with none in
progress, and a link or a reset line that already stands as the event says. -/
def Obligations.EventsNotDue : Prop :=
  ∀ s : State,
    (s.pending = [] → step s = .next s) ∧
    (∀ c k, requestKindOf c = some k → (∀ r, ¬Serving s k r) → exec c s = .next s) ∧
    (s.agreement.offerTimer = .stopped → exec .offerTimerExpiry s = .next s) ∧
    (s.agreement.ackTimer = .stopped → exec .acknowledgeTimerExpiry s = .next s) ∧
    (s.agreement.pauseTimer = .stopped → exec .pauseTimerExpiry s = .next s) ∧
    (s.intake.silence = .stopped → exec .silenceTimerExpiry s = .next s) ∧
    (∀ u : TrackerId, (s.trackers[u].detector.age + 1) * 65536 < 2 * s.lnom → exec (.noCrossing u) s = .next s) ∧
    (∀ u : TrackerId, s.trackers[u].state ≠ .acquiring → s.trackers[u].state ≠ .locked →
      exec (.noCrossing u) s = .next s) ∧
    (∀ u : TrackerId, s.trackers[u].handover = none → exec (.handoverTimeout u) s = .next s) ∧
    (∀ (u : TrackerId) (h : Handover), s.trackers[u].handover = some h → (h.locked = true ∨ h.timeout < 63) →
      exec (.handoverTimeout u) s = .next s) ∧
    (∀ u : TrackerId, s.trackers[u].holdoverCount + 1 < s.tables.settings[u].holdoverLimit →
      exec (.holdoverLimit u) s = .next s) ∧
    (∀ u : TrackerId, s.trackers[u].state ≠ .holdover → exec (.holdoverLimit u) s = .next s) ∧
    (∀ r, Serving s .handover r → (byteAt r.body 1 = 1 → exec .handoverStart s = .next s) ∧
      (byteAt r.body 1 ≠ 1 → exec .handoverCancel s = .next s)) ∧
    (s.engine.flight.isSome ∨ s.engine.queue = [] → exec .engineTake s = .next s) ∧
    (s.engine.flight = none → exec .jobCompletion s = .next s) ∧
    (s.ports.txA = none → exec (.transmissionEnd .a) s = .next s) ∧
    (s.ports.txB = none → exec (.transmissionEnd .b) s = .next s) ∧
    (∀ port, s.ports.link port = .up → exec (.linkUp port) s = .next s) ∧
    (s.resetLine = true → exec .pinReset s = .next s) ∧ (s.resetLine = false → exec .pinResetRelease s = .next s)

/-- A request whose fields are out of range is answered OUT_OF_RANGE with an empty body at its serving and changes
nothing else, by the ranges of R32, R34, R35, R38, R44, R45, R46, R82, R98, R122, R138 to R141, R150 and R167 on the
bytes of the body; for WRITE CORRECTION, of a window that does not wait already (R159 step 3). -/
def Obligations.OutOfRangeRequestsRefused : Prop :=
  ∀ (s : State) (k : RequestKind) (r : Request), Serving s k r → bodyInRange r.body k = false →
    (k = .writeCorrection → s.engine.window = none) →
    ∃ t, exec (commandOf r.body k) s = .next t ∧ Answered s t r .outOfRange [] ∧
      SameOutside [.ports, .management] s t

/-! ## Resets -/

/-- Power-on: the values that the reset tables of the chapters give, with the straps as read (R16, R33, R43, R45, R50,
R66, R90, R108, R123, R142, R156, R163, R171). The reset line's level is the model's (notes/assumptions/8.md), and so
are the 0 of the report order and of the fields called cleared (notes/assumptions/23.md) and the record `wire`
(notes/assumptions/25.md); an IDLE tracker's Lfix field is the model's too (notes/assumptions/20.md). -/
def Obligations.PowerOnValues : Prop :=
  ∀ (a : BitVec 6) (f : NominalFrequency) (s : State), ∃ t, exec (.powerOn a f) s = .next t ∧
    t.straps = ⟨a, f⟩ ∧ t.resetLine = false ∧
    t.ports = { linkA := .down, linkB := .down, txA := none, txB := none, relayQueue := [],
                offer := .waiting ⟨0xFF, false⟩, forwardQueue := [], answerSlot := none, noticeQueue := [],
                reportSlots := #v[none, none], firstReport := 0, turn := .own } ∧
    t.wire = ⟨none, none⟩ ∧ t.latches.bits = 0 ∧
    t.agreement = { mode := .negotiate, acceptMask := 0xFF, fixedCode := 0, profile := 0, state := .listen
                    candidate := 0, matchCount := 0, recorded := 0, ackCount := 0, offerSeen := false
                    adoptionCode := 0, adoptionCount := 0, offerTimer := .running 10, ackTimer := .stopped
                    pauseTimer := .stopped } ∧
    (∀ c : Channel, t.tables.channels[c] = ⟨32768, 0⟩) ∧ (∀ k : Fin 49, t.tables.groups[k] = ⟨.g0, 128⟩) ∧
    (∀ (x : Fin 4) (k : Fin 50), t.tables.corrections[x][k] = ⟨32767, 0⟩) ∧
    (∀ tap : TapId, t.tables.taps[tap] =
      ⟨⟨false, 0, #v[0, 1, 2, 3, 4, 5], 0, 50, true, #v[0, 0, 0, 0], 0⟩, 0, none⟩) ∧
    (∀ u : TrackerId, t.tables.settings[u] =
      ⟨decide (u = 0), 0, .independent, ⟨10, .off, 0⟩, 50, 0, true⟩) ∧
    t.tables.station = ⟨BitVec.ofNat 48 0xFFFFFFFFFFFF, true, true, 20⟩ ∧
    (∀ c : Channel, t.intake.current[c] = 0) ∧ t.intake.stream = .waiting ∧ t.intake.expected = none ∧
    t.intake.silence = .stopped ∧ t.intake.count = 0 ∧
    (∀ u : TrackerId, t.trackers[u] =
      { state := if u = 0 then .acquiring else .idle, lfix := 6400 * 65536 / hertz f, detector := ⟨none, none, 0, 0⟩
        rejections := 0, halfSum := 0, dipCount := 0, holdoverCount := 0
        marks := ⟨decide (u = 0), false, false, false, false⟩, handover := none }) ∧
    (∀ u : TrackerId, t.former.trackers[u] =
      { resampler := if u = 0 then
          some ⟨0, 0, 2 ^ 39 / (6400 * 65536 / hertz f), 0, 6400 * 65536 / hertz f, false⟩ else none
        index := 0, inForce := ⟨10, .off, 0⟩, align := .none, reindexed := false, realigned := false, cycleEnds := 0
        tariff := 0 }) ∧
    (∀ tap : TapId, t.former.taps[tap] = tapCleared .inactive 0) ∧
    t.former.second = none ∧ t.former.pendingTariff = none ∧
    t.engine = ⟨[], none, #v[none, none, none, none, none, none, none, none], #v[0, 0, 0, 0, 0, 0, 0, 0],
      #v[none, none, none, none, none, none, none, none], none⟩ ∧
    (∀ tap : TapId, (∀ i : Fin 48, t.accounts[tap].registers[i] = ⟨0, 0, 0⟩) ∧ t.accounts[tap].constant = 2 ^ 32 ∧
      t.accounts[tap].restore = .opened ∧ t.accounts[tap].blockNumber = 0 ∧ t.accounts[tap].accumulators = [] ∧
      t.accounts[tap].late = 0 ∧ t.accounts[tap].firstAfterReset = true ∧ t.accounts[tap].lastCycle = none) ∧
    t.records.ring = [] ∧ t.records.nextSlot = 0 ∧
    (∀ (tap : TapId) (k : LimitKind), t.records.skips[tap] = 0 ∧ t.records.limits[tap].get k = ⟨false, 0⟩) ∧
    t.management = ⟨[], none, .power, false⟩

/-- The assertion of the reset line: everything that waits is emptied at once, transmissions in progress are aborted
(R3; recorded in `wire`, the model's own, notes/assumptions/25.md), the link states, the registers and the tables stay
but for the staged tap entries, the trackers but for their pending handovers, and the tap generations with them; the
start cause is PIN (R16, R142, R162, R166, R170). Which values of a pin reset are taken at the assertion and which at
the release is the model's choice (DESIGN CHOICE, notes/assumptions/18.md): that held spectra, accumulators and
records go at the assertion, and that block numbers and the cycle former are kept there, is this choice, and what the
agreement unit holds while the line stays asserted is left out. -/
def Obligations.PinResetAssertion : Prop :=
  ∀ s : State, s.resetLine = false → ∃ t, exec .pinReset s = .next t ∧ t.resetLine = true ∧ Emptied t .pin ∧
    RegistersKept s t ∧ t.ports.linkA = s.ports.linkA ∧ t.ports.linkB = s.ports.linkB ∧ t.ports.txA = none ∧
    t.wire = ⟨endedAs s.ports.txA .aborted s.wire.a, endedAs s.ports.txB .aborted s.wire.b⟩ ∧
    t.tables = { s.tables with taps := t.tables.taps } ∧
    (∀ tap : TapId, t.tables.taps[tap] = { s.tables.taps[tap] with staged := none }) ∧
    (∀ u : TrackerId, t.trackers[u] = { s.trackers[u] with handover := none }) ∧
    t.ports.offer = .empty ∧ (∀ tap : TapId, t.accounts[tap].blockNumber = s.accounts[tap].blockNumber) ∧
    SameOutside [.resetLine, .ports, .wire, .latches, .agreement, .tables, .intake, .trackers, .engine, .accounts, .records,
      .management] s t

/-- The release of the reset line: tables and settings at their power-on values but for the tap generations, which
advance by one; the agreement unit at its power-on values in LISTEN, counts and masks cleared, with an ack 0 OFFER of
the mask 0xFF placed, which port A starts where it is free, every other queue and slot as the assertion left it (R11),
the offer timer running and the other two timers stopped; the trackers and the cycle former restarted with their
tariffs kept; block numbers advanced by one; registers and link states kept (R33, R43, R45, R48, R50, R90, R104, R108,
R142, R170). That these happen at the release and not at the assertion is the model's choice
(notes/assumptions/18.md), and so is the 0 of the adoption code and of the masks (notes/assumptions/23.md). -/
def Obligations.PinResetRelease : Prop :=
  ∀ s : State, s.resetLine = true → ∃ t, exec .pinResetRelease s = .next t ∧ t.resetLine = false ∧
    TrackersRestarted s t ∧
    (∀ tap : TapId, t.accounts[tap] = { s.accounts[tap] with blockNumber := s.accounts[tap].blockNumber + 1 }) ∧
    t.tables.channels = (State.atPowerOn 0 .hz50).tables.channels ∧
    t.tables.groups = (State.atPowerOn 0 .hz50).tables.groups ∧
    t.tables.corrections = (State.atPowerOn 0 .hz50).tables.corrections ∧
    t.tables.settings = (State.atPowerOn 0 .hz50).tables.settings ∧
    t.tables.station = (State.atPowerOn 0 .hz50).tables.station ∧
    (∀ tap : TapId, t.tables.taps[tap] =
      ⟨(State.atPowerOn 0 .hz50).tables.taps[tap].entry, s.tables.taps[tap].generation + 1, none⟩) ∧
    t.agreement = { mode := .negotiate, acceptMask := 0xFF, fixedCode := 0, profile := 0, state := .listen
                    candidate := 0, matchCount := 0, recorded := 0, ackCount := 0, offerSeen := false
                    adoptionCode := 0, adoptionCount := 0, offerTimer := .running 10, ackTimer := .stopped
                    pauseTimer := .stopped } ∧
    t.ports = Ports.chooseA s.straps.station { s.ports with offer := s.ports.offer.place ⟨0xFF, false⟩ } ∧
    t.ports.offer.Holds ⟨0xFF, false⟩ ∧
    t.ports.linkA = s.ports.linkA ∧ t.ports.linkB = s.ports.linkB ∧
    SameOutside [.resetLine, .ports, .agreement, .tables, .trackers, .former, .accounts] s t

/-- At the end of the answer to a served RESET, normal or cut off by the loss of port B's link, the request reset
takes effect: everything that waits is emptied and port A's transmission aborted (R3; `wire` records the endings, the
model's own, notes/assumptions/25.md), so that with its link UP it sends the first OFFER of LISTEN and under FIXED
nothing; tables, settings, tariffs, registers and the agreement unit's mode, mask and fixed code are kept, its counts
and masks cleared (the 0 of the adoption code and of the masks is the model's, notes/assumptions/23.md); the unit
enters LISTEN, or AGREED(fixed code) under FIXED; the trackers and the cycle former restart; block numbers advance by
one (R16, R17, R33, R90, R104, R108, R142, R166, R169). -/
def Obligations.RequestResetAtEndOfAnswer : Prop :=
  ∀ (s : State) (x : Transmission) (c : Instr), s.resetLine = false → s.management.resetWaiting = true →
    s.ports.txB = some x → x.source = .answer → (c = .transmissionEnd .b ∨ c = .linkDown .b) →
    ∃ t, exec c s = .next t ∧ Emptied t .request ∧ TrackersRestarted s t ∧ RegistersKept s t ∧
      t.wire = ⟨endedAs s.ports.txA .aborted s.wire.a,
        some ⟨x, if c = .linkDown .b then .cutOff else .normal⟩⟩ ∧
      t.ports.linkA = s.ports.linkA ∧ t.ports.linkB = (if c = .linkDown .b then .down else s.ports.linkB) ∧
      t.tables.channels = s.tables.channels ∧ t.tables.groups = s.tables.groups ∧
      t.tables.corrections = s.tables.corrections ∧ t.tables.settings = s.tables.settings ∧
      t.tables.station = s.tables.station ∧
      (∀ tap : TapId, t.tables.taps[tap] = ⟨s.tables.taps[tap].entry, s.tables.taps[tap].generation, none⟩) ∧
      t.agreement.mode = s.agreement.mode ∧ t.agreement.acceptMask = s.agreement.acceptMask ∧
      t.agreement.fixedCode = s.agreement.fixedCode ∧
      t.agreement =
        { mode := s.agreement.mode, acceptMask := s.agreement.acceptMask, fixedCode := s.agreement.fixedCode
          profile := t.agreement.profile, state := t.agreement.state, candidate := 0, matchCount := 0, recorded := 0
          ackCount := 0, offerSeen := false, adoptionCode := 0, adoptionCount := 0
          offerTimer := t.agreement.offerTimer, ackTimer := .stopped, pauseTimer := .stopped } ∧
      (s.agreement.mode = .negotiate → t.agreement.state = .listen ∧ t.agreement.profile = s.agreement.profile ∧
        t.agreement.offerTimer = .running 10 ∧
        t.ports.offer = (if s.ports.linkA = .up then .sending ⟨s.agreement.acceptMask, false⟩
          else .waiting ⟨s.agreement.acceptMask, false⟩) ∧
        t.ports.txA = (if s.ports.linkA = .up then
          some ⟨.offer, frameBytes s.straps.station (BitVec.ofNat 48 0xFFFFFFFFFFFF) 3 [s.agreement.acceptMask, 0],
            true, (64 + 20) * 80⟩ else none)) ∧
      (s.agreement.mode = .fixed → t.agreement.state = .agreed s.agreement.fixedCode ∧
        t.agreement.profile = s.agreement.fixedCode ∧ t.agreement.offerTimer = .stopped ∧ t.ports.offer = .empty ∧
        t.ports.txA = none) ∧
      SameOutside [.ports, .wire, .latches, .agreement, .tables, .intake, .trackers, .former, .engine, .accounts, .records,
        .management] s t

/-- R50: power-on and pin reset set the station settings to a broadcast report destination, forwarding ON, notices ON
and a silence timeout of 20 ms; a request reset keeps them. A pin reset is the assertion followed by the release. -/
def Obligations.StationSettingsAtResets : Prop :=
  (∀ a f s, ∃ t, exec (.powerOn a f) s = .next t ∧
    t.tables.station = ⟨BitVec.ofNat 48 0xFFFFFFFFFFFF, true, true, 20⟩) ∧
  (∀ s : State, ∃ t u, exec .pinReset s = .next t ∧ exec .pinResetRelease t = .next u ∧
    u.tables.station = ⟨BitVec.ofNat 48 0xFFFFFFFFFFFF, true, true, 20⟩) ∧
  (∀ (s : State) (x : Transmission) (c : Instr), s.resetLine = false → s.management.resetWaiting = true →
    s.ports.txB = some x → x.source = .answer → (c = .transmissionEnd .b ∨ c = .linkDown .b) →
    ∃ t, exec c s = .next t ∧ t.management.startCause = .request ∧ t.tables.station = s.tables.station)

/-! ## Ports (chapter 1) -/

/-- A link established on a port that was DOWN: the port is UP and, with nothing in transmission and no reset in
effect, its transmitter starts with the item that the choice gives: on port A the waiting OFFER before the oldest
relayed frame; on port B the item of the arbiter, whatever waits: with the own class empty the oldest forwarded frame,
with the forward queue empty and an answer waiting the answer (R2, R11, R13, R14). Nothing outside the ports changes.
-/
def Obligations.LinkEstablished : Prop :=
  (∀ s : State, s.ports.linkA = .down → ∃ t, exec (.linkUp .a) s = .next t ∧ SameOutside [.ports] s t ∧
    t.ports.linkA = .up ∧ t.ports.linkB = s.ports.linkB ∧ t.ports.txB = s.ports.txB ∧
    t.ports.relayQueue = s.ports.relayQueue ∧ t.ports.forwardQueue = s.ports.forwardQueue ∧
    t.ports.answerSlot = s.ports.answerSlot ∧ t.ports.noticeQueue = s.ports.noticeQueue ∧
    t.ports.reportSlots = s.ports.reportSlots ∧ t.ports.turn = s.ports.turn ∧
    (s.resetLine = false → t.ports = Ports.chooseA s.straps.station { s.ports with linkA := .up }) ∧
    (s.resetLine = false → s.ports.txA = none →
      (∀ o, s.ports.offer = .waiting o → t.ports.offer = .sending o ∧ t.ports.txA.map (·.source) = some .offer) ∧
      (∀ f rest, s.ports.offer = .empty → s.ports.relayQueue = f :: rest → t.ports.offer = .empty ∧
        t.ports.txA = some ⟨.relay, f, false, (f.length + 20) * 80⟩) ∧
      (s.ports.offer = .empty → s.ports.relayQueue = [] → t.ports.offer = .empty ∧ t.ports.txA = none))) ∧
  (∀ s : State, s.ports.linkB = .down → ∃ t, exec (.linkUp .b) s = .next t ∧ SameOutside [.ports] s t ∧
    t.ports.linkB = .up ∧ t.ports.linkA = s.ports.linkA ∧ t.ports.txA = s.ports.txA ∧ t.ports.offer = s.ports.offer ∧
    t.ports.relayQueue = s.ports.relayQueue ∧ t.ports.forwardQueue = s.ports.forwardQueue ∧
    t.ports.answerSlot = s.ports.answerSlot ∧ t.ports.noticeQueue = s.ports.noticeQueue ∧
    t.ports.reportSlots = s.ports.reportSlots ∧
    (s.resetLine = false → t.ports = Ports.chooseB s.straps.station { s.ports with linkB := .up }) ∧
    (s.resetLine = false → s.ports.txB = none →
      (∀ f rest, s.ports.forwardQueue = f :: rest → s.ports.answerSlot = none → s.ports.noticeQueue = [] →
        s.ports.reportSlots = #v[none, none] →
        t.ports.turn = .own ∧ t.ports.txB = some ⟨.forward, f, false, (f.length + 20) * 80⟩) ∧
      (∀ a, s.ports.forwardQueue = [] → s.ports.answerSlot = some a →
        t.ports.turn = .pass ∧ t.ports.txB.map (·.source) = some .answer)))

/-- A link lost: the port is DOWN and starts nothing. A transmission in progress is cut off and its item removed: a
relayed or forwarded frame or a notice leaves its queue, a BLOCK REPORT its slot, for good, and an OFFER its place,
where an OFFER that replaced it meanwhile waits on; everything else stays where it is (R2, R3, R12, R155). The records
stay as they are, a cut report's with its disposition. The partner saw a truncated frame, which `wire` records, the
model's own (notes/assumptions/25.md). -/
def Obligations.LinkLost : Prop :=
  (∀ s : State, s.resetLine = false → ∃ t, exec (.linkDown .a) s = .next t ∧ SameOutside [.ports, .wire] s t ∧
    t.ports.linkA = .down ∧ t.ports.linkB = s.ports.linkB ∧ t.ports.txA = none ∧ t.ports.txB = s.ports.txB ∧
    t.ports.forwardQueue = s.ports.forwardQueue ∧ t.ports.answerSlot = s.ports.answerSlot ∧
    t.ports.noticeQueue = s.ports.noticeQueue ∧ t.ports.reportSlots = s.ports.reportSlots ∧
    t.ports.turn = s.ports.turn ∧ t.ports.firstReport = s.ports.firstReport ∧
    t.wire = { s.wire with a := endedAs s.ports.txA .cutOff s.wire.a } ∧
    (s.ports.txA = none → t.ports.relayQueue = s.ports.relayQueue ∧ t.ports.offer = s.ports.offer) ∧
    (∀ x, s.ports.txA = some x → x.source = .relay → t.ports.relayQueue = s.ports.relayQueue.tail ∧
      t.ports.offer = s.ports.offer) ∧
    (∀ x o, s.ports.txA = some x → x.source = .offer → t.ports.relayQueue = s.ports.relayQueue ∧
      (s.ports.offer = .sending o → t.ports.offer = .empty) ∧
      (∀ n, s.ports.offer = .replaced o n → t.ports.offer = .waiting n))) ∧
  (∀ s : State, s.resetLine = false → (∀ x, s.ports.txB = some x → x.source ≠ .answer) →
    ∃ t, exec (.linkDown .b) s = .next t ∧ SameOutside [.ports, .wire] s t ∧
    t.ports.linkB = .down ∧ t.ports.linkA = s.ports.linkA ∧ t.ports.txB = none ∧ t.ports.txA = s.ports.txA ∧
    t.ports.offer = s.ports.offer ∧ t.ports.relayQueue = s.ports.relayQueue ∧
    t.ports.answerSlot = s.ports.answerSlot ∧ t.ports.turn = s.ports.turn ∧
    t.ports.firstReport = s.ports.firstReport ∧
    t.wire = { s.wire with b := endedAs s.ports.txB .cutOff s.wire.b } ∧
    (s.ports.txB = none → t.ports.forwardQueue = s.ports.forwardQueue ∧
      t.ports.noticeQueue = s.ports.noticeQueue ∧ t.ports.reportSlots = s.ports.reportSlots) ∧
    (∀ x, s.ports.txB = some x → x.source = .forward → t.ports.forwardQueue = s.ports.forwardQueue.tail ∧
      t.ports.noticeQueue = s.ports.noticeQueue ∧ t.ports.reportSlots = s.ports.reportSlots) ∧
    (∀ x, s.ports.txB = some x → x.source = .notice → t.ports.forwardQueue = s.ports.forwardQueue ∧
      t.ports.noticeQueue = s.ports.noticeQueue.tail ∧ t.ports.reportSlots = s.ports.reportSlots) ∧
    (∀ x k, s.ports.txB = some x → x.source = .report k → t.ports.forwardQueue = s.ports.forwardQueue ∧
      t.ports.noticeQueue = s.ports.noticeQueue ∧ t.ports.reportSlots[k] = none ∧
      t.ports.reportSlots[1 - k] = s.ports.reportSlots[1 - k]))

/-- The transmit choices, which start nothing unless the port is UP with nothing in transmission (R11), and with the
port free. Port A: the pending OFFER, on the wire as a broadcast frame from the link address padded to 64 bytes with
the FCS, before the oldest relayed frame as it was received; none with both empty (R10, R12, R13). Port B (R14): the
only class that holds an item, or of two the one that the turn marker names, and the marker set to the class not
chosen; the oldest forwarded frame of the pass-through class; the answer, the oldest notice, or the report that was
placed first of the own class, in this order. On the wire these are frames from the link address, to the request's
source or to the report destination they were built with, padded to 64 bytes with the FCS, whose fields are the
answer's envelope and body (R176), the notice's fields (R179), and the skip count and the block record (R178), with
the codes of R174 and R179. -/
def Obligations.TransmitChoices : Prop :=
  (∀ (station : BitVec 6) (p : Ports), (p.freeA = true ↔ p.linkA = .up ∧ p.txA = none) ∧
    (p.freeB = true ↔ p.linkB = .up ∧ p.txB = none) ∧ (p.freeA = false → p.chooseA station = p) ∧
    (p.freeB = false → p.chooseB station = p)) ∧
  (∀ (station : BitVec 6) (p : Ports), p.linkA = .up → p.txA = none →
    (∀ o, p.offer = .waiting o → p.chooseA station =
      { p with
        offer := .sending o
        txA := some
          { source := .offer
            bytes := [0xFF, 0xFF, 0xFF, 0xFF, 0xFF, 0xFF, 0x02, 0x4E, 0x42, 0x00, 0x00, station.setWidth 8,
              0x9A, 0x4E, 3, 0, 0, 2, o.mask, if o.ack then 1 else 0] ++ List.replicate 40 0
            fcsGenerated := true
            holdNs := (64 + 20) * 80 } }) ∧
    (∀ f rest, p.offer = .empty → p.relayQueue = f :: rest →
      p.chooseA station = { p with txA := some ⟨.relay, f, false, (f.length + 20) * 80⟩ }) ∧
    (p.offer = .empty → p.relayQueue = [] → p.chooseA station = p)) ∧
  (∀ (station : BitVec 6) (p : Ports), p.linkB = .up → p.txB = none →
    let own := p.answerSlot.isSome ∨ p.noticeQueue ≠ [] ∨ p.reportSlots[0].isSome ∨ p.reportSlots[1].isSome
    (∀ f rest, p.forwardQueue = f :: rest → (¬own ∨ p.turn = .pass) →
      p.chooseB station = { p with txB := some ⟨.forward, f, false, (f.length + 20) * 80⟩, turn := .own }) ∧
    (own → (p.forwardQueue = [] ∨ p.turn = .own) → ∃ x, p.chooseB station = { p with txB := some x, turn := .pass } ∧
      x.fcsGenerated = true ∧ x.holdNs = (x.bytes.length + 24) * 80 ∧
      (∀ a, p.answerSlot = some a → x.source = .answer ∧
        x.bytes = frameBytes station a.dest 5
          ([a.tag, a.kind, match a.result with
            | .done => 0
            | .malformed => 1
            | .outOfRange => 2
            | .wrongState => 3
            | .gone => 4
            | .notYet => 5, 0] ++ a.body)) ∧
      (∀ n rest, p.answerSlot = none → p.noticeQueue = n :: rest → x.source = .notice ∧
        ∃ fields, NoticeLaidOut fields n.body ∧ x.bytes = frameBytes station n.dest 7 fields) ∧
      (p.answerSlot = none → p.noticeQueue = [] →
        (p.reportSlots[1] = none → x.source = .report 0) ∧ (p.reportSlots[0] = none → x.source = .report 1) ∧
        (p.reportSlots[0].isSome → p.reportSlots[1].isSome → x.source = .report p.firstReport) ∧
        (∀ (k : Fin 2) (r : Report), x.source = .report k → p.reportSlots[k] = some r → ∃ record,
          RecordLaidOut record r.record ∧
          x.bytes = frameBytes station r.dest 6 (BitVec.ofNat 8 r.skip :: record)))) ∧
    (¬own → p.forwardQueue = [] → p.chooseB station = p)) ∧
  ([TrackerState.idle, .acquiring, .locked, .holdover, .freerun, .following].map (·.code) = [0, 1, 2, 3, 4, 5] ∧
    [TrackerCause.lock, .rejections, .noCrossing, .dips, .holdoverLimit, .reacquire, .rateChange, .follow, .unfollow,
      .commit].map (·.code) = [0, 1, 2, 3, 4, 5, 6, 7, 8, 9] ∧
    [HandoverOutcome.committed, .timedOut, .cancelled].map (·.code) = [0, 1, 2] ∧
    [LimitKind.g0, .g1, .g2, .g3, .thd].map (·.code) = [0, 1, 2, 3, 4] ∧
    [LimitOutcome.entered, .cleared].map (·.code) = [0, 1] ∧
    [AgreementOutcome.agreed, .adopted, .noCommon, .consistencyFail, .renegotiation].map (·.code) = [0, 1, 2, 3, 4] ∧
    [StreamCause.gap, .silence].map (·.code) = [0, 1] ∧
    [CloseReason.natural, .aligned, .config, .forced].map (·.code) = [0, 1, 2, 3] ∧
    [Disposition.placed, .skipped, .off].map (·.code) = [0, 1, 2])

/-- A transmission end removes the item that was sent and frees its place; what is placed next is untouched, and the
port makes its next choice at once (R3, R11 to R15). The end of an answer, normal or cut off, brings the take of the
oldest request, into service or, where its validation fails, into a MALFORMED answer (R158, R159): port B's choice is
made first, on the ports without the answer that was sent, and the take comes after it, which is DEDUCED
(notes/assumptions/15.md); port B then makes a choice for the MALFORMED answer. How the transmission ended is recorded
in `wire`, the model's own (notes/assumptions/25.md). -/
def Obligations.TransmissionEndRemovesItem : Prop :=
  (∀ (s : State) (x : Transmission), s.resetLine = false → s.ports.txA = some x →
    ∃ t, exec (.transmissionEnd .a) s = .next t ∧ SameOutside [.ports, .wire] s t ∧
      t.ports = Ports.chooseA s.straps.station s.ports.finishA ∧ t.wire = { s.wire with a := some ⟨x, .normal⟩ } ∧
      t.ports.forwardQueue = s.ports.forwardQueue ∧ t.ports.answerSlot = s.ports.answerSlot ∧
      t.ports.noticeQueue = s.ports.noticeQueue ∧ t.ports.reportSlots = s.ports.reportSlots ∧
      (x.source = .relay → t.ports.relayQueue = s.ports.relayQueue.tail) ∧
      (x.source = .offer → t.ports.relayQueue = s.ports.relayQueue ∧
        (∀ o, s.ports.offer = .sending o → t.ports.offer = .empty) ∧
        (∀ o n, s.ports.offer = .replaced o n → s.ports.linkA = .up →
          t.ports.offer = .sending n ∧ t.ports.txA.map (·.source) = some .offer))) ∧
  (∀ (s : State) (x : Transmission), s.resetLine = false → s.ports.txB = some x → x.source ≠ .answer →
    ∃ t, exec (.transmissionEnd .b) s = .next t ∧ SameOutside [.ports, .wire] s t ∧
      t.ports = Ports.chooseB s.straps.station s.ports.finishB ∧ t.wire = { s.wire with b := some ⟨x, .normal⟩ } ∧
      t.ports.answerSlot = s.ports.answerSlot ∧
      t.ports.noticeQueue = (if x.source = .notice then s.ports.noticeQueue.tail else s.ports.noticeQueue) ∧
      (x.source = .forward → t.ports.forwardQueue = s.ports.forwardQueue.tail ∧
        t.ports.reportSlots = s.ports.reportSlots) ∧
      (∀ k, x.source = .report k → t.ports.reportSlots[k] = none ∧
        t.ports.reportSlots[1 - k] = s.ports.reportSlots[1 - k] ∧ t.ports.forwardQueue = s.ports.forwardQueue)) ∧
  (∀ (s : State) (x : Transmission), s.resetLine = false → s.ports.txB = some x → x.source = .answer →
    s.management.resetWaiting = false → s.management.inService = none →
    ∀ c : Instr, (c = .transmissionEnd .b ∨ c = .linkDown .b) →
      let sent := if c = .linkDown .b then { s.ports with linkB := .down } else s.ports
      let chosen := Ports.chooseB s.straps.station sent.finishB
      ∃ t, exec c s = .next t ∧ SameOutside [.ports, .wire, .management] s t ∧
      t.wire = { s.wire with b := some ⟨x, if c = .linkDown .b then .cutOff else .normal⟩ } ∧
      t.management = { s.management with
        requestQueue := t.management.requestQueue, inService := t.management.inService } ∧
      t.ports.noticeQueue = s.ports.noticeQueue ∧ t.ports.forwardQueue = s.ports.forwardQueue ∧
      t.ports.reportSlots = s.ports.reportSlots ∧ t.management.requestQueue = s.management.requestQueue.tail ∧
      (s.management.requestQueue = [] → t.ports = chosen ∧ t.ports.answerSlot = none ∧
        t.management.inService = none) ∧
      (∀ r rest, s.management.requestQueue = r :: rest →
        (r.validKind.isSome → t.ports = chosen ∧ t.ports.answerSlot = none ∧ t.management.inService = some r) ∧
        (r.validKind = none → t.management.inService = none ∧
          t.ports.answerSlot = some ⟨r.source, r.tag, r.kind, .malformed, []⟩ ∧
          t.ports = Ports.chooseB s.straps.station
            { chosen with answerSlot := some ⟨r.source, r.tag, r.kind, .malformed, []⟩ })))

/-- The queues and the ring never hold more than they may: 32, 8, 8, 4, 16 and 64 (R8, R9, R15, R109, R149, R157). -/
def Obligations.QueuesKeepTheirCapacity : Prop :=
  ∀ s t : State, s.WithinCapacity → step s = .next t → t.WithinCapacity

/-- A frame whose FCS is bad or whose length lies outside 64 to 1522 bytes is discarded with BAD_CHECK and no other
effect; a port that is DOWN receives nothing (R1, R2). -/
def Obligations.BadFramesDiscarded : Prop :=
  ∀ (s : State) (port : Port) (f : RxFrame), s.resetLine = false →
    (s.ports.link port = .up → (f.fcsGood = false ∨ f.bytes.length < 64 ∨ 1522 < f.bytes.length) →
      exec (.receptionEnd port f) s = .next (s.setLatches { s.latches with badCheck := true })) ∧
    (s.ports.link port = .down → exec (.receptionEnd port f) s = .next s) ∧
    s.ports.link port = (if port = .a then s.ports.linkA else s.ports.linkB)

/-- The three tests of R4 on the bytes of a frame of at least 64: the type value 0x9A4E, one of the seven kinds, and a
stated length within what the frame carries. The addresses take no part: frames that agree from the type value on are
read alike. The kinds are numbered 1 to 7, a SAMPLE SET's fields stand where R175 places them, and a boolean is read
from 0 and 1 alone (R4, R174). -/
def Obligations.RecognitionTests : Prop :=
  (∀ b : Bytes, 64 ≤ b.length →
    ((recognise b).isSome = true ↔
      b.getD 12 0 = 0x9A ∧ b.getD 13 0 = 0x4E ∧ 1 ≤ byteAt b 14 ∧ byteAt b 14 ≤ 7 ∧
        byteAt b 16 * 256 + byteAt b 17 + 22 ≤ b.length)) ∧
  (∀ b x, recognise b = some x → x.kind.code = byteAt b 14 ∧ x.stated = byteAt b 16 * 256 + byteAt b 17 ∧
    x.carried = (b.drop 18).take (b.length - 22)) ∧
  [FrameKind.sampleSet, .timeMark, .offer, .request, .answer, .blockReport, .notice].map (·.code) =
    [1, 2, 3, 4, 5, 6, 7] ∧
  (∀ y : StreamFrame, let x := readSampleSet y
    x.code = byteAt y.carried 0 ∧ x.valueCount = byteAt y.carried 1 ∧
    x.sequence = BitVec.ofNat 16 (beNat y.carried 2 2) ∧ x.stated = y.stated ∧
    ∀ j : Nat, x.value j = beInt y.carried (4 + 3 * j) 3) ∧
  (readBool 0 = some false ∧ readBool 1 = some true ∧ ∀ n, 2 ≤ n → readBool n = none) ∧
  (∀ b c : Bytes, b.length = c.length → b.drop 12 = c.drop 12 → recognise b = recognise c)

/-- Frames that pass through (R5, R6, R8, R9): from port A every other frame and every REQUEST, ANSWER, BLOCK REPORT and
NOTICE enters the forward queue as it is, or is lost with FORWARD_DROPPED at 32; from port B every other frame, every
stream frame but a REQUEST and every REQUEST for another station enters the relay queue, or is lost with RELAY_DROPPED
at 8. Nothing else changes but that the port makes its choice with the frame in its queue (R11, R13, R14). -/
def Obligations.OtherFramesPass : Prop :=
  (∀ (s : State) (f : RxFrame), Arrives s .a f →
    (∀ x, recognise f.bytes = some x →
      x.kind = .request ∨ x.kind = .answer ∨ x.kind = .blockReport ∨ x.kind = .notice) →
    ∃ t, exec (.receptionEnd .a f) s = .next t ∧ Entered s t f.bytes) ∧
  (∀ (s : State) (f : RxFrame), Arrives s .b f →
    (∀ x, recognise f.bytes = some x → x.kind = .request → byteAt x.carried 0 ≠ s.straps.station.toNat) →
    ∃ t, exec (.receptionEnd .b f) s = .next t ∧
      (s.ports.relayQueue.length < 8 → t = s.setPorts
        (Ports.chooseA s.straps.station { s.ports with relayQueue := s.ports.relayQueue ++ [f.bytes] })) ∧
      (8 ≤ s.ports.relayQueue.length → t = s.setLatches { s.latches with relayDropped := true }))

/-- A REQUEST for the part's station address on port B (R6, R157, R158, R159): with 4 queued it is lost with
REQUEST_DROPPED; with the unit SERVING or the answer slot taken it waits as the newest; with the unit IDLE, the slot
empty and none queued it is taken at once, into service or, where the validation fails, into a MALFORMED answer. It is
never relayed. It is held with the frame's source address, its tag and kind and the body that its stated length gives
(R157, R176); the validation passes a request exactly where its kind is one of the eighteen of section 10.6, its
stated length at least 4 and its body of a length that fits the kind. -/
def Obligations.RequestArrival : Prop :=
  (∀ (s : State) (f : RxFrame) (x : StreamFrame), StreamArrives s .b f .request x →
    byteAt x.carried 0 = s.straps.station.toNat →
    ∃ t, exec (.receptionEnd .b f) s = .next t ∧ t.ports.relayQueue = s.ports.relayQueue ∧
      (s.management.requestQueue.length = 4 → t = s.setLatches { s.latches with requestDropped := true }) ∧
      (s.management.requestQueue.length < 4 → (s.management.inService.isSome ∨ s.ports.answerSlot.isSome) →
        t = s.setManagement
          { s.management with requestQueue := s.management.requestQueue ++ [readRequest f.bytes x] }) ∧
      (s.management.requestQueue = [] → s.management.inService = none → s.ports.answerSlot = none →
        SameOutside [.ports, .management] s t ∧ t.management.requestQueue = [] ∧
        ((readRequest f.bytes x).validKind.isSome →
          t.management.inService = some (readRequest f.bytes x) ∧ t.ports = s.ports) ∧
        ((readRequest f.bytes x).validKind = none → t.management.inService = none ∧
          t.ports = Ports.chooseB s.straps.station { s.ports with
            answerSlot :=
              some ⟨sourceAddress f.bytes, x.carried.getD 1 0, x.carried.getD 2 0, .malformed, []⟩ }))) ∧
  (∀ (b : Bytes) (x : StreamFrame), readRequest b x =
    ⟨sourceAddress b, x.carried.getD 1 0, x.carried.getD 2 0, x.stated, (x.carried.take x.stated).drop 4⟩ ∧
    sourceAddress b = BitVec.ofNat 48 (beNat b 6 6)) ∧
  (∀ (r : Request) (k : RequestKind), r.validKind = some k ↔
    r.kind.toNat = kindNumber k ∧ 4 ≤ r.stated ∧ r.body.length ∈ bodyLengths r.body k)

/-! ## Profile agreement (chapter 2) -/

/-- A well-formed partner OFFER in LISTEN (R21): the match count runs on the candidate mask, and at 3 the unit enters
ACKNOWLEDGE with the mask recorded, the acknowledge count 0, the 500 ms and 10 ms timers started and an ack 1 OFFER
placed (R19, R23). That the candidate mask and the counts are kept there is DEDUCED (notes/assumptions/20.md). -/
def Obligations.PartnerOfferInListen : Prop :=
  ∀ (s : State) (f : RxFrame) (mask : BitVec 8) (ack : Bool), OfferArrives s f mask ack →
    s.agreement.state = .listen →
    let n := if 0 < s.agreement.matchCount ∧ mask = s.agreement.candidate then s.agreement.matchCount + 1 else 1
    ∃ t, exec (.receptionEnd .a f) s = .next t ∧
      (n < 3 → t = s.setAgreement { s.agreement with offerSeen := true, candidate := mask, matchCount := n }) ∧
      (3 ≤ n → SameOutside [.agreement, .ports] s t ∧
        t.agreement = { s.agreement with
          state := .acknowledge, recorded := mask, ackCount := 0, ackTimer := .running 500
          offerTimer := .running 10, offerSeen := true, candidate := mask, matchCount := n } ∧
        t.ports.offer.Holds ⟨s.agreement.acceptMask, true⟩ ∧
        t.ports = Ports.chooseA s.straps.station
          { s.ports with offer := s.ports.offer.place ⟨s.agreement.acceptMask, true⟩ })

/-- A well-formed partner OFFER in ACKNOWLEDGE (R23, R25, R27): an ack 1 OFFER with the recorded mask counts, and the
third resolves, into AGREED of the highest common code or into NO_COMMON; an ack 0 OFFER with it has no effect;
another mask is a consistency fail and starts the 100 ms pause. Each of the three leaves ACKNOWLEDGE: the timers stop,
the pending OFFER is withdrawn (R12, R19), and mode, accept mask and fixed code are kept. That the counts and masks
are kept where ACKNOWLEDGE is left, and that a change of rate keeps the holdover count and starts the marks again
(EntersAgreed) is DEDUCED (notes/assumptions/20.md). -/
def Obligations.PartnerOfferInAcknowledge : Prop :=
  ∀ (s : State) (f : RxFrame) (mask : BitVec 8) (ack : Bool), OfferArrives s f mask ack →
    s.agreement.state = .acknowledge →
    let common := s.agreement.recorded &&& s.agreement.acceptMask
    let left := { s.ports with offer := s.ports.offer.withdrawn }
    ∃ t, exec (.receptionEnd .a f) s = .next t ∧
      (mask = s.agreement.recorded → ack = false → t = s) ∧
      (mask = s.agreement.recorded → ack = true → s.agreement.ackCount < 2 →
        t = s.setAgreement { s.agreement with ackCount := s.agreement.ackCount + 1 }) ∧
      (mask = s.agreement.recorded → ack = true → 2 ≤ s.agreement.ackCount → common = 0 →
        SameOutside [.agreement, .ports, .latches] s t ∧
        t.agreement = { s.agreement with
          state := .noCommon, offerTimer := .stopped, ackTimer := .stopped, ackCount := s.agreement.ackCount + 1 } ∧
        NoticesFrom s left s.latches t
          [.agreement s.agreement.profile .noCommon s.agreement.acceptMask s.agreement.recorded]) ∧
      (mask = s.agreement.recorded → ack = true → 2 ≤ s.agreement.ackCount → ∀ p : ProfileCode,
        common.getLsbD p.val = true → (∀ q : ProfileCode, common.getLsbD q.val = true → q ≤ p) →
        SameOutside [.agreement, .ports, .latches, .intake, .trackers, .former] s t ∧
        t.agreement = { s.agreement with
          state := .agreed p, profile := p, offerTimer := .stopped, ackTimer := .stopped
          ackCount := s.agreement.ackCount + 1 } ∧
        EntersAgreed s t left p [.agreement p .agreed s.agreement.acceptMask s.agreement.recorded]) ∧
      (mask ≠ s.agreement.recorded →
        SameOutside [.agreement, .ports, .latches] s t ∧
        t.agreement = { s.agreement with
          state := .pause, pauseTimer := .running 100, offerTimer := .stopped, ackTimer := .stopped } ∧
        NoticesFrom s left s.latches t
          [.agreement s.agreement.profile .consistencyFail s.agreement.acceptMask s.agreement.recorded])

/-- Partner OFFERs in the other states (R20, R24, R25, R26, R29, R31): an ill-formed OFFER has no effect in any state;
PAUSE, FIXED mode, an ack 1 OFFER in AGREED and the recorded mask in NO_COMMON ignore it; another mask in NO_COMMON,
and an ack 0 OFFER in AGREED under NEGOTIATE, make the unit enter LISTEN with the OFFER as the first match, from
AGREED with a RENEGOTIATION notice and the cycles in progress abandoned. That nothing is unaccounted at point index 0,
that REALIGNED is kept (CyclesBroken), and that the acknowledge count is kept, is DEDUCED (notes/assumptions/10.md,
14.md and 20.md). -/
def Obligations.PartnerOfferElsewhere : Prop :=
  let matching (s : State) (mask : BitVec 8) : Agreement := { s.agreement with
    state := .listen, candidate := mask, matchCount := 1, offerSeen := true, recorded := 0, adoptionCount := 0
    offerTimer := .running 10, ackTimer := .stopped, pauseTimer := .stopped }
  let offering (s : State) : Ports := Ports.chooseA s.straps.station
    { s.ports with offer := s.ports.offer.place ⟨s.agreement.acceptMask, false⟩ }
  (∀ (s : State) (f : RxFrame) (x : StreamFrame), StreamArrives s .a f .offer x →
    (x.stated < 2 ∨ 2 ≤ byteAt x.carried 1) → exec (.receptionEnd .a f) s = .next s) ∧
  (∀ (s : State) (f : RxFrame) (mask : BitVec 8) (ack : Bool), OfferArrives s f mask ack →
    (s.agreement.state = .pause → exec (.receptionEnd .a f) s = .next s) ∧
    (s.agreement.state = .noCommon → mask = s.agreement.recorded → exec (.receptionEnd .a f) s = .next s) ∧
    (∀ p, s.agreement.state = .agreed p → (s.agreement.mode = .fixed ∨ ack = true) →
      exec (.receptionEnd .a f) s = .next s) ∧
    (s.agreement.state = .noCommon → mask ≠ s.agreement.recorded → ∃ t, exec (.receptionEnd .a f) s = .next t ∧
      SameOutside [.agreement, .ports] s t ∧ t.agreement = matching s mask ∧ t.ports = offering s ∧
      t.ports.offer.Holds ⟨s.agreement.acceptMask, false⟩) ∧
    (∀ p, s.agreement.state = .agreed p → s.agreement.mode = .negotiate → ack = false →
      ∃ t, exec (.receptionEnd .a f) s = .next t ∧
        SameOutside [.agreement, .ports, .latches, .intake, .trackers, .former] s t ∧
        t.agreement = matching s mask ∧ t.ports.offer.Holds ⟨s.agreement.acceptMask, false⟩ ∧
        NoticesFrom s (offering s) { s.latches with streamIntact := false } t
          [.agreement p .renegotiation s.agreement.acceptMask mask] ∧ CyclesBroken s t ∧
        t.intake = { s.intake with stream := .waiting, expected := none, silence := .stopped }))

/-- SAMPLE SET frames that are not processed (R22, R27, R28, R51), by what the delivery to the blocks does from a to
b, beside the frame's place in the forward queue where forwarding is ON (`Forwarded`, R5; that the order of the two is
free is the model's choice, notes/assumptions/5.md). In LISTEN with no OFFER seen the frame's code counts for
adoption, a code above 7 clears the count, the 200th frame with one accepted code enters AGREED with an ADOPTED
notice, and a count of 200 outside the accept mask stays without effect; after an OFFER was seen, and in ACKNOWLEDGE,
PAUSE and NO_COMMON, the frame changes nothing; in AGREED(p) a frame with another code, a wrong value count or too
short a stated length sets PROFILE_MISMATCH and changes nothing else. That a frame whose stated length is too short
counts for adoption, that the counts and masks are kept where LISTEN is left, and that a change of rate keeps the
holdover count and starts the marks again (EntersAgreed), is DEDUCED (notes/assumptions/17.md and 20.md). -/
def Obligations.UnprocessedSampleFrames : Prop :=
  ∀ (s : State) (f : RxFrame) (x : SampleSet), SampleArrives s f x →
    ∃ t a b, exec (.receptionEnd .a f) s = .next t ∧ Forwarded s a b t f.bytes ∧
      (s.agreement.state = .listen → s.agreement.offerSeen = false →
        (∀ p : ProfileCode, x.code = p.val →
          let n := if 0 < s.agreement.adoptionCount ∧ s.agreement.adoptionCode = p
            then min 200 (s.agreement.adoptionCount + 1) else 1
          ((n < 200 ∨ s.agreement.acceptMask.getLsbD p.val = false) →
            b = a.setAgreement { s.agreement with adoptionCode := p, adoptionCount := n }) ∧
          (n = 200 → s.agreement.acceptMask.getLsbD p.val = true →
            SameOutside [.agreement, .ports, .latches, .intake, .trackers, .former] a b ∧
            b.agreement = { s.agreement with
              state := .agreed p, profile := p, offerTimer := .stopped, ackTimer := .stopped
              adoptionCode := p, adoptionCount := 200 } ∧
            EntersAgreed a b { a.ports with offer := a.ports.offer.withdrawn } p
              [.agreement p .adopted s.agreement.acceptMask 0])) ∧
        (8 ≤ x.code → b = a.setAgreement { s.agreement with adoptionCount := 0 })) ∧
      ((s.agreement.state = .acknowledge ∨ s.agreement.state = .pause ∨ s.agreement.state = .noCommon ∨
        (s.agreement.state = .listen ∧ s.agreement.offerSeen = true)) → b = a) ∧
      (∀ p, s.agreement.state = .agreed p →
        (x.code ≠ p.val ∨ x.valueCount ≠ channelCount p ∨ x.stated < 4 + 3 * x.valueCount) →
        b = a.setLatches { a.latches with profileMismatch := true })

/-- The expiries of the three agreement timers (R19, R23, R24): the offer timer places a new OFFER of the present
state, in place of one that waits or behind one in transmission (R12), and runs again; the acknowledge timer takes
ACKNOWLEDGE, and the pause timer PAUSE, into LISTEN without a notice, with counts and masks cleared and an ack 0 OFFER
placed (R21). That the acknowledge count is kept is DEDUCED (notes/assumptions/20.md). -/
def Obligations.AgreementTimers : Prop :=
  (∀ o x y : Offer, OfferPlace.place o .empty = .waiting o ∧ OfferPlace.place o (.waiting x) = .waiting o ∧
    OfferPlace.place o (.sending x) = .replaced x o ∧ OfferPlace.place o (.replaced x y) = .replaced x o) ∧
  (∀ (s : State) (ms : Nat), s.resetLine = false → s.agreement.offerTimer = .running ms →
    (s.agreement.state = .listen ∨ s.agreement.state = .acknowledge) →
    ∃ t, exec .offerTimerExpiry s = .next t ∧ SameOutside [.agreement, .ports] s t ∧
      t.agreement = { s.agreement with offerTimer := .running 10 } ∧
      t.ports.offer.Holds ⟨s.agreement.acceptMask, decide (s.agreement.state = .acknowledge)⟩ ∧
      t.ports = Ports.chooseA s.straps.station { s.ports with
        offer := s.ports.offer.place ⟨s.agreement.acceptMask, decide (s.agreement.state = .acknowledge)⟩ }) ∧
  (∀ (s : State) (c : Instr), s.resetLine = false →
    (c = .acknowledgeTimerExpiry ∧ s.agreement.state = .acknowledge ∧ s.agreement.ackTimer ≠ .stopped ∨
      c = .pauseTimerExpiry ∧ s.agreement.state = .pause ∧ s.agreement.pauseTimer ≠ .stopped) →
    ∃ t, exec c s = .next t ∧ SameOutside [.agreement, .ports] s t ∧
      t.agreement = { s.agreement with
        state := .listen, candidate := 0, matchCount := 0, recorded := 0, offerSeen := false, adoptionCount := 0
        offerTimer := .running 10, ackTimer := .stopped, pauseTimer := .stopped } ∧
      t.ports.offer.Holds ⟨s.agreement.acceptMask, false⟩ ∧
      t.ports = Ports.chooseA s.straps.station
        { s.ports with offer := s.ports.offer.place ⟨s.agreement.acceptMask, false⟩ })

/-- An accepted SET AGREEMENT (R32): the three fields stored, timers stopped, counts and masks cleared, AGREED left
with the cycles in progress abandoned (R29), the pending OFFER withdrawn (R12, R19), then LISTEN with an OFFER placed,
or AGREED(fixed code) with the effects of R30; no AGREEMENT notice; the answer DONE gives the agreement state and the
profile in force, and is placed after the OFFER and after any TRACKER notice of a change of rate (R172). What
CyclesBroken says of point index 0 and REALIGNED, and EntersAgreed of the holdover count and the marks, is DEDUCED
(notes/assumptions/10.md, 14.md and 20.md). -/
def Obligations.SetAgreement : Prop :=
  ∀ (s : State) (r : Request) (mode : AgreementMode) (mask : BitVec 8) (fixed : ProfileCode),
    Serving s .setAgreement r → byteAt r.body 0 = mode.code → r.body.getD 1 0 = mask → byteAt r.body 2 = fixed.val →
    mask.getLsbD fixed.val = true →
    ∃ t, exec .setAgreement s = .next t ∧
      SameOutside [.agreement, .ports, .latches, .intake, .trackers, .former, .management] s t ∧
      t.management = { s.management with inService := none } ∧
      t.agreement.mode = mode ∧ t.agreement.acceptMask = mask ∧ t.agreement.fixedCode = fixed ∧
      t.agreement.matchCount = 0 ∧ t.agreement.candidate = 0 ∧ t.agreement.recorded = 0 ∧
      t.agreement.adoptionCount = 0 ∧ t.agreement.ackCount = 0 ∧ t.agreement.offerSeen = false ∧
      t.agreement.ackTimer = .stopped ∧ t.agreement.pauseTimer = .stopped ∧
      (mode = .negotiate → t.agreement.state = .listen ∧ t.agreement.profile = s.agreement.profile ∧
        t.agreement.offerTimer = .running 10 ∧ t.ports.offer.Holds ⟨mask, false⟩ ∧
        t.ports = Ports.chooseB s.straps.station
          { Ports.chooseA s.straps.station { s.ports with offer := s.ports.offer.place ⟨mask, false⟩ } with
            answerSlot := some ⟨r.source, r.tag, r.kind, .done, [0, BitVec.ofNat 8 s.agreement.profile.val]⟩ } ∧
        ((∃ p, s.agreement.state = .agreed p) → CyclesBroken s t ∧
          t.latches = { s.latches with streamIntact := false } ∧
          t.intake = { s.intake with stream := .waiting, expected := none, silence := .stopped }) ∧
        ((∀ p, s.agreement.state ≠ .agreed p) → t.trackers = s.trackers ∧ t.former = s.former ∧
          t.intake = s.intake ∧ t.latches = s.latches)) ∧
      (mode = .fixed → ∃ m n,
        SameOutside [.ports, .management] n t ∧
        t.ports = Ports.chooseB s.straps.station { n.ports with
          answerSlot := some ⟨r.source, r.tag, r.kind, .done, [3, BitVec.ofNat 8 fixed.val]⟩ } ∧
        EntersAgreed m n { s.ports with offer := s.ports.offer.withdrawn } fixed [] ∧
        SameOutside [.trackers, .former, .latches] s m ∧
        ((∃ p, s.agreement.state = .agreed p) →
          m.latches = { s.latches with streamIntact := false } ∧ CyclesBroken s m) ∧
        ((∀ p, s.agreement.state ≠ .agreed p) → m = s))

/-! ## Sample intake (chapter 4) -/

/-- The "round" and isqrt of the manual (spec/00_scope.md, R147): roundDiv z d is the integer nearest to z / d, a value
halfway going away from zero; isqrt x is the greatest integer whose square does not exceed x. -/
def Obligations.IntegerArithmetic : Prop :=
  (∀ (z : Int) (d : Nat), 0 < d → 2 * (z - roundDiv z d * d).natAbs ≤ d ∧
    (2 * (z - roundDiv z d * d).natAbs = d → z.natAbs ≤ (roundDiv z d).natAbs * d)) ∧
  (∀ x : Nat, isqrt x * isqrt x ≤ x ∧ x < (isqrt x + 1) * (isqrt x + 1))

/-- SAMPLE SET and TIME MARK frames from port A enter the forward queue when forwarding is ON and it holds fewer than
32, set FORWARD_DROPPED when it is ON and 32 are held, and do neither when it is OFF (R5, R7, R8). -/
def Obligations.StreamFramesForwarded : Prop :=
  ∀ (s : State) (f : RxFrame) (k : FrameKind) (x : StreamFrame), (k = .sampleSet ∨ k = .timeMark) →
    StreamArrives s .a f k x → ∃ t, exec (.receptionEnd .a f) s = .next t ∧
      t.ports.forwardQueue = (if s.tables.station.forwarding = true ∧ s.ports.forwardQueue.length < 32
        then s.ports.forwardQueue ++ [f.bytes] else s.ports.forwardQueue) ∧
      t.latches.forwardDropped = (s.latches.forwardDropped ||
        (s.tables.station.forwarding && decide (32 ≤ s.ports.forwardQueue.length))) ∧
      t.ports.relayQueue = s.ports.relayQueue ∧ t.management = s.management ∧ t.straps = s.straps

/-- An admitted SAMPLE SET at the intake (R52 to R55, R57 to R62), by the stream state and the distance g from the
expected number: taken as first in WAITING; taken at g = 0; after g filled samples, with GAP_FILLED, at 1 to 8; taken
as first after a GAP break with its STREAM notice at 9 to 32767; discarded above. A taken frame's calibrated and
clamped values become the current sample set, with 0 in every absent channel; the input-sample count advances once for
each sample; the next number is expected and the silence timer runs at the timeout of the station settings. Each input
sample, filled or taken, is handed on to the taps and to every running tracker, which examines it for crossings and
then makes its resampler's step (`FrameTaken`, `SamplesFilled`, R80, R92, R105), with forwarding ON before or after
the frame has entered the forward queue (R5). Both orders, of two running trackers and of the two parts of the
delivery, are free by the model's choice (notes/assumptions/4.md and 5.md); what CyclesBroken says of point index 0
and REALIGNED is DEDUCED (notes/assumptions/10.md and 14.md). -/
def Obligations.AdmittedSampleFrames : Prop :=
  ∀ (s : State) (f : RxFrame) (x : SampleSet) (p : ProfileCode), SampleArrives s f x → Admitted s x p →
    ∃ t a b, exec (.receptionEnd .a f) s = .next t ∧ Forwarded s a b t f.bytes ∧
      (s.intake.stream = .waiting → FrameTaken a b x true) ∧
      (∀ e, s.intake.stream = .running → s.intake.expected = some e → let g := (x.sequence - e).toNat
        (g = 0 → FrameTaken a b x false) ∧
        (1 ≤ g → g ≤ 8 → ∃ m, SamplesFilled g (a.setLatches { a.latches with gapFilled := true }) m ∧
          FrameTaken m b x false) ∧
        (9 ≤ g → g ≤ 32767 → ∃ m, SameOutside [.ports, .latches, .trackers, .former] a m ∧ CyclesBroken a m ∧
          NoticesFrom a a.ports { a.latches with streamIntact := false } m
            [.stream p .gap e x.sequence 0 a.intake.count] ∧ FrameTaken m b x true) ∧
        (32768 ≤ g → b = a)) ∧
      SameOutside (.intake :: .choices :: .trackers :: .tables ::
        [.former, .engine, .accounts, .records, .ports, .latches]) s t ∧
      t.agreement = s.agreement ∧
      (let taken (samples : Nat) : Prop :=
        (∀ c : Channel, t.intake.current[c] = calibratedValue s x c) ∧ t.intake.stream = .running ∧
        t.intake.expected = some (x.sequence + 1) ∧
        t.intake.silence = .running s.tables.station.silenceMs ∧
        t.intake.count = s.intake.count + BitVec.ofNat 32 samples ∧
        ((∃ c : Channel, c.val < channelCount p ∧ calibratedValue s x c ≠
          roundDiv ((x.value c.val - s.tables.channels[c].offset) * s.tables.channels[c].gain.toNat) 32768) →
            t.latches.clipped = true)
      (s.intake.stream = .waiting → taken 1 ∧ t.latches.gapFilled = s.latches.gapFilled ∧
        t.latches.streamIntact = s.latches.streamIntact) ∧
      (∀ e, s.intake.stream = .running → s.intake.expected = some e →
        (x.sequence = e → taken 1 ∧ t.latches.gapFilled = s.latches.gapFilled ∧
          t.latches.streamIntact = s.latches.streamIntact) ∧
        (1 ≤ (x.sequence - e).toNat → (x.sequence - e).toNat ≤ 8 → taken ((x.sequence - e).toNat + 1) ∧
          t.latches.gapFilled = true ∧ t.latches.streamIntact = s.latches.streamIntact) ∧
        (9 ≤ (x.sequence - e).toNat → (x.sequence - e).toNat ≤ 32767 → taken 1 ∧ t.latches.streamIntact = false ∧
          queueNotices s.tables.station s.ports.noticeQueue [.stream p .gap e x.sequence 0 s.intake.count] <+:
            t.ports.noticeQueue) ∧
        (32768 ≤ (x.sequence - e).toNat → t.intake = s.intake ∧ t.trackers = s.trackers ∧ t.former = s.former ∧
          t.engine = s.engine ∧ t.accounts = s.accounts ∧ t.records = s.records ∧
          (s.tables.station.forwarding = false → t = s))))

/-- The silence expiry in RUNNING (R56, R57, R58, R63): a STREAM notice with cause SILENCE, the expected number twice
and the length of the timer that expired; STREAM_INTACT low; the cycles in progress abandoned; the intake WAITING with
its current sample set and count kept. That nothing is unaccounted at point index 0 and that REALIGNED is kept
(CyclesBroken) is DEDUCED (notes/assumptions/10.md and 14.md). -/
def Obligations.SilenceExpiry : Prop :=
  ∀ (s : State) (ms : Nat) (e : BitVec 16), s.resetLine = false → s.intake.stream = .running →
    s.intake.silence = .running ms → s.intake.expected = some e →
    ∃ t, exec .silenceTimerExpiry s = .next t ∧
      SameOutside [.ports, .latches, .intake, .trackers, .former] s t ∧
      t.intake = { s.intake with stream := .waiting, expected := none, silence := .stopped } ∧
      NoticesFrom s s.ports { s.latches with streamIntact := false } t
        [.stream s.agreement.profile .silence e e ms s.intake.count] ∧ CyclesBroken s t

/-- A TIME MARK (R64, R95): one whose stated length covers the second count is a mark arrival, recorded as the latest
second count; the cycle ends since the mark restart at 0 on every tracker, and an alignment becomes due on each tracker
that makes cycles and whose align mode in force is not OFF, unless its alignment is HELD. A shorter one is ignored. -/
def Obligations.TimeMarkArrival : Prop :=
  ∀ (s : State) (f : RxFrame) (x : StreamFrame), StreamArrives s .a f .timeMark x →
    ∃ t, exec (.receptionEnd .a f) s = .next t ∧ SameOutside [.former, .ports, .latches, .choices] s t ∧
      (x.stated < 4 → t.former = s.former) ∧
      (4 ≤ x.stated →
        t.former.second = some (BitVec.ofNat 32 (((byteAt x.carried 0 * 256 + byteAt x.carried 1) * 256 +
          byteAt x.carried 2) * 256 + byteAt x.carried 3)) ∧
        t.former.taps = s.former.taps ∧ t.former.pendingTariff = s.former.pendingTariff ∧
        ∀ u : TrackerId, t.former.trackers[u] =
          { s.former.trackers[u] with
            cycleEnds := 0
            align := if s.makesCycles u = true ∧ s.former.trackers[u].inForce.align ≠ .off ∧
              s.former.trackers[u].align ≠ .held then .due else s.former.trackers[u].align })

/-! ## Trackers and reference handover (chapter 5) -/

/-- The rates, channel counts and nominal periods of the eight codes at 50 and at 60 Hz (R18), the nominal period in
use being that of the strap and the profile in force and an IDLE tracker's Lfix reading as it (R69); and the
arithmetic of a crossing, of the period filter and of a point. A candidate's time is the sample before it plus the
floored fraction of the way to zero, in 1/65536 of a sample (R67); candidates under 3/4 and over 5/4 of the nominal
period are ignored and rejected, those between accepted (R68); the filter moves a period in the band an eighth of the
way, rounded toward zero, and no further than the band (R69); a point lies between its two samples, within half a unit
of the straight line, and on the later sample at its end (R92). -/
def Obligations.MeasurementArithmetic : Prop :=
  ((List.finRange 8).map sampleRate = [6400, 6400, 9600, 9600, 12800, 12800, 19200, 19200] ∧
    (List.finRange 8).map channelCount = [24, 48, 24, 48, 24, 48, 24, 48] ∧
    (List.finRange 8).map (nominalPeriod .hz50) =
      [8388608, 8388608, 12582912, 12582912, 16777216, 16777216, 25165824, 25165824] ∧
    (List.finRange 8).map (nominalPeriod .hz60) =
      [6990506, 6990506, 10485760, 10485760, 13981013, 13981013, 20971520, 20971520] ∧
    ∀ s : State, s.lnom = nominalPeriod s.straps.frequency s.agreement.profile ∧
      ∀ u : TrackerId, s.lfix u = if s.trackers[u].state = .idle then s.lnom else s.trackers[u].lfix) ∧
  (∀ (n : BitVec 32) (previous x : Int), previous < 0 → 0 ≤ x → ∃ f : Nat, f ≤ 65536 ∧
    crossingTime n previous x = BitVec.ofNat 48 ((n - 1).toNat * 65536 + f) ∧
    (f : Int) * (x - previous) ≤ -previous * 65536 ∧ -previous * 65536 < ((f : Int) + 1) * (x - previous) ∧
    (x = 0 → f = 65536)) ∧
  (∀ (lnom : Nat) (l t : BitVec 48),
    (classifyAt lnom none t = .seed t) ∧
    (4 * (t - l).toNat < 3 * lnom → classifyAt lnom (some l) t = .ignored) ∧
    (5 * lnom < 4 * (t - l).toNat → classifyAt lnom (some l) t = .rejected t) ∧
    (3 * lnom ≤ 4 * (t - l).toNat → 4 * (t - l).toNat ≤ 5 * lnom →
      classifyAt lnom (some l) t = .accepted t (t - l).toNat)) ∧
  (∀ lnom lfix m : Nat, 7 * lnom ≤ 8 * lfix → 8 * lfix ≤ 9 * lnom →
    (lfix ≤ m → filterPeriod lnom lfix m = min (9 * lnom / 8) (lfix + (m - lfix) / 8)) ∧
    (m ≤ lfix → filterPeriod lnom lfix m = max ((7 * lnom + 7) / 8) (lfix - (lfix - m) / 8))) ∧
  (∀ (previous x : Int) (num inc : Nat), 0 < inc → num ≤ inc →
    min previous x ≤ interpolate previous x num inc ∧ interpolate previous x num inc ≤ max previous x ∧
    2 * ((interpolate previous x num inc - previous) * inc - (x - previous) * num).natAbs ≤ inc ∧
    interpolate previous x inc inc = x)

/-- Every tracker's Lfix lies within 7/8 and 9/8 of the nominal period of the profile in force, inclusive (R69), and so
does the shadow period of every pending handover (R82, R83, R88); no handover is pending on a tracker that is IDLE or
FOLLOWING (R76, R77, R82). -/
def Obligations.PeriodsStayInBand : Prop :=
  ∀ s t : State, s.TrackersSound → step s = .next t → t.TrackersSound

/-- What crossings and half-cycles do to a tracker (R67 to R70, R72, R73, R75, R80, R81, R83, R84). A sample of the
reference channel is classified by the value before it and the last crossing, moves the main detector, and an accepted
or rejected candidate then acts on the tracker; the crossing age is tested after it, and the shadow detector of a
pending handover examines the new channel's value. An accepted crossing clears the rejections; in LOCKED it moves the
period; in ACQUIRING it is tested against the period before its update, and the fourth in the window in a row locks;
in HOLDOVER and FREERUN it starts ACQUIRING with the period kept. In ACQUIRING and LOCKED the third rejected
candidate, a crossing age of twice the nominal period and the second dip in a row lose the tracker into HOLDOVER with
its counts 0 and its period kept. Each change of state hands over its TRACKER notice, and the other tracker, the other
queues and the other latches are kept. That the age is tested after the candidate, that the holdover count is kept
where HOLDOVER is left for ACQUIRING, and that a lock count stays at 4, is DEDUCED (notes/assumptions/9.md and 20.md).
-/
def Obligations.CrossingsAndDipsMoveTheTracker : Prop :=
  ∀ (s : State) (u : TrackerId),
    let k := s.trackers[u]
    let notice (new : TrackerState) (cause : TrackerCause) (lfix : Nat) : NoticeBody :=
      .tracker u k.state new cause s.tables.settings[u].reference lfix s.intake.count
    let becomes (t : State) (x : Tracker) (l : List NoticeBody) : Prop :=
      SameOutside [.trackers, .ports, .latches] s t ∧ t.trackers[u] = x ∧ t.trackers[1 - u] = s.trackers[1 - u] ∧
        Noticed s t l
    let lost (x : Tracker) : Tracker :=
      { x with
        state := .holdover, marks := { x.marks with holdover := true }, holdoverCount := 0, rejections := 0
        dipCount := 0, detector := { x.detector with lockCount := 0 } }
    (∀ (start : Bool) (values : ChannelValues),
      let x := values[s.tables.settings[u].reference]
      let c := crossingOf k.detector s.lnom start s.intake.count x
      let a := s.setTrackers (upd s.trackers u { k with detector := detectorAfter k.detector x c })
      let b := (match c with
        | .accepted _ m => a.acceptCrossing u m
        | .rejected _ => a.rejectCrossing u
        | .none | .seed _ | .ignored => a).checkAge u
      s.examine u start values = b.setTrackers (upd b.trackers u { b.trackers[u] with
        handover := b.trackers[u].handover.map fun h =>
          shadowAfter h s.lnom start s.intake.count values[h.channel] })) ∧
    (let late := (k.state = .acquiring ∨ k.state = .locked) ∧ 2 * s.lnom ≤ k.detector.age * 65536
     (late → becomes (s.checkAge u) (lost k) [notice .holdover .noCrossing k.lfix]) ∧
     (¬late → s.checkAge u = s)) ∧
    (∀ m : Nat,
      (k.state = .locked → becomes (s.acceptCrossing u m)
        { k with rejections := 0, lfix := filterPeriod s.lnom k.lfix m } []) ∧
      (k.state = .acquiring →
        let n := if ((m : Int) - k.lfix).natAbs ≤ k.lfix / 64 then min 4 (k.detector.lockCount + 1) else 0
        let x := { k with
          rejections := 0, lfix := filterPeriod s.lnom k.lfix m, detector := { k.detector with lockCount := n } }
        (n < 4 → becomes (s.acceptCrossing u m) x []) ∧
        (n = 4 → becomes (s.acceptCrossing u m) { x with state := .locked }
          [notice .locked .lock (filterPeriod s.lnom k.lfix m)])) ∧
      ((k.state = .holdover ∨ k.state = .freerun) → becomes (s.acceptCrossing u m)
        { k with
          state := .acquiring, marks := { k.marks with acquiring := true }, rejections := 0
          detector := { k.detector with lockCount := 0 } } [notice .acquiring .reacquire k.lfix])) ∧
    ((k.state = .acquiring ∨ k.state = .locked) →
      (k.rejections < 2 → becomes (s.rejectCrossing u) { k with rejections := k.rejections + 1 } []) ∧
      (2 ≤ k.rejections → becomes (s.rejectCrossing u) (lost k) [notice .holdover .rejections k.lfix])) ∧
    ((k.state = .holdover ∨ k.state = .freerun) → s.rejectCrossing u = s) ∧
    (let dip := s.tables.settings[u].dipThreshold ≠ 0 ∧ k.halfSum / 64 < s.tables.settings[u].dipThreshold
     let marked : Tracker := { k with halfSum := 0, marks := { k.marks with dip := true } }
     (¬dip → becomes (s.dipCheck u) { k with halfSum := 0, dipCount := 0 } []) ∧
     (dip → (k.state = .holdover ∨ k.state = .freerun) → becomes (s.dipCheck u) { marked with dipCount := 0 } []) ∧
     (dip → (k.state = .acquiring ∨ k.state = .locked) →
       (k.dipCount = 0 → becomes (s.dipCheck u) { marked with dipCount := 1 } []) ∧
       (1 ≤ k.dipCount → becomes (s.dipCheck u) (lost marked) [notice .holdover .dips k.lfix])))

/-- The three counts of a tracker that reach their limit, taken as events of their own where one more count reaches it
(R73, R74, R86; the same changes are made within a reception end, notes/assumptions/6.md). NO_CROSSING: a tracker in
ACQUIRING or LOCKED enters HOLDOVER with its counts 0 and Lfix kept. HANDOVER_TIMEOUT: the pending handover is dropped
with the count in its notice, 64 from 63. HOLDOVER_LIMIT: a tracker in HOLDOVER enters FREERUN at Lnom. -/
def Obligations.TrackerCountsReachTheirLimits : Prop :=
  ∀ (s : State) (u : TrackerId), s.resetLine = false →
    ((s.trackers[u].state = .acquiring ∨ s.trackers[u].state = .locked) →
      2 * s.lnom ≤ min 65535 (s.trackers[u].detector.age + 1) * 65536 →
      ∃ t, exec (.noCrossing u) s = .next t ∧ SameOutside [.trackers, .ports, .latches] s t ∧
        t.trackers[u] =
          { s.trackers[u] with
            state := .holdover
            marks := { s.trackers[u].marks with holdover := true }
            detector :=
              { s.trackers[u].detector with lockCount := 0, age := min 65535 (s.trackers[u].detector.age + 1) }
            rejections := 0
            dipCount := 0
            holdoverCount := 0 } ∧
        t.trackers[1 - u] = s.trackers[1 - u] ∧
        Noticed s t [.tracker u s.trackers[u].state .holdover .noCrossing s.tables.settings[u].reference
          s.trackers[u].lfix s.intake.count]) ∧
    (∀ h, s.trackers[u].handover = some h → h.locked = false → 63 ≤ h.timeout →
      ∃ t, exec (.handoverTimeout u) s = .next t ∧ SameOutside [.trackers, .ports, .latches] s t ∧
        t.trackers[u] = { s.trackers[u] with handover := none } ∧ t.trackers[1 - u] = s.trackers[1 - u] ∧
        Noticed s t [.handover u .timedOut s.tables.settings[u].reference h.channel (h.timeout + 1) false
          s.trackers[u].state h.ls]) ∧
    (s.trackers[u].state = .holdover → s.tables.settings[u].holdoverLimit ≤ s.trackers[u].holdoverCount + 1 →
      ∃ t, exec (.holdoverLimit u) s = .next t ∧ SameOutside [.trackers, .ports, .latches] s t ∧
        t.trackers[u] =
          { s.trackers[u] with
            state := .freerun
            marks := { s.trackers[u].marks with freerun := true }
            lfix := s.lnom
            holdoverCount := 0 } ∧
        t.trackers[1 - u] = s.trackers[1 - u] ∧
        Noticed s t [.tracker u .holdover .freerun .holdoverLimit s.tables.settings[u].reference s.lnom
          s.intake.count])

/-- HANDOVER with action START (R82): WRONG_STATE on a tracker that is not running or has a handover pending, then
OUT_OF_RANGE for the present reference; otherwise a pending handover with a cleared shadow and Ls = Lfix. With action
CANCEL (R82, R87, R89): WRONG_STATE with nothing pending; otherwise the handover is dropped with a CANCELLED notice,
which is handed over before the answer is built and placed (R172). -/
def Obligations.HandoverRequests : Prop :=
  ∀ (s : State) (r : Request) (u : TrackerId), Serving s .handover r → byteAt r.body 0 = u.val →
    (∀ c : Channel, byteAt r.body 1 = 0 → byteAt r.body 2 = c.val → ∃ t, exec .handoverStart s = .next t ∧
      ((s.trackers[u].state.isRunning = false ∨ s.trackers[u].handover.isSome = true) →
        Answered s t r .wrongState [] ∧ SameOutside [.ports, .management] s t) ∧
      (s.trackers[u].state.isRunning = true → s.trackers[u].handover = none →
        (c = s.tables.settings[u].reference →
          Answered s t r .outOfRange [] ∧ SameOutside [.ports, .management] s t) ∧
        (c ≠ s.tables.settings[u].reference →
          Answered s t r .done ([BitVec.ofNat 8 u.val, BitVec.ofNat 8 c.val] ++ toBE 4 s.trackers[u].lfix) ∧
          SameOutside [.trackers, .ports, .management] s t ∧
          t.trackers[u] = { s.trackers[u] with
            handover := some ⟨c, ⟨none, none, 0, 0⟩, s.trackers[u].lfix, false, 0⟩ } ∧
          t.trackers[1 - u] = s.trackers[1 - u]))) ∧
    (byteAt r.body 1 = 1 → ∃ t, exec .handoverCancel s = .next t ∧
      (s.trackers[u].handover = none → Answered s t r .wrongState [] ∧ SameOutside [.ports, .management] s t) ∧
      (∀ h, s.trackers[u].handover = some h →
        t.management = { s.management with inService := none } ∧
        SameOutside [.trackers, .ports, .latches, .management] s t ∧
        t.trackers[u] = { s.trackers[u] with handover := none } ∧ t.trackers[1 - u] = s.trackers[1 - u] ∧
        NoticesThenAnswer s t [.handover u .cancelled s.tables.settings[u].reference h.channel h.timeout h.locked
          s.trackers[u].state h.ls] ⟨r.source, r.tag, r.kind, .done, []⟩))

/-- The tracker's own work at a cycle end (R74, R80, R85, R86, R89), in its order: the dip check of the second half;
the marks that the ended cycle hands over; the handover step; the holdover step, not where the dip check entered
HOLDOVER; and the next cycle's first mark. In the handover step a locked shadow commits, whatever the count: the
reference and the period move, the main detector goes on from the shadow, the tracker is LOCKED with its counts 0, and
a TRACKER notice follows the HANDOVER notice where the state changed; an unlocked one below the limit counts one more,
and at 64 is dropped with its notice. In the holdover step HOLDOVER counts one more cycle end, and enters FREERUN at
Lnom at the limit. -/
def Obligations.HandoverStepOfACycleEnd : Prop :=
  (∀ st : TrackerState, Marks.ofState st =
    ⟨decide (st = .acquiring), decide (st = .holdover), decide (st = .freerun), decide (st = .following), false⟩) ∧
  (∀ (s : State) (u : TrackerId), ∃ b c d,
    b = s.dipCheck u ∧ (s.trackerWork u).2 = b.trackers[u].marks ∧ c = b.handoverStep u ∧
    (let entered := s.trackers[u].state ≠ .holdover ∧ b.trackers[u].state = .holdover
     (c.trackers[u].state = .holdover → ¬entered → d = c.advanceHoldover u) ∧
     ((c.trackers[u].state ≠ .holdover ∨ entered) → d = c)) ∧
    (s.trackerWork u).1 =
      d.setTrackers (upd d.trackers u { d.trackers[u] with marks := .ofState d.trackers[u].state })) ∧
  (∀ (s : State) (u : TrackerId),
    let t := s.handoverStep u
    (s.trackers[u].handover = none → t = s) ∧
    (∀ h, s.trackers[u].handover = some h →
      (h.locked = true → SameOutside [.trackers, .tables, .ports, .latches] s t ∧
        t.tables = { s.tables with
          settings := upd s.tables.settings u { s.tables.settings[u] with reference := h.channel } } ∧
        t.trackers[u] =
          { s.trackers[u] with
            state := .locked
            lfix := h.ls
            detector := ⟨h.shadow.previous, h.shadow.last, 0, h.shadow.age⟩
            rejections := 0
            dipCount := 0
            holdoverCount := 0
            handover := none } ∧
        t.trackers[1 - u] = s.trackers[1 - u] ∧
        Noticed s t
          (NoticeBody.handover u .committed s.tables.settings[u].reference h.channel h.timeout true .locked h.ls ::
            if s.trackers[u].state = .locked then []
            else [.tracker u s.trackers[u].state .locked .commit h.channel h.ls s.intake.count])) ∧
      (h.locked = false → h.timeout < 63 → t =
        s.setTrackers (upd s.trackers u { s.trackers[u] with handover := some { h with timeout := h.timeout + 1 } })) ∧
      (h.locked = false → 63 ≤ h.timeout → SameOutside [.trackers, .ports, .latches] s t ∧
        t.trackers[u] = { s.trackers[u] with handover := none } ∧ t.trackers[1 - u] = s.trackers[1 - u] ∧
        Noticed s t [.handover u .timedOut s.tables.settings[u].reference h.channel (h.timeout + 1) false
          s.trackers[u].state h.ls]))) ∧
  (∀ (s : State) (u : TrackerId),
    let t := s.advanceHoldover u
    let limit := s.tables.settings[u].holdoverLimit
    (s.trackers[u].holdoverCount + 1 < limit → t = s.setTrackers
      (upd s.trackers u { s.trackers[u] with holdoverCount := s.trackers[u].holdoverCount + 1 })) ∧
    (limit ≤ s.trackers[u].holdoverCount + 1 → SameOutside [.trackers, .ports, .latches] s t ∧
      t.trackers[u] =
        { s.trackers[u] with
          state := .freerun
          marks := { s.trackers[u].marks with freerun := true }
          lfix := s.lnom
          holdoverCount := 0 } ∧
      t.trackers[1 - u] = s.trackers[1 - u] ∧
      Noticed s t [.tracker u .holdover .freerun .holdoverLimit s.tables.settings[u].reference s.lnom
        s.intake.count]))

/-- WRITE TRACKER whose fields are in range (R41, R46, R47, R71, R76, R77, R78, R81, R99, R102, R103, R104, R176):
WRONG_STATE for another reference on a tracker enabled in INDEPENDENT mode and for FOLLOWER with a handover pending;
otherwise the settings of the body's bytes are stored, the other tracker, other queues and latches stay, and the
tracker changes state as the enabled and mode fields say. First comes the notice of a cancelled handover or of the
change of state, then the closes of the taps that stop, in tap order, with what the record unit does at each, and then
the answer (R172). The taps of a tracker that stops making cycles have their blocks closed and their staged entries applied;
those of one that starts collect; those of a tracker 1 that enters FOLLOWING join tracker 0's cycles and those of one
that leaves it collect its own, the samples of the cycle they leave unaccounted. Where the write disables a tracker or
sets it to FOLLOWING, a pending tariff record that every tracker enabled and not FOLLOWING has applied is removed
(R99). DEDUCED: that the FOLLOW notice comes before LIMIT notices, and that a record with no such tracker left goes
(notes/assumptions/19.md); the join and the gap of taps whose tracker enters FOLLOWING from IDLE
(notes/assumptions/13.md); that nothing is unaccounted at point index 0 where a running tracker is disabled or enters
FOLLOWING (notes/assumptions/10.md). -/
def Obligations.WriteTracker : Prop :=
  ∀ (s : State) (r : Request) (u : TrackerId), Serving s .writeTracker r → byteAt r.body 0 = u.val →
    bodyInRange r.body .writeTracker = true →
    let x : TrackerSettings :=
      { enabled := decide (byteAt r.body 1 = 1), reference := Fin.ofNat 48 (byteAt r.body 2)
        mode := if byteAt r.body 3 = 1 then .follower else .independent
        written := ⟨byteAt r.body 4,
          if byteAt r.body 5 = 0 then .off else if byteAt r.body 5 = 1 then .soft else .hard, byteAt r.body 6⟩
        holdoverLimit := byteAt r.body 7, autoReport := decide (byteAt r.body 8 = 1), dipThreshold := beNat r.body 9 5 }
    let old := s.tables.settings[u]
    let refused := (old.enabled = true ∧ old.mode = .independent ∧ x.reference ≠ old.reference) ∨
      (x.mode = .follower ∧ s.trackers[u].handover.isSome = true)
    ∃ t, exec .writeTracker s = .next t ∧
      (refused → Answered s t r .wrongState [] ∧ SameOutside [.ports, .management] s t) ∧
      (¬refused →
        SameOutside [.management, .trackers, .tables, .former, .engine, .accounts, .records, .ports, .latches] s t ∧
        t.management = { s.management with inService := none } ∧
        t.ports.answerSlot = some ⟨r.source, r.tag, r.kind, .done, []⟩ ∧ s.ports.Kept t.ports ∧
        t.latches = { s.latches with noticeDropped := t.latches.noticeDropped } ∧
        (let first : List NoticeBody :=
          if x.enabled = false then (if s.trackers[u].state = .idle then [] else match s.trackers[u].handover with
            | none => []
            | some h => [.handover u .cancelled x.reference h.channel h.timeout h.locked s.trackers[u].state h.ls])
          else if x.mode = .follower then (if s.trackers[u].state.isRunning = true then
            [.tracker u s.trackers[u].state .following .follow x.reference s.lnom s.intake.count] else [])
          else if s.trackers[u].state = .following then
            [.tracker u .following .acquiring .unfollow x.reference s.lnom s.intake.count]
          else []
         let stops (tap : TapId) : Bool := decide (
          s.makesCycles (s.tapTracker tap) = true ∧
          ((x.enabled = false ∧ s.trackers[u].state ≠ .idle ∧
              (s.tapTracker tap = u ∨ s.cycleSource (s.tapTracker tap) = some u)) ∨
            (x.enabled = true ∧ x.mode = .follower ∧ s.trackers[u].state.isRunning = true ∧
              s.tapTracker tap = u ∧ s.trackers[(0 : TrackerId)].state = .idle)))
         ∃ m n : State, SameOutside [.tables, .ports, .latches] s m ∧
          m.tables = { s.tables with settings := upd s.tables.settings u x } ∧
          HandedOver s s.ports s.latches m.ports m.latches first ∧
          n = ((List.finRange 8).filter fun tap =>
            stops tap && decide (s.former.taps[tap].collect ≠ .inactive)).foldl
              (fun k tap => k.register (s.stopEntry tap)) m ∧
          t.records = n.records ∧ t.latches = n.latches ∧
          t.engine = { s.engine with held := t.engine.held, stale := t.engine.stale } ∧
          (∀ tap : TapId,
            (stops tap = true → s.stagedMoves tap = true →
              t.engine.held[tap] = none ∧ t.engine.stale[tap] = s.outstandingJobs tap) ∧
            ((stops tap = false ∨ s.stagedMoves tap = false) →
              t.engine.held[tap] = s.engine.held[tap] ∧ t.engine.stale[tap] = s.engine.stale[tap])) ∧
          t.ports = Ports.chooseB s.straps.station
            { n.ports with answerSlot := some ⟨r.source, r.tag, r.kind, .done, []⟩ }) ∧
        (let leaves := (x.enabled = false ∧ s.trackers[u].state ≠ .idle) ∨
          (x.enabled = true ∧ x.mode = .follower ∧ s.trackers[u].state ≠ .following)
         (¬leaves → t.former.pendingTariff = s.former.pendingTariff) ∧
         (leaves → ∀ p, s.former.pendingTariff = some p → t.former.pendingTariff =
           if ∀ v : TrackerId, t.tables.settings[v].enabled = true → t.trackers[v].state ≠ .following →
             p.applied[v] = true then none else some p) ∧
         (s.former.pendingTariff = none → t.former.pendingTariff = none)) ∧
        t.tables.settings[u] = x ∧ t.tables.settings[1 - u] = s.tables.settings[1 - u] ∧
        t.trackers[1 - u] = s.trackers[1 - u] ∧
        (x.enabled = false → t.trackers[u].state = .idle ∧ t.former.trackers[u].index = 0 ∧
          t.former.trackers[u].inForce = x.written ∧
          (s.trackers[u].state ≠ .idle → t.trackers[u].handover = none ∧
            t.former.trackers[u].resampler = none)) ∧
        (x.enabled = false → s.trackers[u].state.isRunning = true → x.reference = old.reference →
          ∀ h, s.trackers[u].handover = some h →
            queueNotices s.tables.station s.ports.noticeQueue
              [.handover u .cancelled old.reference h.channel h.timeout h.locked s.trackers[u].state h.ls] <+:
                t.ports.noticeQueue) ∧
        (x.enabled = true → x.mode = .independent →
          (s.trackers[u].state = .idle ∨ s.trackers[u].state = .following) →
          t.trackers[u] =
            ⟨.acquiring, s.lnom, ⟨none, none, 0, 0⟩, 0, 0, 0, 0, ⟨true, false, false, false, false⟩, none⟩ ∧
          t.former.trackers[u].resampler = some ⟨0, 0, 2 ^ 39 / s.lnom, 0, s.lnom, false⟩ ∧
          (s.trackers[u].state = .idle → t.former.trackers[u].inForce = x.written ∧
            t.former.trackers[u].index = 0)) ∧
        (x.enabled = true → x.mode = .independent → s.trackers[u].state.isRunning = true →
          t.trackers[u] = s.trackers[u] ∧ t.former = s.former) ∧
        (x.enabled = true → x.mode = .follower → t.trackers[u].state = .following ∧
          (s.trackers[u].state ≠ .following → t.trackers[u].lfix = s.lnom) ∧
          (s.trackers[u].state.isRunning = true → t.former.trackers[u].resampler = none ∧
            queueNotices s.tables.station s.ports.noticeQueue
              [.tracker u s.trackers[u].state .following .follow x.reference s.lnom s.intake.count] <+:
                t.ports.noticeQueue)) ∧
        (∀ tap : TapId, let v := s.tapTracker tap
          let old := s.former.taps[tap]
          (v ≠ u → (u = 1 ∨ s.trackers[(1 : TrackerId)].state ≠ .following) → TapKept s t tap) ∧
          (x.enabled = false → s.trackers[u].state ≠ .idle → (v = u ∨ s.cycleSource v = some u) →
            s.makesCycles v = true → TapStopped s t tap) ∧
          (x.enabled = true → x.mode = .independent → s.trackers[u].state = .idle →
            (v = u ∨ (u = 0 ∧ s.trackers[v].state = .following)) → (s.tapEntry tap).enabled = true →
            old.collect = .inactive → t.former.taps[tap] = tapCleared .collecting old.unaccounted ∧
              t.accounts[tap] = s.accounts[tap] ∧ t.tables.taps[tap] = s.tables.taps[tap]) ∧
          (x.enabled = true → x.mode = .follower → s.trackers[u].state = .idle → v = u →
            (s.tapEntry tap).enabled = true → old.collect = .inactive → t.former.taps[tap] =
              if s.trackers[(0 : TrackerId)].state = .idle then old
              else { tapCleared (.joining (some 0)) 0 with unaccounted := old.unaccounted }) ∧
          (x.enabled = true → x.mode = .follower → s.trackers[u].state.isRunning = true → v = u →
            (s.trackers[(0 : TrackerId)].state = .idle → TapStopped s t tap) ∧
            (s.trackers[(0 : TrackerId)].state ≠ .idle → ∀ m, s.former.trackers[u].resampler = some m →
              t.tables.taps[tap] = s.tables.taps[tap] ∧ t.accounts[tap] = s.accounts[tap] ∧
              (old.collect = .collecting → t.former.taps[tap] = tapCleared (.joining (some 0))
                (old.unaccounted + if m.point = 0 then 0 else m.samples)) ∧
              (old.collect ≠ .collecting → t.former.taps[tap] = old))) ∧
          (x.enabled = true → x.mode = .independent → s.trackers[u].state = .following → u = 1 → v = u →
            t.tables.taps[tap] = s.tables.taps[tap] ∧ t.accounts[tap] = s.accounts[tap] ∧
            (∀ m, s.trackers[(0 : TrackerId)].state ≠ .idle →
              s.former.trackers[(0 : TrackerId)].resampler = some m → old.collect = .collecting →
              t.former.taps[tap] = tapCleared .collecting (old.unaccounted + m.samples)) ∧
            (∀ gap, old.collect = .joining gap →
              t.former.taps[tap] = tapCleared .collecting (old.unaccounted + gap.getD 0)) ∧
            (s.trackers[(0 : TrackerId)].state = .idle → (s.tapEntry tap).enabled = true →
              old.collect = .inactive → t.former.taps[tap] = tapCleared .collecting old.unaccounted))))

/-! ## Resampling and cycle formation (chapter 6) -/

/-- R91: a tracker has a resampler exactly while it is running; its accumulator lies within the cycle, its point index
is the number of point boundaries passed, its increment is floor(2^39 / cycle period), and the cycle period lies in the
band of the nominal period. -/
def Obligations.ResamplersStayPlaced : Prop :=
  ∀ s t : State, s.TrackersSound → s.ResamplersSound → step s = .next t → t.ResamplersSound

/-- The index step of a cycle end (R94, R95, R96): a natural close, an alignment taken HARD or SOFT, and one HELD to the
natural close of a block already re-indexed; the written block settings taken into force at a close; the cycle ends since
the mark counted up to 65,535; and the REALIGNED mark where the index differs from the one that would follow. -/
def Obligations.IndexAndAlignment : Prop :=
  ∀ (f : FormerTracker) (written : BlockSettings),
    let natural := f.index + 1 = f.inForce.length
    let d := f.indexDecision
    let g := f.indexStep written
    (f.align = .none → d.close = (if natural then some .natural else none) ∧
      g.index = (if natural then 0 else f.index + 1) ∧ g.align = .none) ∧
    (f.align = .due → f.inForce.align = .hard → d.close = some (if natural then .natural else .aligned) ∧
      g.index = written.preset ∧ g.align = .none) ∧
    (f.align = .due → f.inForce.align = .soft → natural →
      d.close = some .natural ∧ g.index = written.preset ∧ g.align = .none) ∧
    (f.align = .due → f.inForce.align = .soft → ¬natural → f.reindexed = false →
      d.close = none ∧ g.index = f.inForce.preset ∧ g.align = .none ∧
      g.reindexed = decide (f.inForce.preset ≠ f.index + 1)) ∧
    (f.align = .due → f.inForce.align = .soft → ¬natural → f.reindexed = true →
      d.close = none ∧ g.index = f.index + 1 ∧ g.align = .held ∧ g.reindexed = true) ∧
    (f.align = .held → natural → d.close = some .natural ∧ g.index = written.preset ∧ g.align = .none) ∧
    (f.align = .held → ¬natural → d.close = none ∧ g.index = f.index + 1 ∧ g.align = .held) ∧
    (d.close.isSome = true → g.inForce = written ∧ g.reindexed = false) ∧
    (d.close = none → g.inForce = f.inForce) ∧
    g.cycleEnds = min 65535 (f.cycleEnds + 1) ∧
    g.realigned = decide (g.index ≠ if d.close.isSome then 0 else f.index + 1) ∧
    g.resampler = f.resampler ∧ g.tariff = f.tariff

/-- From an input sample to the entries of a cycle end. A point goes into the point area of every tap that collects
the tracker's cycle and into the half sum, checked at point 63 (R70, R92, R100); a resampler's step counts the sample
and makes a point at each boundary passed, point 127 ends the cycle, and point 0 of the next follows where its
boundary is passed (R92, R93). The cycle end (R105): the tracker's work, the resampler again from the reduced
accumulator at its period, then for the tracker, and for a tracker 1 following tracker 0, the index step, at a close
the tariff step, the applications and the entries in tap order, and block numbers at closes; then the next cycle
start. The entry of a tap that collected (R100, R106, R107, R109, R119, R120): a job while the cycle queue has room,
otherwise an estimate on a copy of the held spectrum, or with none a dropped entry, with CHANNEL_ABSENT where the
entry in force names an absent channel (R61); its registration (R131 to R135, R137) with the close test; the close
entry of a tap whose tracker stops (R103, R104); and each tap's staged entry, held spectrum (R119), block number and
collection (R100 to R104). DEDUCED: the tracker, tariff and snapshot of an entry at a tracker move
(notes/assumptions/11.md), the gap of a JOINING tap that is moved or disabled (notes/assumptions/12.md), and that the
mark kept with the cycle sets CHANNEL_ABSENT beside the entry in force (notes/assumptions/24.md). -/
def Obligations.EntryOfACollectedCycle : Prop :=
  (∀ (s : State) (u : TrackerId) (previous values : ChannelValues) (num inc : Nat) (p : Fin 128),
    let y (c : Channel) : Int := interpolate previous[c] values[c] num inc
    let m := (s.setFormer { s.former with
      taps := Vector.ofFn fun tap : TapId =>
        if s.former.taps[tap].collect = .collecting ∧ s.cycleSource (s.tapTracker tap) = some u then
          { s.former.taps[tap] with
            points := Vector.ofFn fun i : Fin 6 =>
              upd s.former.taps[tap].points[i] p (y (s.tapEntry tap).channels[i]) }
        else s.former.taps[tap] }).setTrackers (upd s.trackers u { s.trackers[u] with
          halfSum := s.trackers[u].halfSum + (y s.tables.settings[u].reference).natAbs ^ 2 })
    s.producePoint u previous values num inc p = if p = 63 then m.dipCheck u else m) ∧
  (∀ (s : State) (u : TrackerId) (previous values : ChannelValues) (filled : Bool) (r : Resampler),
    s.former.trackers[u].resampler = some r → r.Placed →
    let acc := r.acc + r.inc
    let point (k : State) (p : Nat) : State :=
      k.producePoint u previous values ((p + 1) * 65536 - r.acc) r.inc (Fin.ofNat 128 p)
    let stepped (n : Nat) : Resampler := ⟨acc, n, r.inc, r.samples + 1, r.period, r.filled || filled⟩
    let located (k : State) (x : Option Resampler) : State := k.setFormer { k.former with
      trackers := upd k.former.trackers u { k.former.trackers[u] with resampler := x } }
    (acc < 8388608 → s.resample u previous values filled =
      located ((List.range' r.point (acc / 65536 - r.point)).foldl point s) (some (stepped (acc / 65536)))) ∧
    (8388608 ≤ acc →
      let n := ((List.range' r.point (128 - r.point)).foldl point s).cycleEnd u (stepped 128) (acc - 8388608)
      (acc < 8388608 + 65536 → s.resample u previous values filled = n) ∧
      (8388608 + 65536 ≤ acc →
        let o := n.producePoint u previous values (8388608 + 65536 - r.acc) r.inc 0
        s.resample u previous values filled =
          located o (o.former.trackers[u].resampler.map fun x => { x with point := 1 })))) ∧
  (∀ (s : State) (u : TrackerId) (r : Resampler) (acc : Nat),
    let m := (s.trackerWork u).1
    let marks := (s.trackerWork u).2
    let period := m.trackers[u].lfix
    let n := (m.setFormer { m.former with
      trackers := upd m.former.trackers u { m.former.trackers[u] with
        resampler := some ⟨acc, 0, 2 ^ 39 / period, 0, period, false⟩ } }).formerPart
          r.samples r.period r.filled marks u
    let o := if u = 0 ∧ n.trackers[(1 : TrackerId)].state = .following
      then n.formerPart r.samples r.period r.filled marks 1 else n
    s.cycleEnd u r acc = o.setFormer { o.former with
      taps := Vector.ofFn fun tap : TapId =>
        let f := o.former.taps[tap]
        if o.cycleSource (o.tapTracker tap) = some u then
          match f.collect with
          | .inactive => f
          | .collecting => tapCleared .collecting f.unaccounted
          | .joining gap => tapCleared .collecting (f.unaccounted + gap.getD 0)
        else f }) ∧
  (∀ (s : State) (length period : Nat) (filled : Bool) (marks : Marks) (u : TrackerId),
    let f := s.former.trackers[u]
    let close := f.indexDecision.close
    let c : EndedCycle :=
      { tracker := u, index := f.index, length := length, period := period
        marks := { marks with following := marks.following || decide (s.trackers[u].state = .following) }
        filled := filled, realigned := f.realigned, close := close, tariff := f.tariff }
    let a : State := s.setFormer { s.former with
      trackers := upd s.former.trackers u (f.indexStep s.tables.settings[u].written) }
    let b : State := if close.isSome then a.tariffStep u else a
    let taps := (List.finRange 8).filter fun tap => decide (b.tapTracker tap = u)
    let entered := taps.foldl (fun (k : State) (tap : TapId) =>
      if b.former.taps[tap].collect = .collecting then
        k.buildEntry c tap b.former.taps[tap] (b.stagedCloses tap) (b.stagedMoves tap)
      else if b.former.taps[tap].collect ≠ .inactive ∧ b.stagedCloses tap = true then
        k.closeEntry u f.tariff tap (b.snapshot tap)
      else k) (b.applyAllStaged u)
    s.formerPart length period filled marks u = entered.setAccounts (Vector.ofFn fun tap : TapId =>
      if b.tapTracker tap = u ∧ b.former.taps[tap].collect ≠ .inactive ∧ (b.stagedCloses tap = true ∨
          (b.former.taps[tap].collect = .collecting ∧ close.isSome = true)) then
        { entered.accounts[tap] with blockNumber := entered.accounts[tap].blockNumber + 1 }
      else entered.accounts[tap])) ∧
  (∀ (s : State) (u : TrackerId), s.applyAllStaged u =
    ((List.finRange 8).filter fun tap => decide (s.tapTracker tap = u)).foldl State.applyStaged s) ∧
  (∀ (s : State) (tap : TapId), (s.tables.taps[tap].staged = none → s.applyStaged tap = s) ∧
    ∀ e : TapEntry, s.tables.taps[tap].staged = some e →
      let f := s.former.taps[tap]
      let t := s.applyStaged tap
      let next : Collect :=
        if f.collect = .inactive then
          (if e.enabled = true ∧ s.makesCycles e.tracker = true then .joining none else .inactive)
        else if e.enabled = false then .inactive
        else if e.tracker = s.tapTracker tap then f.collect
        else if s.makesCycles e.tracker = true then .joining (some 0) else .inactive
      SameOutside [.tables, .former, .engine] s t ∧
      t.tables = { s.tables with
        taps := upd s.tables.taps tap ⟨e, s.tables.taps[tap].generation + 1, none⟩ } ∧
      t.engine = (if s.stagedMoves tap = true then { s.engine with
        held := upd s.engine.held tap none, stale := upd s.engine.stale tap (s.outstandingJobs tap) } else s.engine) ∧
      t.former = { s.former with taps := upd s.former.taps tap (
        if f.collect ≠ .inactive ∧ next = f.collect then f
        else { tapCleared next 0 with
          unaccounted := if f.collect = .inactive then f.unaccounted else
            min (2 ^ 32 - 1) (f.unaccounted + (match f.collect with
              | .joining (some n) => n
              | .joining none | .inactive | .collecting => 0)) }) }) ∧
  (∀ (s : State) (u : TrackerId) (tariff : Tariff) (tap : TapId) (snapshot : Snapshot),
    s.closeEntry u tariff tap snapshot = (s.setFormer { s.former with
      taps := upd s.former.taps tap { s.former.taps[tap] with unaccounted := 0 } }).register (.close
        { tap := tap, tracker := u, block := s.accounts[tap].blockNumber, close := some .config
          unaccounted := s.former.taps[tap].unaccounted, tariff := tariff, snapshot := snapshot
          stamp := s.former.second.map fun n => ⟨n, s.former.trackers[u].cycleEnds⟩ })) ∧
  (∀ (s : State) (c : EndedCycle) (tap : TapId) (f : FormerTap) (config stale : Bool),
    let close := if config then some .config else c.close
    let slot := s.tables.taps[tap]
    let head : EntryHead :=
      { tap := tap, tracker := c.tracker, block := s.accounts[tap].blockNumber, close := close
        unaccounted := s.former.taps[tap].unaccounted, tariff := c.tariff
        snapshot := ⟨slot.entry.cls, slot.entry.hMax, slot.entry.accounting, slot.generation⟩
        stamp := (match close, s.former.second with
          | some _, some n => some ⟨n, s.former.trackers[c.tracker].cycleEnds⟩
          | _, _ => none) }
    let info : CycleInfo :=
      ⟨c.index, c.length, c.period, c.marks, c.filled, f.clips, f.absent ||
        decide (∃ ch ∈ slot.entry.channels.toList, channelCount s.agreement.profile ≤ ch.val), c.realigned⟩
    let t := s.buildEntry c tap f config stale
    SameOutside [.former, .engine, .accounts, .records, .ports, .latches] s t ∧
    t.former.taps[tap] = { s.former.taps[tap] with unaccounted := 0 } ∧
    t.accounts[tap].blockNumber = s.accounts[tap].blockNumber ∧
    (∀ other : TapId, other ≠ tap → t.accounts[other] = s.accounts[other]) ∧
    (s.engine.queue.length < 16 → t.engine = { s.engine with
        queue := s.engine.queue ++ [⟨head, info, f.points⟩]
        stale := if stale then upd s.engine.stale tap (s.engine.stale[tap] + 1) else s.engine.stale } ∧
      t.accounts[tap].registers = s.accounts[tap].registers ∧
      t.accounts[tap].lastCycle = s.accounts[tap].lastCycle) ∧
    (∃ m x, SameOutside [.former, .engine] s m ∧ t = m.register x ∧
      x = (if s.engine.queue.length < 16 then .job head info
        else match s.engine.held[tap] with
          | some copy => .estimate head info copy
          | none => .dropped head info)) ∧
    (16 ≤ s.engine.queue.length → t.engine = s.engine ∧
      t.accounts[tap].lastCycle = some ⟨c.tracker, s.accounts[tap].blockNumber, c.index⟩ ∧
      (s.engine.held[tap] = none → t.accounts[tap].registers = s.accounts[tap].registers) ∧
      (∀ copy, s.engine.held[tap] = some copy → ∀ i : Fin 48, t.accounts[tap].registers[i] =
        if slot.entry.accounting = true ∧ i.val / 12 = c.tariff.val then
          (s.accounts[tap].registers[i].addEnergy s.accounts[tap].constant
            (contributions s.tables.groups copy.active copy.reactive (min copy.h slot.entry.hMax) c.length)[i.val % 12]).1
        else s.accounts[tap].registers[i]))) ∧
  (∀ (s : State) (x : Entry), let e := x.head
    let a := s.accounts[e.tap]
    let t := s.register x
    a.accumulators.length ≤ 2 →
      SameOutside [.accounts, .records, .ports, .latches] s t ∧
      t.accounts[e.tap].firstAfterReset =
        (a.firstAfterReset && decide (∃ y ∈ a.accumulators, y.block = e.block)) ∧
      (let l := (openedFor a e).map fun y => if y.block = e.block then
          y.afterEntry x (match x with
            | .estimate _ c copy => quotients a s.tables.groups e c copy (min copy.h e.snapshot.hMax)
            | .job _ _ | .dropped _ _ | .close _ => fun _ => 0)
          else y
       BlocksClose s t e.tap (forcedBy a e) l a.late ∧
       t.ports = (s.received (closedBlocks s e.tap (forcedBy a e) l a.late)).ports)) ∧
  (∀ (s : State) (u : TrackerId) (tap : TapId), s.former.taps[tap].collect ≠ .inactive →
    let slot := s.tables.taps[tap]
    let t := s.stopTap u tap
    ∃ m, SameOutside [.former] s m ∧
      (let v := m.register (.close
        { tap := tap, tracker := u, block := s.accounts[tap].blockNumber, close := some .config
          unaccounted := min (2 ^ 32 - 1) (s.former.taps[tap].unaccounted + (match s.former.taps[tap].collect with
            | .joining (some n) => n
            | .joining none | .inactive | .collecting => 0))
          tariff := s.former.trackers[u].tariff
          snapshot := ⟨slot.entry.cls, slot.entry.hMax, slot.entry.accounting, slot.generation⟩
          stamp := s.former.second.map fun n => ⟨n, s.former.trackers[u].cycleEnds⟩ })
       SameOutside [.former, .accounts] v t ∧
       t.accounts = upd v.accounts tap { v.accounts[tap] with blockNumber := s.accounts[tap].blockNumber + 1 }) ∧
      t.former.taps[tap] = tapCleared .inactive 0 ∧ t.former.trackers = s.former.trackers) ∧
  (∀ (s : State) (u : TrackerId) (r : Resampler) (acc : Nat), s.trackers[u].state.isRunning = true →
    ∀ tap : TapId,
      (s.cycleSource (s.tapTracker tap) = some u → s.former.taps[tap].collect ≠ .inactive →
        TapAtCycleEnd s (s.cycleEnd u r acc) u tap) ∧
      (s.cycleSource (s.tapTracker tap) ≠ some u → TapKept s (s.cycleEnd u r acc) tap))

/-- SET TARIFF (R98): the pending record holds the tariff and the effective second, present when the body has 5 bytes,
with both applied flags clear, and the answer gives the tariffs in force and the record. At a block close of a running
tracker whose flag is clear (R99) an open record is applied, and removed once every tracker that is enabled and not
FOLLOWING has applied it; a record whose second has not come, and one that the tracker has applied, stay; a following
tracker takes tracker 0's tariff (R97). -/
def Obligations.TariffRequestAndStep : Prop :=
  (∀ (s : State) (r : Request) (x : Tariff), Serving s .setTariff r → byteAt r.body 0 = x.val →
    let effective := if r.body.length = 5 then some (BitVec.ofNat 32 (beNat r.body 1 4)) else none
    ∃ t, exec .setTariff s = .next t ∧ SameOutside [.former, .ports, .management] s t ∧
      t.former = { s.former with pendingTariff := some ⟨x, effective, #v[false, false]⟩ } ∧
      Answered s t r .done
        ([BitVec.ofNat 8 s.former.trackers[(0 : TrackerId)].tariff.val,
          BitVec.ofNat 8 s.former.trackers[(1 : TrackerId)].tariff.val, 1, BitVec.ofNat 8 x.val] ++
          (match effective with
           | none => [0]
           | some n => 1 :: toBE 4 n.toNat) ++ [0])) ∧
  (∀ (s : State) (u : TrackerId),
    (s.trackers[u].state = .following → s.tariffStep u = s.setFormer { s.former with
      trackers := upd s.former.trackers u
        { s.former.trackers[u] with tariff := s.former.trackers[(0 : TrackerId)].tariff } }) ∧
    (∀ p, s.trackers[u].state.isRunning = true → s.former.pendingTariff = some p → p.applied[u] = false →
      (p.effective = none ∨ ∃ e n, p.effective = some e ∧ s.former.second = some n ∧ e.toNat ≤ n.toNat) →
      (s.tariffStep u).former.trackers[u] = { s.former.trackers[u] with tariff := p.tariff } ∧
      (s.tariffStep u).former.trackers[1 - u] = s.former.trackers[1 - u] ∧
      (s.tariffStep u).former.taps = s.former.taps ∧ SameOutside [.former] s (s.tariffStep u) ∧
      (s.tables.settings[1 - u].enabled = true → s.trackers[1 - u].state ≠ .following → p.applied[1 - u] = false →
        (s.tariffStep u).former.pendingTariff = some { p with applied := upd p.applied u true }) ∧
      ((s.tables.settings[1 - u].enabled = false ∨ s.trackers[1 - u].state = .following ∨ p.applied[1 - u] = true) →
        (s.tariffStep u).former.pendingTariff = none)) ∧
    (s.trackers[u].state.isRunning = true → (s.former.pendingTariff = none ∨
      ∃ p, s.former.pendingTariff = some p ∧ p.applied[u] = true) → s.tariffStep u = s) ∧
    (∀ p e, s.trackers[u].state.isRunning = true → s.former.pendingTariff = some p → p.effective = some e →
      (∀ n, s.former.second = some n → n.toNat < e.toNat) → s.tariffStep u = s))

/-- A tracker makes cycles where it runs, and where it follows a tracker 0 that is not IDLE (R39, R77). WRITE TAP
whose fields are in range (R39, R40, R41, R103, R119): with the entry in force enabled and its tracker making cycles
the entry is staged, and the generation stays; otherwise it is applied at once, the generation advances, the staged
entry goes, the tap's points, clip count and CHANNEL_ABSENT mark are cleared (R100) and its pending samples kept, the
tap is JOINING where the entry is enabled on a tracker that makes cycles and INACTIVE otherwise, and a change of
tracker or channels makes the held spectrum absent and its outstanding jobs stale. Everything of the other taps and
trackers stays. -/
def Obligations.WriteTap : Prop :=
  (∀ (s : State) (u : TrackerId),
    (s.trackers[u].state.isRunning = true ↔ s.trackers[u].state ≠ .idle ∧ s.trackers[u].state ≠ .following) ∧
    s.cycleSource u = (if s.trackers[u].state = .idle then none
      else if s.trackers[u].state = .following then (if s.trackers[(0 : TrackerId)].state = .idle then none else some 0)
      else some u) ∧
    s.makesCycles u = (s.cycleSource u).isSome ∧
    ∀ tap : TapId, s.tapEntry tap = s.tables.taps[tap].entry ∧ s.tapTracker tap = s.tables.taps[tap].entry.tracker) ∧
  ∀ (s : State) (r : Request) (tap : TapId) (e : TapEntry), Serving s .writeTap r →
    readTapWrite r.body = some (tap, e) →
    let old := s.tables.taps[tap]
    ∃ t, exec .writeTap s = .next t ∧ t.tables = { s.tables with taps := t.tables.taps } ∧
      (∀ other : TapId, other ≠ tap → t.tables.taps[other] = s.tables.taps[other]) ∧
      (old.entry.enabled = true → s.makesCycles old.entry.tracker = true →
        SameOutside [.tables, .ports, .management] s t ∧ t.tables.taps[tap] = { old with staged := some e } ∧
        Answered s t r .done ([1] ++ toBE 2 old.generation.toNat)) ∧
      ((old.entry.enabled = false ∨ s.makesCycles old.entry.tracker = false) →
        SameOutside [.tables, .former, .engine, .ports, .management] s t ∧
        t.former = { s.former with taps := t.former.taps } ∧
        (∀ other : TapId, other ≠ tap → t.former.taps[other] = s.former.taps[other]) ∧
        t.former.taps[tap] = { tapCleared t.former.taps[tap].collect 0 with
          unaccounted := s.former.taps[tap].unaccounted } ∧
        t.tables.taps[tap] = ⟨e, old.generation + 1, none⟩ ∧
        Answered s t r .done ([0] ++ toBE 2 (old.generation + 1).toNat) ∧
        t.former.taps[tap].collect =
          (if e.enabled = true ∧ s.makesCycles e.tracker = true then .joining none else .inactive) ∧
        t.former.taps[tap].unaccounted = s.former.taps[tap].unaccounted ∧
        (e.tracker = old.entry.tracker → e.channels = old.entry.channels → t.engine = s.engine) ∧
        ((e.tracker ≠ old.entry.tracker ∨ e.channels ≠ old.entry.channels) →
          t.engine.held[tap] = none ∧ t.engine.stale[tap] = s.outstandingJobs tap ∧
          t.engine = { s.engine with held := t.engine.held, stale := t.engine.stale } ∧
          (∀ other : TapId, other ≠ tap → t.engine.held[other] = s.engine.held[other] ∧
            t.engine.stale[other] = s.engine.stale[other]) ∧
          t.engine.queue = s.engine.queue ∧ t.engine.flight = s.engine.flight ∧ t.engine.store = s.engine.store))

/-- Fields stand where the layouts place them, and written and read fields agree (R37, R38, R49, R173, R174, R176,
R177): the 30 bytes of a tap entry; a count as twelve decimal digits, two in a byte; fields big-endian, signed ones in
two's complement; the 31 bytes that a WRITE TAP of a tap entry needs are read back as that tap and that entry, for
every entry whose six channels differ and whose h_max is 1 to 50; the 9 bytes of the station settings are read back as
these; a packed-decimal count of twelve digits is read back; and a number that fits its big-endian field is read back
from it. -/
def Obligations.FieldsReadBack : Prop :=
  (∀ e : TapEntry, let b := e.encode
    b.length = 30 ∧ byteAt b 0 = (if e.enabled then 1 else 0) ∧ byteAt b 1 = e.tracker.val ∧
    (∀ i : Fin 6, byteAt b (2 + i.val) = e.channels[i].val) ∧ byteAt b 8 = e.cls.val ∧ byteAt b 9 = e.hMax % 256 ∧
    byteAt b 10 = (if e.accounting then 1 else 0) ∧ byteAt b 11 = 0 ∧
    (∀ i : Fin 4, beNat b (12 + 4 * i.val) 4 = e.limits[i].toNat) ∧ beNat b 28 2 = e.thdLimit.toNat) ∧
  (∀ (n : Nat) (i : Fin 6), byteAt (packedDecimal n) i.val =
    n / 10 ^ (11 - 2 * i.val) % 10 * 16 + n / 10 ^ (10 - 2 * i.val) % 10) ∧
  (∀ (b : Bytes) (i w : Nat), beNat b i 0 = 0 ∧ beNat b i (w + 1) = beNat b i w * 256 + byteAt b (i + w) ∧
    beInt b i w = (if 2 * beNat b i w < 256 ^ w then (beNat b i w : Int) else beNat b i w - (256 ^ w : Nat))) ∧
  (∀ (w : Nat) (z : Int), -(256 ^ w : Nat) ≤ 2 * z → 2 * z < (256 ^ w : Nat) →
    (intToBE w z).length = w ∧ beInt (intToBE w z) 0 w = z) ∧
  (∀ (tap : TapId) (e : TapEntry), e.channels.toList.Nodup → 1 ≤ e.hMax → e.hMax ≤ 50 →
    (BitVec.ofNat 8 tap.val :: e.encode).length = 31 ∧
    readTapWrite (BitVec.ofNat 8 tap.val :: e.encode) = some (tap, e)) ∧
  (∀ x : StationSettings, 1 ≤ x.silenceMs → x.silenceMs ≤ 255 →
    x.encode.length = 9 ∧ readStation x.encode = some x) ∧
  (∀ n : Nat, n ≤ 999999999999 → (packedDecimal n).length = 6 ∧ readPackedDecimal (packedDecimal n) 0 6 = some n) ∧
  (∀ w n : Nat, n < 256 ^ w → (toBE w n).length = w ∧ beNat (toBE w n) 0 w = n)

/-! ## The harmonic engine (chapter 7) -/

/-- The IDLE engine takes the oldest job of a queue that is not empty, for (1000 + 1536 h_max) periods of the reference
clock (R110). At the completion of the job in flight (R118, R119, R121, R126, R129, R130, R133, R134, R136, R45, R110)
the tap's spectrum store is written; the held spectrum is written, or a stale job counted off; the registers of the job's
tariff take the cycle's contributions unless its snapshot has accounting OFF; the last accounted cycle is the job's; the
open accumulator of the job's block takes the cycle, and complete blocks close; a job that finds its block no longer open
is late, also while other blocks of the tap are open, and reaches no accumulator; a waiting correction window is applied
and answered; the next job is taken. -/
def Obligations.EngineTakeAndCompletion : Prop :=
  (∀ (s : State) (j : Job) (rest : List Job), s.resetLine = false → s.engine.flight = none →
    s.engine.queue = j :: rest → ∃ t, exec .engineTake s = .next t ∧ SameOutside [.engine] s t ∧
      t.engine = { s.engine with queue := rest, flight := some ⟨j, 1000 + 1536 * j.head.snapshot.hMax⟩ }) ∧
  (∀ (s : State) (f : Flight), s.resetLine = false → s.engine.flight = some f →
    let head := f.job.head
    let h := head.snapshot.hMax
    let phasors := jobPhasors s.tables.corrections f.job
    let spectrum := spectrumOf h phasors
    ∃ t, exec .jobCompletion s = .next t ∧
      SameOutside [.engine, .accounts, .records, .tables, .ports, .latches, .management] s t ∧
      t.engine.store[head.tap] = some ⟨head.tracker, head.block, f.job.cycle.index, head.snapshot.generation,
        head.snapshot.cls, h, phasors⟩ ∧
      (0 < s.engine.stale[head.tap] → t.engine.held[head.tap] = s.engine.held[head.tap] ∧
        t.engine.stale[head.tap] = s.engine.stale[head.tap] - 1) ∧
      (s.engine.stale[head.tap] = 0 → t.engine.held[head.tap] = some spectrum ∧ t.engine.stale[head.tap] = 0) ∧
      (∀ other : TapId, other ≠ head.tap → t.engine.store[other] = s.engine.store[other] ∧
        t.engine.held[other] = s.engine.held[other] ∧ t.engine.stale[other] = s.engine.stale[other] ∧
        t.accounts[other] = s.accounts[other]) ∧
      (s.engine.queue = [] → t.engine.queue = [] ∧ t.engine.flight = none) ∧
      (∀ j rest, s.engine.queue = j :: rest → t.engine.queue = rest ∧
        t.engine.flight = some ⟨j, 1000 + 1536 * j.head.snapshot.hMax⟩) ∧
      (∀ i : Fin 48, t.accounts[head.tap].registers[i] =
        if head.snapshot.accounting = true ∧ i.val / 12 = head.tariff.val then
          (s.accounts[head.tap].registers[i].addEnergy s.accounts[head.tap].constant
            (contributions s.tables.groups spectrum.active spectrum.reactive h f.job.cycle.length)[i.val % 12]).1
        else s.accounts[head.tap].registers[i]) ∧
      t.accounts[head.tap].constant = s.accounts[head.tap].constant ∧
      t.accounts[head.tap].lastCycle = some ⟨head.tracker, head.block, f.job.cycle.index⟩ ∧
      (s.accounts[head.tap].accumulators = [] →
        t.accounts[head.tap].late = min 65535 (s.accounts[head.tap].late + 1) ∧ t.records = s.records) ∧
      (let a := s.accounts[head.tap]
       let l := a.accumulators.map fun y => if y.block = head.block then
         y.counted true head.snapshot.accounting f.job.cycle.period
           (quotients a s.tables.groups head f.job.cycle spectrum h) spectrum else y
       let tally := if ∃ y ∈ a.accumulators, y.block = head.block then a.late else min 65535 (a.late + 1)
       let received := (s.received (closedBlocks s head.tap [] l tally)).ports
       a.accumulators.length ≤ 2 → BlocksClose s t head.tap [] l tally ∧
         ((s.engine.window = none ∨ s.management.inService = none) → t.ports = received) ∧
         ∀ r, s.engine.window.isSome = true → s.management.inService = some r → t.ports =
           Ports.chooseB s.straps.station
             { received with answerSlot := some ⟨r.source, r.tag, r.kind, .done, []⟩ }) ∧
      t.engine.window = none ∧
      (s.engine.window = none → t.tables = s.tables ∧ t.management = s.management) ∧
      (∀ w r, s.engine.window = some w → s.management.inService = some r →
        t.tables = { s.tables with corrections := t.tables.corrections } ∧
        (∀ y : Fin 4, y ≠ w.table → t.tables.corrections[y] = s.tables.corrections[y]) ∧
        (w.entries.length ≤ 50 → ∀ k : Fin 50, let i := (k.val + 50 - w.start % 50) % 50
          t.tables.corrections[w.table][k] =
            (w.entries[i]?).getD s.tables.corrections[w.table][k]) ∧
        t.ports.answerSlot = some ⟨r.source, r.tag, r.kind, .done, []⟩ ∧ t.management.inService = none))

/-- The cosine table and the phasors (R112 to R115): C[m] is within half a unit of 32767 cos(2 pi m / 128); a phasor
is the rounded sums over the 128 points; a current phasor of class 1 to 4 is corrected by its entry, a voltage phasor
and one of class 0 is not; both parts are clamped to 1,048,575; and a job has them for k = 1 to h_max. -/
def Obligations.CosineTableAndPhasors : Prop :=
  (∀ m : Nat, m < 128 → |(cosine m : ℝ) - 32767 * Real.cos (2 * Real.pi * m / 128)| ≤ 1 / 2) ∧
  (∀ m : Nat, cosine m = cosine (m % 128)) ∧
  (∀ (points : Vector Int 128) (k : Nat), phasorOf points k =
    ⟨roundDiv (∑ n : Fin 128, points[n] * cosine (k * n.val)) (2 ^ 21),
     roundDiv (-∑ n : Fin 128, points[n] * cosine (k * n.val + 96)) (2 ^ 21)⟩) ∧
  (∀ (tables : Vector (Vector CorrectionEntry 50) 4) (j : Job) (c : Fin 6) (k : Fin 50),
    let p := phasorOf j.points[c] (k.val + 1)
    ((c.val < 3 ∨ j.head.snapshot.cls = 0) → jobPhasor tables j c (k.val + 1) = p.clamp) ∧
    (∀ x : Fin 4, 3 ≤ c.val → j.head.snapshot.cls.val = x.val + 1 → jobPhasor tables j c (k.val + 1) =
      Phasor.clamp
        ⟨roundDiv (p.re * tables[x][k].c.toInt - p.im * tables[x][k].s.toInt) 32768,
         roundDiv (p.re * tables[x][k].s.toInt + p.im * tables[x][k].c.toInt) 32768⟩)) ∧
  (∀ (tables : Vector (Vector CorrectionEntry 50) 4) (j : Job) (c : Fin 6), (jobPhasors tables j)[c] =
    (List.range' 1 j.head.snapshot.hMax).map fun k => jobPhasor tables j c k) ∧
  (∀ p : Phasor, p.clamp.re = max (-1048575) (min 1048575 p.re) ∧ p.clamp.im = max (-1048575) (min 1048575 p.im))

/-- R116 and R117: for each order k from 1 to h_max, D_k is the sum over the three phases of ReV ReI + ImV ImI, and
R_k that of ImV ReI - ReV ImI, exact and below 2^43; for each channel of a job, F is Re_1² + Im_1² and H the sum of
Re_k² + Im_k² for k = 2 to h_max, of the phasors of the job, corrected and clamped; with h_max 1, H is 0; both are
exact, F below 2^41 and H below 2^47. -/
def Obligations.EngineMagnitudes : Prop :=
  ∀ (tables : Vector (Vector CorrectionEntry 50) 4) (j : Job), 1 ≤ j.head.snapshot.hMax → j.head.snapshot.hMax ≤ 50 →
    let h := j.head.snapshot.hMax
    let x := spectrumOf h (jobPhasors tables j)
    (x.h = h ∧ x.active.length = h ∧ x.reactive.length = h ∧ ∀ k : Nat, 1 ≤ k → k ≤ h →
      let v (i : Fin 3) : Phasor := jobPhasor tables j (Fin.ofNat 6 i.val) k
      let w (i : Fin 3) : Phasor := jobPhasor tables j (Fin.ofNat 6 (i.val + 3)) k
      x.active.getD (k - 1) 0 = ∑ i : Fin 3, ((v i).re * (w i).re + (v i).im * (w i).im) ∧
      x.reactive.getD (k - 1) 0 = ∑ i : Fin 3, ((v i).im * (w i).re - (v i).re * (w i).im) ∧
      (x.active.getD (k - 1) 0).natAbs < 2 ^ 43 ∧ (x.reactive.getD (k - 1) 0).natAbs < 2 ^ 43) ∧
    ∀ c : Fin 6,
      (x.fundamental[c] : Int) = (jobPhasor tables j c 1).re ^ 2 + (jobPhasor tables j c 1).im ^ 2 ∧
      (x.harmonic[c] : Int) =
        ∑ k ∈ Finset.Icc 2 h, ((jobPhasor tables j c k).re ^ 2 + (jobPhasor tables j c k).im ^ 2) ∧
      (h = 1 → x.harmonic[c] = 0) ∧ x.fundamental[c] < 2 ^ 41 ∧ x.harmonic[c] < 2 ^ 47

/-! ## Energy accounting (chapter 8) -/

/-- R127 and R128: the twelve contributions of a cycle of sc input samples, in register order. The fundamental active
contribution goes to AI or AE by the sign of D_1, the reactive one to the quadrant of the two signs; the net harmonic
one to HI or HE by the sign of N; each group's is the weighted sum of the magnitudes |R_k|; with h_use 1 the harmonic
contributions are 0. -/
def Obligations.CycleContributions : Prop :=
  ∀ (groups : Vector GroupEntry 49) (active reactive : List Int) (h sc : Nat), 1 ≤ h → h ≤ 50 →
    let x := contributions groups active reactive h sc
    let d := active.getD 0 0
    let r := reactive.getD 0 0
    let weight (k : Nat) : Nat := (groups.toList.getD (k - 2) ⟨.none, 0⟩).weight.toNat
    let group (k : Nat) : Group := (groups.toList.getD (k - 2) ⟨.none, 0⟩).group
    let n : Int := ∑ k ∈ Finset.Icc 2 h, if group k = .none then 0 else (weight k : Int) * active.getD (k - 1) 0
    let sum (g : Group) : Nat :=
      ∑ k ∈ Finset.Icc 2 h, if group k = g then weight k * (reactive.getD (k - 1) 0).natAbs else 0
    x[0] = (if 0 ≤ d then 256 * d.natAbs * sc else 0) ∧ x[1] = (if d < 0 then 256 * d.natAbs * sc else 0) ∧
    x[2] = (if 0 ≤ d ∧ 0 ≤ r then 256 * r.natAbs * sc else 0) ∧
    x[3] = (if d < 0 ∧ 0 ≤ r then 256 * r.natAbs * sc else 0) ∧
    x[4] = (if d < 0 ∧ r < 0 then 256 * r.natAbs * sc else 0) ∧
    x[5] = (if 0 ≤ d ∧ r < 0 then 256 * r.natAbs * sc else 0) ∧
    x[6] = (if 0 ≤ n then 2 * n.natAbs * sc else 0) ∧ x[7] = (if n < 0 then 2 * n.natAbs * sc else 0) ∧
    x[8] = 2 * sc * sum .g0 ∧ x[9] = 2 * sc * sum .g1 ∧ x[10] = 2 * sc * sum .g2 ∧ x[11] = 2 * sc * sum .g3 ∧
    (h = 1 → x[6] = 0 ∧ x[7] = 0 ∧ x[8] = 0 ∧ x[9] = 0 ∧ x[10] = 0 ∧ x[11] = 0)

/-- A contribution added to a register at constant K (R129): the quotient, the new residue below K, the twelve-digit
count and the saturating rollover count; while the rollover count does not saturate, the value
(rollover x 10^12 + count) x K + residue rises by exactly the contribution. -/
def Obligations.EnergyIsConserved : Prop :=
  ∀ (g : Register) (k x : Nat), g.InRange k →
    let a := g.addEnergy k x
    a.2 = (g.residue + x) / k ∧ a.1.residue = (g.residue + x) % k ∧
    a.1.count = (g.count + a.2) % 10 ^ 12 ∧ a.1.rollover = min 15 (g.rollover + (g.count + a.2) / 10 ^ 12) ∧
    a.1.InRange k ∧
    (g.rollover + (g.count + a.2) / 10 ^ 12 ≤ 15 →
      (a.1.rollover * 10 ^ 12 + a.1.count) * k + a.1.residue =
        (g.rollover * 10 ^ 12 + g.count) * k + g.residue + x)

/-- R129: every register's residue is less than its tap's K, every count within twelve digits and every rollover count
within 15, and K stays within 1 to 2^56 - 1 (R125). -/
def Obligations.RegistersStayInRange : Prop :=
  ∀ s t : State, s.RegistersInRange → step s = .next t → t.RegistersInRange

/-- R133 and R135: every tap has at most two open block accumulators, and in each, and in every stored block record, the
cycle count equals the analysed count plus the estimated count. -/
def Obligations.BlocksStayCounted : Prop :=
  ∀ s t : State, s.BlocksCounted → step s = .next t → t.BlocksCounted

/-- The requests that change registers. SET CONSTANT (R138): every register of the tap converted at K_new, K replaced,
K_CHANGED set on the open accumulators, the 48 quotients answered. RESTORE (R139, R174, R176): WRONG_STATE when CLOSED,
otherwise the counts that the body holds as twelve decimal digits each, and its rollover counts, are added and the state
is CLOSED. CLEAR (R140): WRONG_STATE with accounting ON in the entry in
force, otherwise 48 registers at 0 and the state CLOSED. -/
def Obligations.RegisterRequests : Prop :=
  (∀ (s : State) (r : Request) (tap : TapId), Serving s .setConstant r → byteAt r.body 0 = tap.val →
    1 ≤ beNat r.body 1 8 → beNat r.body 1 8 < 2 ^ 56 →
    let k := beNat r.body 1 8
    ∃ t, exec .setConstant s = .next t ∧ SameOutside [.accounts, .ports, .management] s t ∧
      Answered s t r .done ([BitVec.ofNat 8 tap.val] ++ toBE 8 k ++
        (List.finRange 48).flatMap fun i => toBE 8 (s.accounts[tap].registers[i].residue / k)) ∧
      t.accounts[tap] = { s.accounts[tap] with
        constant := k
        registers := t.accounts[tap].registers
        accumulators := s.accounts[tap].accumulators.map fun a => { a with flags := { a.flags with kChanged := true } } } ∧
      (∀ i : Fin 48, t.accounts[tap].registers[i] =
        ⟨(s.accounts[tap].registers[i].count + s.accounts[tap].registers[i].residue / k) % 10 ^ 12,
         s.accounts[tap].registers[i].residue % k,
         min 15 (s.accounts[tap].registers[i].rollover +
          (s.accounts[tap].registers[i].count + s.accounts[tap].registers[i].residue / k) / 10 ^ 12)⟩) ∧
      (∀ other : TapId, other ≠ tap → t.accounts[other] = s.accounts[other])) ∧
  (∀ (s : State) (r : Request) (tap : TapId), Serving s .restore r → byteAt r.body 0 = tap.val →
    bodyInRange r.body .restore = true →
    let count (i : Fin 48) : Nat := ∑ d : Fin 6, (byteAt r.body (1 + 6 * i.val + d.val) / 16 * 10 +
      byteAt r.body (1 + 6 * i.val + d.val) % 16) * 100 ^ (5 - d.val)
    ∃ t, exec .restore s = .next t ∧
      (s.accounts[tap].restore = .closed → Answered s t r .wrongState [] ∧ SameOutside [.ports, .management] s t) ∧
      (s.accounts[tap].restore = .opened → Answered s t r .done [] ∧
        SameOutside [.accounts, .ports, .management] s t ∧
        t.accounts[tap] = { s.accounts[tap] with restore := .closed, registers := t.accounts[tap].registers } ∧
        (∀ i : Fin 48, t.accounts[tap].registers[i] =
          ⟨(s.accounts[tap].registers[i].count + count i) % 10 ^ 12, s.accounts[tap].registers[i].residue,
           min 15 (s.accounts[tap].registers[i].rollover + byteAt r.body (289 + i.val) +
            (s.accounts[tap].registers[i].count + count i) / 10 ^ 12)⟩) ∧
        ∀ other : TapId, other ≠ tap → t.accounts[other] = s.accounts[other])) ∧
  (∀ (s : State) (r : Request) (tap : TapId), Serving s .clear r → byteAt r.body 0 = tap.val →
    ∃ t, exec .clear s = .next t ∧
      (s.tables.taps[tap].entry.accounting = true →
        Answered s t r .wrongState [] ∧ SameOutside [.ports, .management] s t) ∧
      (s.tables.taps[tap].entry.accounting = false → Answered s t r .done [] ∧
        SameOutside [.accounts, .ports, .management] s t ∧
        t.accounts[tap] = { s.accounts[tap] with
          restore := .closed, registers := Vector.replicate 48 ⟨0, 0, 0⟩ } ∧
        ∀ other : TapId, other ≠ tap → t.accounts[other] = s.accounts[other]))

/-! ## Block records, limits and reports (chapter 9) -/

/-- R146: the mean frequency of a record with cycles is floor(R_s x 65,536,000 / Lavg) with Lavg = floor(period sum /
cycles), fits its four bytes where the periods lie in a band, and is 0 with no cycle. -/
def Obligations.MeanFrequencyOfABlock : Prop :=
  ∀ (c : ClosedBlock) (p : ProfileCode) (e : TapEntry) (d : Disposition),
    let f := (c.record p e d).meanFrequency
    (c.acc.cycles = 0 → f = 0) ∧
    (0 < c.acc.cycles → 6116693 * c.acc.cycles ≤ c.acc.periodSum → ∃ lavg : Nat,
      lavg * c.acc.cycles ≤ c.acc.periodSum ∧ c.acc.periodSum < (lavg + 1) * c.acc.cycles ∧
      f * lavg ≤ sampleRate p * 65536000 ∧ sampleRate p * 65536000 < (f + 1) * lavg ∧ f < 2 ^ 32)

/-- The limit states (R151): an exceeding record enters EXCEEDED and restarts the clear count; the third consecutive
evaluated record within the limit clears it; a record in which the kind is not evaluated changes nothing. A kind exceeds
when it is evaluated, its limit is not 0 and its value is above it; a group kind is evaluated when the block has cycles,
the THD kind when it has cycles, an h_max above 1 and a channel whose fundamental sum is above 0 (R147, R148). -/
def Obligations.LimitStatesMove : Prop :=
  (∀ n : Nat, (LimitState.mk false n).move true true = (⟨true, 0⟩, some .entered) ∧
    (LimitState.mk false n).move true false = (⟨false, 0⟩, none) ∧
    (LimitState.mk true n).move true true = (⟨true, 0⟩, none) ∧
    (n < 2 → (LimitState.mk true n).move true false = (⟨true, n + 1⟩, none)) ∧
    (2 ≤ n → (LimitState.mk true n).move true false = (⟨false, 0⟩, some .cleared))) ∧
  (∀ (l : LimitState) (x : Bool), l.move false x = (l, none)) ∧
  (∀ e : TapEntry, [LimitKind.g0, .g1, .g2, .g3].map e.limit = e.limits.toList.map (·.toNat) ∧
    e.limit .thd = e.thdLimit.toNat) ∧
  (∀ (c : ClosedBlock) (e : TapEntry) (k : LimitKind), c.exceeds e k = true ↔
    e.limit k ≠ 0 ∧ ∃ v, c.value k = some v ∧ e.limit k < v) ∧
  (∀ c : ClosedBlock, (∀ g : Fin 4, c.value ([.g0, .g1, .g2, .g3].getD g.val .g0) =
      if 0 < c.acc.cycles then some c.acc.increments[8 + g.val] else none) ∧
    ((c.value .thd).isSome = true ↔
      0 < c.acc.cycles ∧ 1 < c.acc.snapshot.hMax ∧ ∃ ch : Fin 6, c.acc.fundamentalSums[ch] ≠ 0) ∧
    (∀ v, c.value .thd = some v → 0 < c.acc.cycles ∧ 1 < c.acc.snapshot.hMax ∧
      (∃ ch : Fin 6, c.acc.fundamentalSums[ch] ≠ 0 ∧
        v = min 65535 (isqrt (10 ^ 8 * c.acc.harmonicSums[ch] / c.acc.fundamentalSums[ch]))) ∧
      ∀ ch : Fin 6, c.acc.fundamentalSums[ch] ≠ 0 →
        min 65535 (isqrt (10 ^ 8 * c.acc.harmonicSums[ch] / c.acc.fundamentalSums[ch])) ≤ v))

/-- The receipt of a closed block (R143, R149, R151 to R154). Its record has the fields of R144 to R148: of the
accumulator, its snapshot and the profile in force, outstanding only for FORCED, late and UNRESTORED as handed over,
the THD list with cycles and an h_max above 1, the exceed flags, and the time stamp of a close marker. The record is
the ring's newest, the oldest leaving a full ring; each limit state of the tap moves and each transition hands over
its LIMIT notice in the kind order; with auto-report ON the report takes the slot the marker names, or else the other,
with the skip count, which returns to 0, or is skipped and counted; with it OFF no report is built. A placed report
comes after one that the other slot holds (R14), and after the notices: port B makes its choice for the first notice,
and for the report where no notice started it (R11). The other queues and slots of the ports and the other latches are
kept. -/
def Obligations.ReceiptOfABlock : Prop :=
  (∀ (c : ClosedBlock) (p : ProfileCode) (e : TapEntry) (d : Disposition),
    let a := c.acc
    let listed := 0 < a.cycles ∧ 1 < a.snapshot.hMax
    c.record p e d =
      { tap := c.tap, tracker := a.tracker, block := a.block, tariff := a.tariff, profile := p
        generation := a.snapshot.generation, cls := a.snapshot.cls, hMax := a.snapshot.hMax, reason := c.reason
        cycles := a.cycles, analysed := a.analysed, estimated := a.estimated, dropped := a.dropped, late := c.late
        outstanding := if c.reason = .forced then c.outstanding else 0, unaccounted := a.unaccounted
        clipTotal := a.clipTotal
        flags := { a.flags with
          unrestored := c.unrestored
          noFundamental := decide (listed ∧ ∃ ch : Fin 6, a.fundamentalSums[ch] = 0) }
        meanFrequency := if a.cycles = 0 then 0 else sampleRate p * 65536000 / (a.periodSum / a.cycles)
        increments := a.increments
        thd := if listed then some (Vector.ofFn fun ch : Fin 6 => if a.fundamentalSums[ch] = 0 then 65535
          else min 65535 (isqrt (10 ^ 8 * a.harmonicSums[ch] / a.fundamentalSums[ch]))) else none
        exceed := ⟨c.exceeds e .g0, c.exceeds e .g1, c.exceeds e .g2, c.exceeds e .g3, c.exceeds e .thd⟩
        stamp := if a.close = none then none else a.stamp
        disposition := d }) ∧
  ∀ (s : State) (c : ClosedBlock),
    let t := s.receive c
    let e := s.tables.taps[c.tap].entry
    let auto := s.tables.settings[c.acc.tracker].autoReport
    let marker := s.records.nextSlot
    let moved (k : LimitKind) := (s.records.limits[c.tap].get k).move (c.value k).isSome (c.exceeds e k)
    let record (d : Disposition) := c.record s.agreement.profile e d
    let stored (d : Disposition) := t.records.ring =
      (if s.records.ring.length < 64 then s.records.ring else s.records.ring.tail) ++ [record d]
    let notices := [LimitKind.g0, .g1, .g2, .g3, .thd].filterMap fun k => (moved k).2.map fun o =>
      NoticeBody.limit c.tap k o c.acc.tariff c.acc.block ((c.value k).getD 0) (e.limit k)
    let noticed (q : Ports) := HandedOver s s.ports s.latches q t.latches notices
    let placed (k : Fin 2) := stored .placed ∧
      (∃ q, noticed q ∧ t.ports = s.chosenB { q with
        reportSlots := t.ports.reportSlots, firstReport := t.ports.firstReport }) ∧
      t.ports.reportSlots[k] = some ⟨s.tables.station.destination, s.records.skips[c.tap], record .placed⟩ ∧
      t.ports.reportSlots[1 - k] = s.ports.reportSlots[1 - k] ∧
      t.ports.firstReport = (if s.ports.reportSlots[1 - k].isSome then 1 - k else k) ∧ t.records.skips[c.tap] = 0 ∧
      t.records.nextSlot = 1 - k
    SameOutside [.records, .ports, .latches] s t ∧
    (∀ k, (t.records.limits[c.tap].get k) = (moved k).1) ∧
    (∀ tap : TapId, tap ≠ c.tap → t.records.limits[tap] = s.records.limits[tap] ∧
      t.records.skips[tap] = s.records.skips[tap]) ∧
    (auto = false → stored .off ∧ noticed t.ports ∧ t.records.skips = s.records.skips ∧
      t.ports.reportSlots = s.ports.reportSlots ∧
      t.ports.firstReport = s.ports.firstReport ∧ t.records.nextSlot = marker) ∧
    (auto = true → s.ports.reportSlots[marker] = none → placed marker) ∧
    (auto = true → s.ports.reportSlots[marker].isSome → s.ports.reportSlots[1 - marker] = none →
      placed (1 - marker)) ∧
    (auto = true → s.ports.reportSlots[marker].isSome → s.ports.reportSlots[1 - marker].isSome →
      stored .skipped ∧ noticed t.ports ∧ t.ports.reportSlots = s.ports.reportSlots ∧
      t.ports.firstReport = s.ports.firstReport ∧
      t.records.nextSlot = marker ∧
      t.records.skips[c.tap] = min 255 (s.records.skips[c.tap] + 1))

/-! ## Management requests (chapter 10) -/

/-- READ STATUS (R163, R164, R165, R177): the answer gives each latch as it stood before, then every latch is reset,
STREAM_INTACT to high exactly when the stream is RUNNING; and it gives the start cause, the straps, the agreement, the
stream state, each tracker with its pending handover, the pending tariff record, the latest second count and the
restore states. The codes are those of R174. -/
def Obligations.ReadStatus : Prop :=
  ((∀ p, [AgreementState.listen, .acknowledge, .pause, .agreed p, .noCommon].map (·.code) = [0, 1, 2, 3, 4]) ∧
    [AgreementMode.negotiate, .fixed].map (·.code) = [0, 1] ∧ [StreamState.waiting, .running].map (·.code) = [0, 1] ∧
    [StartCause.power, .pin, .request].map (·.code) = [0, 1, 2] ∧ [hertz .hz50, hertz .hz60] = [50, 60]) ∧
  ∀ (s : State) (r : Request), Serving s .readStatus r →
    ∃ t body, exec .readStatus s = .next t ∧ Answered s t r .done body ∧
      SameOutside [.latches, .ports, .management] s t ∧
      t.latches = ⟨false, false, false, false, false, false, false, false, decide (s.intake.stream = .running)⟩ ∧
      (let bits := BitVec.ofNat 16 (beNat body 0 2)
       bits.getLsbD 0 = s.latches.badCheck ∧ bits.getLsbD 1 = s.latches.forwardDropped ∧
       bits.getLsbD 2 = s.latches.relayDropped ∧ bits.getLsbD 3 = s.latches.gapFilled ∧
       bits.getLsbD 4 = s.latches.profileMismatch ∧ bits.getLsbD 5 = s.latches.clipped ∧
       bits.getLsbD 6 = s.latches.requestDropped ∧ bits.getLsbD 7 = s.latches.noticeDropped ∧
       bits.getLsbD 8 = s.latches.streamIntact) ∧
      byteAt body 2 = s.management.startCause.code ∧ byteAt body 3 = s.straps.station.toNat ∧
      byteAt body 4 = hertz s.straps.frequency ∧ byteAt body 5 = s.agreement.mode.code ∧
      body.getD 6 0 = s.agreement.acceptMask ∧ byteAt body 7 = s.agreement.fixedCode.val ∧
      byteAt body 8 = s.agreement.state.code ∧ byteAt body 9 = s.agreement.profile.val ∧
      byteAt body 10 = s.intake.stream.code ∧
      (let tracker (u : TrackerId) : Bytes :=
        [BitVec.ofNat 8 s.trackers[u].state.code] ++
          toBE 4 (if s.trackers[u].state = .idle then s.lnom else s.trackers[u].lfix) ++
          [BitVec.ofNat 8 s.tables.settings[u].reference.val, BitVec.ofNat 8 s.former.trackers[u].tariff.val] ++
          (match s.trackers[u].handover with
           | none => [0]
           | some h => [1, BitVec.ofNat 8 h.channel.val] ++ toBE 4 h.ls ++
               [if h.locked then 1 else 0, BitVec.ofNat 8 h.timeout])
       ∃ restores : Byte, body.drop 11 = tracker 0 ++ tracker 1 ++
          (match s.former.pendingTariff with
           | none => [0]
           | some p => [1, BitVec.ofNat 8 p.tariff.val] ++
               (match p.effective with
                | none => [0]
                | some n => 1 :: toBE 4 n.toNat) ++
               [((if p.applied[0] then 1 else 0) + (if p.applied[1] then 2 else 0) : Byte)]) ++
          (match s.former.second with
           | none => [0]
           | some n => 1 :: toBE 4 n.toNat) ++ [restores] ∧
        ∀ tap : TapId, restores.getLsbD tap.val = decide (s.accounts[tap].restore = .closed))

/-- The read requests (R42, R122, R141, R150): each answers from one instant and changes no other state. READ TAP gives
the entry in force, the generation and the staged entry; READ REGISTERS the counts and rollover counts of the selected
tariffs, K, the restore state, the last accounted cycle and the outstanding jobs; READ SPECTRUM the stored phasors, or
WRONG_STATE with none; READ RECORD the record, NOT_YET for a block still open or to come, GONE otherwise. -/
def Obligations.ReadRequests : Prop :=
  (∀ (s : State) (r : Request) (tap : TapId), Serving s .readTap r → byteAt r.body 0 = tap.val →
    ∃ t, exec .readTap s = .next t ∧ SameOutside [.ports, .management] s t ∧ Answered s t r .done
      ([BitVec.ofNat 8 tap.val] ++ toBE 2 s.tables.taps[tap].generation.toNat ++ s.tables.taps[tap].entry.encode ++
        (match s.tables.taps[tap].staged with
         | none => [0]
         | some e => 1 :: e.encode))) ∧
  (∀ (s : State) (r : Request) (tap : TapId), Serving s .readRegisters r → byteAt r.body 0 = tap.val →
    byteAt r.body 1 ≤ 4 →
    let x := s.accounts[tap]
    let group (tariff : Tariff) : Bytes :=
      ((List.finRange 12).flatMap fun i => packedDecimal
        x.registers[(Fin.ofNat 48 (12 * tariff.val + i.val) : Fin 48)].count) ++
        (List.finRange 12).map fun i => BitVec.ofNat 8
          x.registers[(Fin.ofNat 48 (12 * tariff.val + i.val) : Fin 48)].rollover
    let job (j : Job) : Nat := if j.head.tap = tap then 1 else 0
    ∃ t, exec .readRegisters s = .next t ∧ SameOutside [.ports, .management] s t ∧ Answered s t r .done
      ([BitVec.ofNat 8 tap.val, r.body.getD 1 0] ++
        ((List.finRange 4).flatMap fun tariff =>
          if byteAt r.body 1 = 4 ∨ byteAt r.body 1 = tariff.val then group tariff else []) ++
        toBE 8 x.constant ++ [if x.restore = .closed then 1 else 0] ++
        (match x.lastCycle with
         | none => [0]
         | some c => [1, BitVec.ofNat 8 c.tracker.val] ++ toBE 4 c.block.toNat ++ [BitVec.ofNat 8 c.index]) ++
        [BitVec.ofNat 8 ((s.engine.queue.map job).sum + (match s.engine.flight with
          | none => 0
          | some f => job f.job))])) ∧
  (∀ (s : State) (r : Request) (tap : TapId) (currents : Bool), Serving s .readSpectrum r →
    byteAt r.body 0 = tap.val → byteAt r.body 1 = (if currents then 1 else 0) →
    ∃ t, exec .readSpectrum s = .next t ∧ SameOutside [.ports, .management] s t ∧
      (s.engine.store[tap] = none → Answered s t r .wrongState []) ∧
      (∀ x, s.engine.store[tap] = some x → Answered s t r .done
        ([BitVec.ofNat 8 tap.val, if currents then 1 else 0, BitVec.ofNat 8 x.tracker.val] ++ toBE 4 x.block.toNat ++
          [BitVec.ofNat 8 x.index] ++ toBE 2 x.generation.toNat ++
          [BitVec.ofNat 8 x.cls.val, BitVec.ofNat 8 x.hMax] ++
          (if currents then x.phasors[3] ++ x.phasors[4] ++ x.phasors[5]
            else x.phasors[0] ++ x.phasors[1] ++ x.phasors[2]).flatMap fun p => intToBE 3 p.re ++ intToBE 3 p.im))) ∧
  (∀ (s : State) (r : Request) (tap : TapId), Serving s .readRecord r → byteAt r.body 0 = tap.val →
    let block := BitVec.ofNat 32 (beNat r.body 1 4)
    ∃ t, exec .readRecord s = .next t ∧ SameOutside [.ports, .management] s t ∧
      (∀ x rest, s.records.ring.filter (fun y => decide (y.tap = tap ∧ y.block = block)) = x :: rest →
        RecordLaidOut x.encode x ∧ Answered s t r .done x.encode) ∧
      ((∀ x ∈ s.records.ring, ¬(x.tap = tap ∧ x.block = block)) →
        (((∃ a ∈ s.accounts[tap].accumulators, a.block = block) ∨
            (block - s.accounts[tap].blockNumber).toNat < 2 ^ 31) → Answered s t r .notYet []) ∧
        ((∀ a ∈ s.accounts[tap].accumulators, a.block ≠ block) →
          2 ^ 31 ≤ (block - s.accounts[tap].blockNumber).toNat → Answered s t r .gone [])))

/-- The window writes (R34, R36, R44, R45, R161): entry j of the window goes to the j-th index from the start, with
the table's first index after its last, and every other entry stays. The groups G0 to G3 and NONE are written as 0 to
4 (R174). A WRITE CORRECTION with a job in flight waits in the engine, unanswered, with its request still in service.
-/
def Obligations.WindowWrites : Prop :=
  ((List.range 5).map readGroup = [some .g0, some .g1, some .g2, some .g3, some .none] ∧
    ∀ n, 5 ≤ n → readGroup n = none) ∧
  (∀ (s : State) (r : Request), Serving s .writeChannels r → byteAt r.body 0 < 48 → 1 ≤ byteAt r.body 1 →
    byteAt r.body 1 ≤ 48 →
    (∀ j, j < byteAt r.body 1 → -524288 ≤ beInt r.body (4 + 6 * j) 4 ∧ beInt r.body (4 + 6 * j) 4 ≤ 524287) →
    ∃ t, exec .writeChannels s = .next t ∧ SameOutside [.tables, .ports, .management] s t ∧ Answered s t r .done [] ∧
      t.tables = { s.tables with channels := t.tables.channels } ∧
      ∀ c : Channel, let j := (c.val + 48 - byteAt r.body 0) % 48
        t.tables.channels[c] = if j < byteAt r.body 1 then
          ⟨BitVec.ofNat 16 (beNat r.body (2 + 6 * j) 2), beInt r.body (4 + 6 * j) 4⟩ else s.tables.channels[c]) ∧
  (∀ (s : State) (r : Request), Serving s .writeGroups r → 2 ≤ byteAt r.body 0 → byteAt r.body 0 ≤ 50 →
    1 ≤ byteAt r.body 1 → byteAt r.body 1 ≤ 49 → (∀ j, j < byteAt r.body 1 → byteAt r.body (2 + 2 * j) ≤ 4) →
    ∃ t, exec .writeGroups s = .next t ∧ SameOutside [.tables, .ports, .management] s t ∧ Answered s t r .done [] ∧
      t.tables = { s.tables with groups := t.tables.groups } ∧
      ∀ k : Fin 49, let j := (k.val + 51 - byteAt r.body 0) % 49
        (j < byteAt r.body 1 → readGroup (byteAt r.body (2 + 2 * j)) = some t.tables.groups[k].group ∧
          t.tables.groups[k].weight = r.body.getD (3 + 2 * j) 0) ∧
        (byteAt r.body 1 ≤ j → t.tables.groups[k] = s.tables.groups[k])) ∧
  (∀ (s : State) (r : Request) (x : Fin 4), Serving s .writeCorrection r → s.engine.window = none →
    byteAt r.body 0 = x.val + 1 → 1 ≤ byteAt r.body 1 → byteAt r.body 1 ≤ 50 → 1 ≤ byteAt r.body 2 →
    byteAt r.body 2 ≤ 50 →
    let entry (j : Nat) : CorrectionEntry :=
      ⟨BitVec.ofNat 16 (beNat r.body (3 + 4 * j) 2), BitVec.ofNat 16 (beNat r.body (5 + 4 * j) 2)⟩
    ∃ t, exec .writeCorrection s = .next t ∧
      (s.engine.flight = none → SameOutside [.tables, .ports, .management] s t ∧ Answered s t r .done [] ∧
        t.tables = { s.tables with corrections := t.tables.corrections } ∧
        (∀ y : Fin 4, y ≠ x → t.tables.corrections[y] = s.tables.corrections[y]) ∧
        ∀ k : Fin 50, let j := (k.val + 51 - byteAt r.body 1) % 50
          t.tables.corrections[x][k] = if j < byteAt r.body 2 then entry j else s.tables.corrections[x][k]) ∧
      (s.engine.flight.isSome = true → t = s.setEngine { s.engine with
        window := some ⟨x, byteAt r.body 1 - 1, (List.range (byteAt r.body 2)).map entry⟩ }))

/-- SET STATION whose fields are in range (R167): the four fields written together and repeated in the answer. RESET
(R17, R161, R169): DONE is placed and the request reset waits for the end of that answer's transmission. -/
def Obligations.StationAndResetRequests : Prop :=
  (∀ (s : State) (r : Request) (forwarding notices : Bool), Serving s .setStation r →
    byteAt r.body 6 = (if forwarding then 1 else 0) → byteAt r.body 7 = (if notices then 1 else 0) →
    1 ≤ byteAt r.body 8 →
    ∃ t, exec .setStation s = .next t ∧ SameOutside [.tables, .ports, .management] s t ∧ Answered s t r .done r.body ∧
      t.tables = { s.tables with
        station := ⟨BitVec.ofNat 48 (beNat r.body 0 6), forwarding, notices, byteAt r.body 8⟩ }) ∧
  (∀ (s : State) (r : Request), Serving s .reset r →
    ∃ t, exec .reset s = .next t ∧ SameOutside [.ports, .management] s t ∧
      Answered (s.setManagement { s.management with resetWaiting := true }) t r .done [])

/-- The laws that every step keeps hold right after power-on, with the straps the model takes
(notes/assumptions/1.md): the capacities, the ranges of the registers, the counts of the blocks, the band of the
periods and the places of the resamplers; and that state is the one a POWER_ON with these straps gives, the queue and
the choice counter apart (notes/assumptions/8.md). -/
def Obligations.LawsHoldAtReset : Prop :=
  State.reset.WithinCapacity ∧ State.reset.RegistersInRange ∧ State.reset.BlocksCounted ∧ State.reset.TrackersSound ∧
    State.reset.ResamplersSound ∧
    ∀ s : State, exec (.powerOn 0 .hz50) s = .next ((State.reset.setChoices s.choices).setPending s.pending)
end

