-- ==== Sys2Proof/Laws/State.lean ====
section
/-! SUPPORT. One lemma for each field of the state under each replacement of one block, each true by rfl. -/

namespace Sys2Proof.Machine

set_option Elab.async false

open Sys2Proof

variable (s : State)

@[simp] theorem State.setStraps_straps (x : Straps) : (s.setStraps x).straps = x := rfl
@[simp] theorem State.setStraps_resetLine (x : Straps) : (s.setStraps x).resetLine = s.resetLine := rfl
@[simp] theorem State.setStraps_ports (x : Straps) : (s.setStraps x).ports = s.ports := rfl
@[simp] theorem State.setStraps_wire (x : Straps) : (s.setStraps x).wire = s.wire := rfl
@[simp] theorem State.setStraps_latches (x : Straps) : (s.setStraps x).latches = s.latches := rfl
@[simp] theorem State.setStraps_agreement (x : Straps) : (s.setStraps x).agreement = s.agreement := rfl
@[simp] theorem State.setStraps_tables (x : Straps) : (s.setStraps x).tables = s.tables := rfl
@[simp] theorem State.setStraps_intake (x : Straps) : (s.setStraps x).intake = s.intake := rfl
@[simp] theorem State.setStraps_trackers (x : Straps) : (s.setStraps x).trackers = s.trackers := rfl
@[simp] theorem State.setStraps_former (x : Straps) : (s.setStraps x).former = s.former := rfl
@[simp] theorem State.setStraps_engine (x : Straps) : (s.setStraps x).engine = s.engine := rfl
@[simp] theorem State.setStraps_accounts (x : Straps) : (s.setStraps x).accounts = s.accounts := rfl
@[simp] theorem State.setStraps_records (x : Straps) : (s.setStraps x).records = s.records := rfl
@[simp] theorem State.setStraps_management (x : Straps) : (s.setStraps x).management = s.management := rfl
@[simp] theorem State.setStraps_choices (x : Straps) : (s.setStraps x).choices = s.choices := rfl
@[simp] theorem State.setStraps_pending (x : Straps) : (s.setStraps x).pending = s.pending := rfl

@[simp] theorem State.setResetLine_straps (x : Bool) : (s.setResetLine x).straps = s.straps := rfl
@[simp] theorem State.setResetLine_resetLine (x : Bool) : (s.setResetLine x).resetLine = x := rfl
@[simp] theorem State.setResetLine_ports (x : Bool) : (s.setResetLine x).ports = s.ports := rfl
@[simp] theorem State.setResetLine_wire (x : Bool) : (s.setResetLine x).wire = s.wire := rfl
@[simp] theorem State.setResetLine_latches (x : Bool) : (s.setResetLine x).latches = s.latches := rfl
@[simp] theorem State.setResetLine_agreement (x : Bool) : (s.setResetLine x).agreement = s.agreement := rfl
@[simp] theorem State.setResetLine_tables (x : Bool) : (s.setResetLine x).tables = s.tables := rfl
@[simp] theorem State.setResetLine_intake (x : Bool) : (s.setResetLine x).intake = s.intake := rfl
@[simp] theorem State.setResetLine_trackers (x : Bool) : (s.setResetLine x).trackers = s.trackers := rfl
@[simp] theorem State.setResetLine_former (x : Bool) : (s.setResetLine x).former = s.former := rfl
@[simp] theorem State.setResetLine_engine (x : Bool) : (s.setResetLine x).engine = s.engine := rfl
@[simp] theorem State.setResetLine_accounts (x : Bool) : (s.setResetLine x).accounts = s.accounts := rfl
@[simp] theorem State.setResetLine_records (x : Bool) : (s.setResetLine x).records = s.records := rfl
@[simp] theorem State.setResetLine_management (x : Bool) : (s.setResetLine x).management = s.management := rfl
@[simp] theorem State.setResetLine_choices (x : Bool) : (s.setResetLine x).choices = s.choices := rfl
@[simp] theorem State.setResetLine_pending (x : Bool) : (s.setResetLine x).pending = s.pending := rfl

@[simp] theorem State.setPorts_straps (x : Ports) : (s.setPorts x).straps = s.straps := rfl
@[simp] theorem State.setPorts_resetLine (x : Ports) : (s.setPorts x).resetLine = s.resetLine := rfl
@[simp] theorem State.setPorts_ports (x : Ports) : (s.setPorts x).ports = x := rfl
@[simp] theorem State.setPorts_wire (x : Ports) : (s.setPorts x).wire = s.wire := rfl
@[simp] theorem State.setPorts_latches (x : Ports) : (s.setPorts x).latches = s.latches := rfl
@[simp] theorem State.setPorts_agreement (x : Ports) : (s.setPorts x).agreement = s.agreement := rfl
@[simp] theorem State.setPorts_tables (x : Ports) : (s.setPorts x).tables = s.tables := rfl
@[simp] theorem State.setPorts_intake (x : Ports) : (s.setPorts x).intake = s.intake := rfl
@[simp] theorem State.setPorts_trackers (x : Ports) : (s.setPorts x).trackers = s.trackers := rfl
@[simp] theorem State.setPorts_former (x : Ports) : (s.setPorts x).former = s.former := rfl
@[simp] theorem State.setPorts_engine (x : Ports) : (s.setPorts x).engine = s.engine := rfl
@[simp] theorem State.setPorts_accounts (x : Ports) : (s.setPorts x).accounts = s.accounts := rfl
@[simp] theorem State.setPorts_records (x : Ports) : (s.setPorts x).records = s.records := rfl
@[simp] theorem State.setPorts_management (x : Ports) : (s.setPorts x).management = s.management := rfl
@[simp] theorem State.setPorts_choices (x : Ports) : (s.setPorts x).choices = s.choices := rfl
@[simp] theorem State.setPorts_pending (x : Ports) : (s.setPorts x).pending = s.pending := rfl

@[simp] theorem State.setWire_straps (x : Wire) : (s.setWire x).straps = s.straps := rfl
@[simp] theorem State.setWire_resetLine (x : Wire) : (s.setWire x).resetLine = s.resetLine := rfl
@[simp] theorem State.setWire_ports (x : Wire) : (s.setWire x).ports = s.ports := rfl
@[simp] theorem State.setWire_wire (x : Wire) : (s.setWire x).wire = x := rfl
@[simp] theorem State.setWire_latches (x : Wire) : (s.setWire x).latches = s.latches := rfl
@[simp] theorem State.setWire_agreement (x : Wire) : (s.setWire x).agreement = s.agreement := rfl
@[simp] theorem State.setWire_tables (x : Wire) : (s.setWire x).tables = s.tables := rfl
@[simp] theorem State.setWire_intake (x : Wire) : (s.setWire x).intake = s.intake := rfl
@[simp] theorem State.setWire_trackers (x : Wire) : (s.setWire x).trackers = s.trackers := rfl
@[simp] theorem State.setWire_former (x : Wire) : (s.setWire x).former = s.former := rfl
@[simp] theorem State.setWire_engine (x : Wire) : (s.setWire x).engine = s.engine := rfl
@[simp] theorem State.setWire_accounts (x : Wire) : (s.setWire x).accounts = s.accounts := rfl
@[simp] theorem State.setWire_records (x : Wire) : (s.setWire x).records = s.records := rfl
@[simp] theorem State.setWire_management (x : Wire) : (s.setWire x).management = s.management := rfl
@[simp] theorem State.setWire_choices (x : Wire) : (s.setWire x).choices = s.choices := rfl
@[simp] theorem State.setWire_pending (x : Wire) : (s.setWire x).pending = s.pending := rfl

@[simp] theorem State.setLatches_straps (x : Latches) : (s.setLatches x).straps = s.straps := rfl
@[simp] theorem State.setLatches_resetLine (x : Latches) : (s.setLatches x).resetLine = s.resetLine := rfl
@[simp] theorem State.setLatches_ports (x : Latches) : (s.setLatches x).ports = s.ports := rfl
@[simp] theorem State.setLatches_wire (x : Latches) : (s.setLatches x).wire = s.wire := rfl
@[simp] theorem State.setLatches_latches (x : Latches) : (s.setLatches x).latches = x := rfl
@[simp] theorem State.setLatches_agreement (x : Latches) : (s.setLatches x).agreement = s.agreement := rfl
@[simp] theorem State.setLatches_tables (x : Latches) : (s.setLatches x).tables = s.tables := rfl
@[simp] theorem State.setLatches_intake (x : Latches) : (s.setLatches x).intake = s.intake := rfl
@[simp] theorem State.setLatches_trackers (x : Latches) : (s.setLatches x).trackers = s.trackers := rfl
@[simp] theorem State.setLatches_former (x : Latches) : (s.setLatches x).former = s.former := rfl
@[simp] theorem State.setLatches_engine (x : Latches) : (s.setLatches x).engine = s.engine := rfl
@[simp] theorem State.setLatches_accounts (x : Latches) : (s.setLatches x).accounts = s.accounts := rfl
@[simp] theorem State.setLatches_records (x : Latches) : (s.setLatches x).records = s.records := rfl
@[simp] theorem State.setLatches_management (x : Latches) : (s.setLatches x).management = s.management := rfl
@[simp] theorem State.setLatches_choices (x : Latches) : (s.setLatches x).choices = s.choices := rfl
@[simp] theorem State.setLatches_pending (x : Latches) : (s.setLatches x).pending = s.pending := rfl

@[simp] theorem State.setAgreement_straps (x : Agreement) : (s.setAgreement x).straps = s.straps := rfl
@[simp] theorem State.setAgreement_resetLine (x : Agreement) : (s.setAgreement x).resetLine = s.resetLine := rfl
@[simp] theorem State.setAgreement_ports (x : Agreement) : (s.setAgreement x).ports = s.ports := rfl
@[simp] theorem State.setAgreement_wire (x : Agreement) : (s.setAgreement x).wire = s.wire := rfl
@[simp] theorem State.setAgreement_latches (x : Agreement) : (s.setAgreement x).latches = s.latches := rfl
@[simp] theorem State.setAgreement_agreement (x : Agreement) : (s.setAgreement x).agreement = x := rfl
@[simp] theorem State.setAgreement_tables (x : Agreement) : (s.setAgreement x).tables = s.tables := rfl
@[simp] theorem State.setAgreement_intake (x : Agreement) : (s.setAgreement x).intake = s.intake := rfl
@[simp] theorem State.setAgreement_trackers (x : Agreement) : (s.setAgreement x).trackers = s.trackers := rfl
@[simp] theorem State.setAgreement_former (x : Agreement) : (s.setAgreement x).former = s.former := rfl
@[simp] theorem State.setAgreement_engine (x : Agreement) : (s.setAgreement x).engine = s.engine := rfl
@[simp] theorem State.setAgreement_accounts (x : Agreement) : (s.setAgreement x).accounts = s.accounts := rfl
@[simp] theorem State.setAgreement_records (x : Agreement) : (s.setAgreement x).records = s.records := rfl
@[simp] theorem State.setAgreement_management (x : Agreement) : (s.setAgreement x).management = s.management := rfl
@[simp] theorem State.setAgreement_choices (x : Agreement) : (s.setAgreement x).choices = s.choices := rfl
@[simp] theorem State.setAgreement_pending (x : Agreement) : (s.setAgreement x).pending = s.pending := rfl

@[simp] theorem State.setTables_straps (x : Tables) : (s.setTables x).straps = s.straps := rfl
@[simp] theorem State.setTables_resetLine (x : Tables) : (s.setTables x).resetLine = s.resetLine := rfl
@[simp] theorem State.setTables_ports (x : Tables) : (s.setTables x).ports = s.ports := rfl
@[simp] theorem State.setTables_wire (x : Tables) : (s.setTables x).wire = s.wire := rfl
@[simp] theorem State.setTables_latches (x : Tables) : (s.setTables x).latches = s.latches := rfl
@[simp] theorem State.setTables_agreement (x : Tables) : (s.setTables x).agreement = s.agreement := rfl
@[simp] theorem State.setTables_tables (x : Tables) : (s.setTables x).tables = x := rfl
@[simp] theorem State.setTables_intake (x : Tables) : (s.setTables x).intake = s.intake := rfl
@[simp] theorem State.setTables_trackers (x : Tables) : (s.setTables x).trackers = s.trackers := rfl
@[simp] theorem State.setTables_former (x : Tables) : (s.setTables x).former = s.former := rfl
@[simp] theorem State.setTables_engine (x : Tables) : (s.setTables x).engine = s.engine := rfl
@[simp] theorem State.setTables_accounts (x : Tables) : (s.setTables x).accounts = s.accounts := rfl
@[simp] theorem State.setTables_records (x : Tables) : (s.setTables x).records = s.records := rfl
@[simp] theorem State.setTables_management (x : Tables) : (s.setTables x).management = s.management := rfl
@[simp] theorem State.setTables_choices (x : Tables) : (s.setTables x).choices = s.choices := rfl
@[simp] theorem State.setTables_pending (x : Tables) : (s.setTables x).pending = s.pending := rfl

@[simp] theorem State.setIntake_straps (x : Intake) : (s.setIntake x).straps = s.straps := rfl
@[simp] theorem State.setIntake_resetLine (x : Intake) : (s.setIntake x).resetLine = s.resetLine := rfl
@[simp] theorem State.setIntake_ports (x : Intake) : (s.setIntake x).ports = s.ports := rfl
@[simp] theorem State.setIntake_wire (x : Intake) : (s.setIntake x).wire = s.wire := rfl
@[simp] theorem State.setIntake_latches (x : Intake) : (s.setIntake x).latches = s.latches := rfl
@[simp] theorem State.setIntake_agreement (x : Intake) : (s.setIntake x).agreement = s.agreement := rfl
@[simp] theorem State.setIntake_tables (x : Intake) : (s.setIntake x).tables = s.tables := rfl
@[simp] theorem State.setIntake_intake (x : Intake) : (s.setIntake x).intake = x := rfl
@[simp] theorem State.setIntake_trackers (x : Intake) : (s.setIntake x).trackers = s.trackers := rfl
@[simp] theorem State.setIntake_former (x : Intake) : (s.setIntake x).former = s.former := rfl
@[simp] theorem State.setIntake_engine (x : Intake) : (s.setIntake x).engine = s.engine := rfl
@[simp] theorem State.setIntake_accounts (x : Intake) : (s.setIntake x).accounts = s.accounts := rfl
@[simp] theorem State.setIntake_records (x : Intake) : (s.setIntake x).records = s.records := rfl
@[simp] theorem State.setIntake_management (x : Intake) : (s.setIntake x).management = s.management := rfl
@[simp] theorem State.setIntake_choices (x : Intake) : (s.setIntake x).choices = s.choices := rfl
@[simp] theorem State.setIntake_pending (x : Intake) : (s.setIntake x).pending = s.pending := rfl

@[simp] theorem State.setTrackers_straps (x : Vector Tracker 2) : (s.setTrackers x).straps = s.straps := rfl
@[simp] theorem State.setTrackers_resetLine (x : Vector Tracker 2) : (s.setTrackers x).resetLine = s.resetLine := rfl
@[simp] theorem State.setTrackers_ports (x : Vector Tracker 2) : (s.setTrackers x).ports = s.ports := rfl
@[simp] theorem State.setTrackers_wire (x : Vector Tracker 2) : (s.setTrackers x).wire = s.wire := rfl
@[simp] theorem State.setTrackers_latches (x : Vector Tracker 2) : (s.setTrackers x).latches = s.latches := rfl
@[simp] theorem State.setTrackers_agreement (x : Vector Tracker 2) : (s.setTrackers x).agreement = s.agreement := rfl
@[simp] theorem State.setTrackers_tables (x : Vector Tracker 2) : (s.setTrackers x).tables = s.tables := rfl
@[simp] theorem State.setTrackers_intake (x : Vector Tracker 2) : (s.setTrackers x).intake = s.intake := rfl
@[simp] theorem State.setTrackers_trackers (x : Vector Tracker 2) : (s.setTrackers x).trackers = x := rfl
@[simp] theorem State.setTrackers_former (x : Vector Tracker 2) : (s.setTrackers x).former = s.former := rfl
@[simp] theorem State.setTrackers_engine (x : Vector Tracker 2) : (s.setTrackers x).engine = s.engine := rfl
@[simp] theorem State.setTrackers_accounts (x : Vector Tracker 2) : (s.setTrackers x).accounts = s.accounts := rfl
@[simp] theorem State.setTrackers_records (x : Vector Tracker 2) : (s.setTrackers x).records = s.records := rfl
@[simp] theorem State.setTrackers_management (x : Vector Tracker 2) : (s.setTrackers x).management = s.management := rfl
@[simp] theorem State.setTrackers_choices (x : Vector Tracker 2) : (s.setTrackers x).choices = s.choices := rfl
@[simp] theorem State.setTrackers_pending (x : Vector Tracker 2) : (s.setTrackers x).pending = s.pending := rfl

@[simp] theorem State.setFormer_straps (x : Former) : (s.setFormer x).straps = s.straps := rfl
@[simp] theorem State.setFormer_resetLine (x : Former) : (s.setFormer x).resetLine = s.resetLine := rfl
@[simp] theorem State.setFormer_ports (x : Former) : (s.setFormer x).ports = s.ports := rfl
@[simp] theorem State.setFormer_wire (x : Former) : (s.setFormer x).wire = s.wire := rfl
@[simp] theorem State.setFormer_latches (x : Former) : (s.setFormer x).latches = s.latches := rfl
@[simp] theorem State.setFormer_agreement (x : Former) : (s.setFormer x).agreement = s.agreement := rfl
@[simp] theorem State.setFormer_tables (x : Former) : (s.setFormer x).tables = s.tables := rfl
@[simp] theorem State.setFormer_intake (x : Former) : (s.setFormer x).intake = s.intake := rfl
@[simp] theorem State.setFormer_trackers (x : Former) : (s.setFormer x).trackers = s.trackers := rfl
@[simp] theorem State.setFormer_former (x : Former) : (s.setFormer x).former = x := rfl
@[simp] theorem State.setFormer_engine (x : Former) : (s.setFormer x).engine = s.engine := rfl
@[simp] theorem State.setFormer_accounts (x : Former) : (s.setFormer x).accounts = s.accounts := rfl
@[simp] theorem State.setFormer_records (x : Former) : (s.setFormer x).records = s.records := rfl
@[simp] theorem State.setFormer_management (x : Former) : (s.setFormer x).management = s.management := rfl
@[simp] theorem State.setFormer_choices (x : Former) : (s.setFormer x).choices = s.choices := rfl
@[simp] theorem State.setFormer_pending (x : Former) : (s.setFormer x).pending = s.pending := rfl

@[simp] theorem State.setEngine_straps (x : Engine) : (s.setEngine x).straps = s.straps := rfl
@[simp] theorem State.setEngine_resetLine (x : Engine) : (s.setEngine x).resetLine = s.resetLine := rfl
@[simp] theorem State.setEngine_ports (x : Engine) : (s.setEngine x).ports = s.ports := rfl
@[simp] theorem State.setEngine_wire (x : Engine) : (s.setEngine x).wire = s.wire := rfl
@[simp] theorem State.setEngine_latches (x : Engine) : (s.setEngine x).latches = s.latches := rfl
@[simp] theorem State.setEngine_agreement (x : Engine) : (s.setEngine x).agreement = s.agreement := rfl
@[simp] theorem State.setEngine_tables (x : Engine) : (s.setEngine x).tables = s.tables := rfl
@[simp] theorem State.setEngine_intake (x : Engine) : (s.setEngine x).intake = s.intake := rfl
@[simp] theorem State.setEngine_trackers (x : Engine) : (s.setEngine x).trackers = s.trackers := rfl
@[simp] theorem State.setEngine_former (x : Engine) : (s.setEngine x).former = s.former := rfl
@[simp] theorem State.setEngine_engine (x : Engine) : (s.setEngine x).engine = x := rfl
@[simp] theorem State.setEngine_accounts (x : Engine) : (s.setEngine x).accounts = s.accounts := rfl
@[simp] theorem State.setEngine_records (x : Engine) : (s.setEngine x).records = s.records := rfl
@[simp] theorem State.setEngine_management (x : Engine) : (s.setEngine x).management = s.management := rfl
@[simp] theorem State.setEngine_choices (x : Engine) : (s.setEngine x).choices = s.choices := rfl
@[simp] theorem State.setEngine_pending (x : Engine) : (s.setEngine x).pending = s.pending := rfl

@[simp] theorem State.setAccounts_straps (x : Vector TapAccount 8) : (s.setAccounts x).straps = s.straps := rfl
@[simp] theorem State.setAccounts_resetLine (x : Vector TapAccount 8) : (s.setAccounts x).resetLine = s.resetLine := rfl
@[simp] theorem State.setAccounts_ports (x : Vector TapAccount 8) : (s.setAccounts x).ports = s.ports := rfl
@[simp] theorem State.setAccounts_wire (x : Vector TapAccount 8) : (s.setAccounts x).wire = s.wire := rfl
@[simp] theorem State.setAccounts_latches (x : Vector TapAccount 8) : (s.setAccounts x).latches = s.latches := rfl
@[simp] theorem State.setAccounts_agreement (x : Vector TapAccount 8) : (s.setAccounts x).agreement = s.agreement := rfl
@[simp] theorem State.setAccounts_tables (x : Vector TapAccount 8) : (s.setAccounts x).tables = s.tables := rfl
@[simp] theorem State.setAccounts_intake (x : Vector TapAccount 8) : (s.setAccounts x).intake = s.intake := rfl
@[simp] theorem State.setAccounts_trackers (x : Vector TapAccount 8) : (s.setAccounts x).trackers = s.trackers := rfl
@[simp] theorem State.setAccounts_former (x : Vector TapAccount 8) : (s.setAccounts x).former = s.former := rfl
@[simp] theorem State.setAccounts_engine (x : Vector TapAccount 8) : (s.setAccounts x).engine = s.engine := rfl
@[simp] theorem State.setAccounts_accounts (x : Vector TapAccount 8) : (s.setAccounts x).accounts = x := rfl
@[simp] theorem State.setAccounts_records (x : Vector TapAccount 8) : (s.setAccounts x).records = s.records := rfl
@[simp] theorem State.setAccounts_management (x : Vector TapAccount 8) : (s.setAccounts x).management = s.management := rfl
@[simp] theorem State.setAccounts_choices (x : Vector TapAccount 8) : (s.setAccounts x).choices = s.choices := rfl
@[simp] theorem State.setAccounts_pending (x : Vector TapAccount 8) : (s.setAccounts x).pending = s.pending := rfl

@[simp] theorem State.setRecords_straps (x : Records) : (s.setRecords x).straps = s.straps := rfl
@[simp] theorem State.setRecords_resetLine (x : Records) : (s.setRecords x).resetLine = s.resetLine := rfl
@[simp] theorem State.setRecords_ports (x : Records) : (s.setRecords x).ports = s.ports := rfl
@[simp] theorem State.setRecords_wire (x : Records) : (s.setRecords x).wire = s.wire := rfl
@[simp] theorem State.setRecords_latches (x : Records) : (s.setRecords x).latches = s.latches := rfl
@[simp] theorem State.setRecords_agreement (x : Records) : (s.setRecords x).agreement = s.agreement := rfl
@[simp] theorem State.setRecords_tables (x : Records) : (s.setRecords x).tables = s.tables := rfl
@[simp] theorem State.setRecords_intake (x : Records) : (s.setRecords x).intake = s.intake := rfl
@[simp] theorem State.setRecords_trackers (x : Records) : (s.setRecords x).trackers = s.trackers := rfl
@[simp] theorem State.setRecords_former (x : Records) : (s.setRecords x).former = s.former := rfl
@[simp] theorem State.setRecords_engine (x : Records) : (s.setRecords x).engine = s.engine := rfl
@[simp] theorem State.setRecords_accounts (x : Records) : (s.setRecords x).accounts = s.accounts := rfl
@[simp] theorem State.setRecords_records (x : Records) : (s.setRecords x).records = x := rfl
@[simp] theorem State.setRecords_management (x : Records) : (s.setRecords x).management = s.management := rfl
@[simp] theorem State.setRecords_choices (x : Records) : (s.setRecords x).choices = s.choices := rfl
@[simp] theorem State.setRecords_pending (x : Records) : (s.setRecords x).pending = s.pending := rfl

@[simp] theorem State.setManagement_straps (x : Management) : (s.setManagement x).straps = s.straps := rfl
@[simp] theorem State.setManagement_resetLine (x : Management) : (s.setManagement x).resetLine = s.resetLine := rfl
@[simp] theorem State.setManagement_ports (x : Management) : (s.setManagement x).ports = s.ports := rfl
@[simp] theorem State.setManagement_wire (x : Management) : (s.setManagement x).wire = s.wire := rfl
@[simp] theorem State.setManagement_latches (x : Management) : (s.setManagement x).latches = s.latches := rfl
@[simp] theorem State.setManagement_agreement (x : Management) : (s.setManagement x).agreement = s.agreement := rfl
@[simp] theorem State.setManagement_tables (x : Management) : (s.setManagement x).tables = s.tables := rfl
@[simp] theorem State.setManagement_intake (x : Management) : (s.setManagement x).intake = s.intake := rfl
@[simp] theorem State.setManagement_trackers (x : Management) : (s.setManagement x).trackers = s.trackers := rfl
@[simp] theorem State.setManagement_former (x : Management) : (s.setManagement x).former = s.former := rfl
@[simp] theorem State.setManagement_engine (x : Management) : (s.setManagement x).engine = s.engine := rfl
@[simp] theorem State.setManagement_accounts (x : Management) : (s.setManagement x).accounts = s.accounts := rfl
@[simp] theorem State.setManagement_records (x : Management) : (s.setManagement x).records = s.records := rfl
@[simp] theorem State.setManagement_management (x : Management) : (s.setManagement x).management = x := rfl
@[simp] theorem State.setManagement_choices (x : Management) : (s.setManagement x).choices = s.choices := rfl
@[simp] theorem State.setManagement_pending (x : Management) : (s.setManagement x).pending = s.pending := rfl

@[simp] theorem State.setChoices_straps (x : Nat) : (s.setChoices x).straps = s.straps := rfl
@[simp] theorem State.setChoices_resetLine (x : Nat) : (s.setChoices x).resetLine = s.resetLine := rfl
@[simp] theorem State.setChoices_ports (x : Nat) : (s.setChoices x).ports = s.ports := rfl
@[simp] theorem State.setChoices_wire (x : Nat) : (s.setChoices x).wire = s.wire := rfl
@[simp] theorem State.setChoices_latches (x : Nat) : (s.setChoices x).latches = s.latches := rfl
@[simp] theorem State.setChoices_agreement (x : Nat) : (s.setChoices x).agreement = s.agreement := rfl
@[simp] theorem State.setChoices_tables (x : Nat) : (s.setChoices x).tables = s.tables := rfl
@[simp] theorem State.setChoices_intake (x : Nat) : (s.setChoices x).intake = s.intake := rfl
@[simp] theorem State.setChoices_trackers (x : Nat) : (s.setChoices x).trackers = s.trackers := rfl
@[simp] theorem State.setChoices_former (x : Nat) : (s.setChoices x).former = s.former := rfl
@[simp] theorem State.setChoices_engine (x : Nat) : (s.setChoices x).engine = s.engine := rfl
@[simp] theorem State.setChoices_accounts (x : Nat) : (s.setChoices x).accounts = s.accounts := rfl
@[simp] theorem State.setChoices_records (x : Nat) : (s.setChoices x).records = s.records := rfl
@[simp] theorem State.setChoices_management (x : Nat) : (s.setChoices x).management = s.management := rfl
@[simp] theorem State.setChoices_choices (x : Nat) : (s.setChoices x).choices = x := rfl
@[simp] theorem State.setChoices_pending (x : Nat) : (s.setChoices x).pending = s.pending := rfl

@[simp] theorem State.setPending_straps (x : List Instr) : (s.setPending x).straps = s.straps := rfl
@[simp] theorem State.setPending_resetLine (x : List Instr) : (s.setPending x).resetLine = s.resetLine := rfl
@[simp] theorem State.setPending_ports (x : List Instr) : (s.setPending x).ports = s.ports := rfl
@[simp] theorem State.setPending_wire (x : List Instr) : (s.setPending x).wire = s.wire := rfl
@[simp] theorem State.setPending_latches (x : List Instr) : (s.setPending x).latches = s.latches := rfl
@[simp] theorem State.setPending_agreement (x : List Instr) : (s.setPending x).agreement = s.agreement := rfl
@[simp] theorem State.setPending_tables (x : List Instr) : (s.setPending x).tables = s.tables := rfl
@[simp] theorem State.setPending_intake (x : List Instr) : (s.setPending x).intake = s.intake := rfl
@[simp] theorem State.setPending_trackers (x : List Instr) : (s.setPending x).trackers = s.trackers := rfl
@[simp] theorem State.setPending_former (x : List Instr) : (s.setPending x).former = s.former := rfl
@[simp] theorem State.setPending_engine (x : List Instr) : (s.setPending x).engine = s.engine := rfl
@[simp] theorem State.setPending_accounts (x : List Instr) : (s.setPending x).accounts = s.accounts := rfl
@[simp] theorem State.setPending_records (x : List Instr) : (s.setPending x).records = s.records := rfl
@[simp] theorem State.setPending_management (x : List Instr) : (s.setPending x).management = s.management := rfl
@[simp] theorem State.setPending_choices (x : List Instr) : (s.setPending x).choices = s.choices := rfl
@[simp] theorem State.setPending_pending (x : List Instr) : (s.setPending x).pending = x := rfl

end Sys2Proof.Machine
end

