-- ==== Sys2Proof/Laws/Frame.lean ====
section
/-! SUPPORT. Frames compose: reflexivity, transitivity, weakening and folds of "every block outside this list is the
same", and the reading of one block from a frame. -/

namespace Sys2Proof.Machine

set_option Elab.async false

open Sys2Proof

theorem SameOutside.refl (l : List Block) (s : State) : SameOutside l s s := by
  intro b _; cases b <;> rfl

theorem SameOutside.trans {l : List Block} {s t u : State} (h : SameOutside l s t) (g : SameOutside l t u) :
    SameOutside l s u := by
  intro b hb
  have h1 := h b hb
  have h2 := g b hb
  cases b <;> exact Eq.trans h2 h1

theorem SameOutside.mono {l m : List Block} {s t : State} (h : SameOutside l s t) (hl : l.all (fun b => m.contains b) = true) :
    SameOutside m s t := by
  intro b hb
  refine h b fun hb' => hb ?_
  have := List.all_eq_true.mp hl b hb'
  simpa using this

/-- Two steps, each with a frame of its own, under a common frame. -/
theorem SameOutside.andThen {l m n : List Block} {s t u : State} (h : SameOutside l s t) (g : SameOutside m t u)
    (hl : l.all (fun b => n.contains b) = true := by decide) (hm : m.all (fun b => n.contains b) = true := by decide) :
    SameOutside n s u := (h.mono hl).trans (g.mono hm)

/-- A frame weakened to a longer list. -/
theorem SameOutside.wider {l m : List Block} {s t : State} (h : SameOutside l s t)
    (hl : l.all (fun b => m.contains b) = true := by decide) : SameOutside m s t := h.mono hl

theorem SameOutside.foldl {α : Type} {l : List Block} {f : State → α → State} (h : ∀ s x, SameOutside l s (f s x)) :
    ∀ (xs : List α) (s : State), SameOutside l s (xs.foldl f s)
  | [], s => .refl l s
  | x :: xs, s => (h s x).trans (SameOutside.foldl h xs (f s x))

/-- A frame through a conditional. -/
theorem SameOutside.ite {l : List Block} {s a b : State} {p : Prop} [Decidable p] (ha : SameOutside l s a)
    (hb : SameOutside l s b) : SameOutside l s (if p then a else b) := by
  split <;> assumption

/-- A frame says each block outside it by name. -/
theorem SameOutside.get {l : List Block} {s t : State} (h : SameOutside l s t) (b : Block)
    (hb : l.contains b = false := by decide) : b.same s t := h b (by simpa using hb)

/-! ## Replacing one block -/

variable (s : State)

theorem State.setStraps_frame (x : Straps) : SameOutside [.straps] s (s.setStraps x) := by
  intro b hb; cases b <;> first | rfl | simp at hb

theorem State.setResetLine_frame (x : Bool) : SameOutside [.resetLine] s (s.setResetLine x) := by
  intro b hb; cases b <;> first | rfl | simp at hb

theorem State.setPorts_frame (x : Ports) : SameOutside [.ports] s (s.setPorts x) := by
  intro b hb; cases b <;> first | rfl | simp at hb

theorem State.setWire_frame (x : Wire) : SameOutside [.wire] s (s.setWire x) := by
  intro b hb; cases b <;> first | rfl | simp at hb

theorem State.setLatches_frame (x : Latches) : SameOutside [.latches] s (s.setLatches x) := by
  intro b hb; cases b <;> first | rfl | simp at hb

theorem State.setAgreement_frame (x : Agreement) : SameOutside [.agreement] s (s.setAgreement x) := by
  intro b hb; cases b <;> first | rfl | simp at hb

theorem State.setTables_frame (x : Tables) : SameOutside [.tables] s (s.setTables x) := by
  intro b hb; cases b <;> first | rfl | simp at hb

theorem State.setIntake_frame (x : Intake) : SameOutside [.intake] s (s.setIntake x) := by
  intro b hb; cases b <;> first | rfl | simp at hb

theorem State.setTrackers_frame (x : Vector Tracker 2) : SameOutside [.trackers] s (s.setTrackers x) := by
  intro b hb; cases b <;> first | rfl | simp at hb

theorem State.setFormer_frame (x : Former) : SameOutside [.former] s (s.setFormer x) := by
  intro b hb; cases b <;> first | rfl | simp at hb

theorem State.setEngine_frame (x : Engine) : SameOutside [.engine] s (s.setEngine x) := by
  intro b hb; cases b <;> first | rfl | simp at hb

theorem State.setAccounts_frame (x : Vector TapAccount 8) : SameOutside [.accounts] s (s.setAccounts x) := by
  intro b hb; cases b <;> first | rfl | simp at hb

theorem State.setRecords_frame (x : Records) : SameOutside [.records] s (s.setRecords x) := by
  intro b hb; cases b <;> first | rfl | simp at hb

theorem State.setManagement_frame (x : Management) : SameOutside [.management] s (s.setManagement x) := by
  intro b hb; cases b <;> first | rfl | simp at hb

theorem State.setChoices_frame (x : Nat) : SameOutside [.choices] s (s.setChoices x) := by
  intro b hb; cases b <;> first | rfl | simp at hb

theorem State.setPending_frame (x : List Instr) : SameOutside [.pending] s (s.setPending x) := by
  intro b hb; cases b <;> first | rfl | simp at hb

/-! ## The shared operations (Machine/Ops.lean) -/

theorem State.chooseA_frame : SameOutside [.ports] s s.chooseA :=
  .ite (.refl _ s) (s.setPorts_frame _)

theorem State.chooseB_frame : SameOutside [.ports] s s.chooseB :=
  .ite (.refl _ s) (s.setPorts_frame _)

theorem State.placeOffer_frame (o : Offer) : SameOutside [.ports] s (s.placeOffer o) :=
  (s.setPorts_frame _).trans (State.chooseA_frame _)

theorem State.withdrawOffer_frame : SameOutside [.ports] s s.withdrawOffer :=
  s.setPorts_frame _

theorem State.enterForward_frame (f : Bytes) : SameOutside [.ports, .latches] s (s.enterForward f) :=
  .ite ((s.setPorts_frame _).andThen (State.chooseB_frame _)) (s.setLatches_frame _).wider

theorem State.enterRelay_frame (f : Bytes) : SameOutside [.ports, .latches] s (s.enterRelay f) :=
  .ite ((s.setPorts_frame _).andThen (State.chooseA_frame _)) (s.setLatches_frame _).wider

theorem State.handOver_frame (n : NoticeBody) : SameOutside [.ports, .latches] s (s.handOver n) :=
  .ite (.ite ((s.setPorts_frame _).andThen (State.chooseB_frame _)) (s.setLatches_frame _).wider) (.refl _ s)

theorem State.answer_frame (r : Request) (x : Result) (b : Bytes) : SameOutside [.ports, .management] s (s.answer r x b) :=
  ((s.setManagement_frame _).andThen (State.setPorts_frame _ _) (n := [.ports, .management])).andThen (State.chooseB_frame _)

theorem State.refuse_frame (r : Request) (x : Result) : SameOutside [.ports, .management] s (s.refuse r x) :=
  s.answer_frame r x []

theorem State.modTracker_frame (t : TrackerId) (f : Tracker → Tracker) : SameOutside [.trackers] s (s.modTracker t f) :=
  s.setTrackers_frame _

theorem State.modFormerTracker_frame (t : TrackerId) (f : FormerTracker → FormerTracker) : SameOutside [.former] s (s.modFormerTracker t f) :=
  s.setFormer_frame _

theorem State.modFormerTap_frame (tap : TapId) (f : FormerTap → FormerTap) : SameOutside [.former] s (s.modFormerTap tap f) :=
  s.setFormer_frame _

theorem State.mapFormerTaps_frame (f : TapId → FormerTap → FormerTap) : SameOutside [.former] s (s.mapFormerTaps f) :=
  s.setFormer_frame _

theorem State.modAccount_frame (tap : TapId) (f : TapAccount → TapAccount) : SameOutside [.accounts] s (s.modAccount tap f) :=
  s.setAccounts_frame _

theorem State.modTapSlot_frame (tap : TapId) (f : TapSlot → TapSlot) : SameOutside [.tables] s (s.modTapSlot tap f) :=
  s.setTables_frame _

theorem State.modSettings_frame (t : TrackerId) (f : TrackerSettings → TrackerSettings) : SameOutside [.tables] s (s.modSettings t f) :=
  s.setTables_frame _

end Sys2Proof.Machine
end

