-- ==== Sys2Proof/Laws/Units.lean ====
section
/-! SUPPORT. What each operation of the record unit, the accounting unit, the engine, the trackers and the cycle former
may change: one frame for each, composed from the frames of what it is built of. -/

namespace Sys2Proof.Machine

set_option Elab.async false

open Sys2Proof

variable (s : State)

/-! ## Record unit (Machine/Records.lean) -/

theorem State.storeRecord_frame (r : BlockRecord) : SameOutside [.records] s (s.storeRecord r) :=
  s.setRecords_frame _

theorem State.moveLimit_frame (c : ClosedBlock) (k : LimitKind) :
    SameOutside [.records, .ports, .latches] s (s.moveLimit c k) := by
  unfold State.moveLimit
  dsimp only
  split
  · exact (s.setRecords_frame _).wider
  · exact (s.setRecords_frame _).andThen (State.handOver_frame _ _)

theorem State.moveLimits_frame (c : ClosedBlock) : SameOutside [.records, .ports, .latches] s (s.moveLimits c) :=
  SameOutside.foldl (fun s k => s.moveLimit_frame c k) _ s

theorem State.placeReport_frame (r : BlockRecord) : SameOutside [.records, .ports] s (s.placeReport r) := by
  unfold State.placeReport
  split
  · exact .refl _ s
  · exact (s.setRecords_frame _).wider
  · split
    · exact .refl _ s
    · exact ((s.setPorts_frame _).andThen (State.setRecords_frame _ _) (n := [.records, .ports])).andThen
        (State.chooseB_frame _)

theorem State.receive_frame (c : ClosedBlock) : SameOutside [.records, .ports, .latches] s (s.receive c) :=
  ((s.storeRecord_frame _).andThen (State.moveLimits_frame _ c)
    (n := [.records, .ports, .latches])).andThen (State.placeReport_frame _ _)

/-! ## Accounting unit (Machine/Accounting.lean) -/

theorem State.closeOldest_frame (tap : TapId) (forced : Bool) :
    SameOutside [.accounts, .records, .ports, .latches] s (s.closeOldest tap forced) := by
  unfold State.closeOldest
  split
  · exact .refl _ s
  · exact (s.modAccount_frame tap _).andThen (State.receive_frame _ _)

theorem State.closeTest_frame (tap : TapId) :
    SameOutside [.accounts, .records, .ports, .latches] s (s.closeTest tap) := by
  unfold State.closeTest
  split
  · exact .refl _ s
  · exact .ite (s.closeOldest_frame tap false) (.refl _ s)

theorem State.closeComplete_frame (tap : TapId) :
    SameOutside [.accounts, .records, .ports, .latches] s (s.closeComplete tap) :=
  (s.closeTest_frame tap).trans (State.closeTest_frame _ tap)

theorem State.openFor_frame (e : EntryHead) :
    SameOutside [.accounts, .records, .ports, .latches] s (s.openFor e) := by
  unfold State.openFor
  refine .ite (.refl _ s) ?_
  refine SameOutside.trans ?_ (State.modAccount_frame _ _ _).wider
  exact .ite (.refl _ s) ((s.closeOldest_frame e.tap true).trans (State.closeTest_frame _ e.tap))

theorem State.registerKind_frame (x : Entry) : SameOutside [.accounts] s (s.registerKind x) := by
  cases x
  · exact s.modAccount_frame _ _
  · exact (s.modAccount_frame _ _).trans (State.modAccount_frame _ _ _)
  · exact s.modAccount_frame _ _
  · exact .refl _ s

theorem State.register_frame (x : Entry) :
    SameOutside [.accounts, .records, .ports, .latches] s (s.register x) :=
  (((s.openFor_frame x.head).andThen (State.modAccount_frame _ _ _)
    (n := [.accounts, .records, .ports, .latches])).andThen (State.registerKind_frame _ x)
    (n := [.accounts, .records, .ports, .latches])).trans (State.closeComplete_frame _ _)

theorem State.accountJob_frame (e : EntryHead) (c : CycleInfo) (x : Spectrum) :
    SameOutside [.accounts, .records, .ports, .latches] s (s.accountJob e c x) := by
  unfold State.accountJob
  dsimp only
  refine SameOutside.trans ?_ (State.closeComplete_frame _ _)
  refine (SameOutside.ite ?_ ?_ : SameOutside [.accounts] s _).wider
  · exact (s.modAccount_frame _ _).trans (State.modAccount_frame _ _ _)
  · exact s.modAccount_frame _ _

/-! ## Harmonic engine (Machine/Engine.lean) -/

theorem State.applyCorrection_frame (w : CorrectionWindow) : SameOutside [.tables] s (s.applyCorrection w) :=
  s.setTables_frame _

theorem State.applyWaitingWindow_frame :
    SameOutside [.tables, .engine, .ports, .management] s s.applyWaitingWindow := by
  unfold State.applyWaitingWindow
  split
  · exact .refl _ s
  · have h := (s.applyCorrection_frame ‹_›).andThen
      (State.setEngine_frame _ { s.engine with window := none }) (n := [.tables, .engine, .ports, .management])
    dsimp only
    split
    · exact h
    · exact h.andThen (State.answer_frame _ _ _ _)

theorem State.complete_frame (j : Job) :
    SameOutside [.tables, .engine, .accounts, .records, .ports, .latches, .management] s (s.complete j) :=
  (((s.setEngine_frame _).andThen (State.accountJob_frame _ _ _ _)
    (n := [.tables, .engine, .accounts, .records, .ports, .latches, .management])).andThen
    (State.applyWaitingWindow_frame _)
    (n := [.tables, .engine, .accounts, .records, .ports, .latches, .management])).andThen (State.setEngine_frame _ _)

theorem State.breakSpectrum_frame (tap : TapId) : SameOutside [.engine] s (s.breakSpectrum tap) :=
  s.setEngine_frame _

theorem State.appendJob_frame (j : Job) (stale : Bool) : SameOutside [.engine] s (s.appendJob j stale) :=
  s.setEngine_frame _

/-! ## Trackers (Machine/Trackers.lean) -/

theorem State.trackerNotice_frame (t : TrackerId) (p : TrackerState) (c : TrackerCause) :
    SameOutside [.ports, .latches] s (s.trackerNotice t p c) := s.handOver_frame _

theorem State.lose_frame (t : TrackerId) (c : TrackerCause) :
    SameOutside [.trackers, .ports, .latches] s (s.lose t c) :=
  (s.modTracker_frame t _).andThen (State.trackerNotice_frame _ _ _ _)

theorem State.acceptCrossing_frame (t : TrackerId) (m : Nat) :
    SameOutside [.trackers, .ports, .latches] s (s.acceptCrossing t m) := by
  unfold State.acceptCrossing
  dsimp only
  split
  · refine .ite ?_ (s.modTracker_frame t _).wider
    exact ((s.modTracker_frame t _).trans (State.modTracker_frame _ t _)).andThen (State.trackerNotice_frame _ _ _ _)
  · exact (s.modTracker_frame t _).wider
  · exact (s.modTracker_frame t _).andThen (State.trackerNotice_frame _ _ _ _)
  · exact (s.modTracker_frame t _).andThen (State.trackerNotice_frame _ _ _ _)
  · exact .refl _ s
  · exact .refl _ s

theorem State.rejectCrossing_frame (t : TrackerId) :
    SameOutside [.trackers, .ports, .latches] s (s.rejectCrossing t) := by
  unfold State.rejectCrossing
  refine .ite ?_ (.refl _ s)
  dsimp only
  exact .ite ((s.modTracker_frame t _).andThen (State.lose_frame _ t _)) (s.modTracker_frame t _).wider

theorem State.checkAge_frame (t : TrackerId) : SameOutside [.trackers, .ports, .latches] s (s.checkAge t) :=
  .ite (s.lose_frame t _) (.refl _ s)

theorem State.examineMain_frame (t : TrackerId) (start : Bool) (x : Int) :
    SameOutside [.trackers, .ports, .latches] s (s.examineMain t start x) := by
  unfold State.examineMain
  dsimp only
  refine SameOutside.trans ?_ (State.checkAge_frame _ t)
  split
  · exact (s.modTracker_frame t _).andThen (State.acceptCrossing_frame _ t _)
  · exact (s.modTracker_frame t _).andThen (State.rejectCrossing_frame _ t)
  · exact (s.modTracker_frame t _).wider
  · exact (s.modTracker_frame t _).wider
  · exact (s.modTracker_frame t _).wider

theorem State.examineShadow_frame (t : TrackerId) (start : Bool) (v : ChannelValues) :
    SameOutside [.trackers] s (s.examineShadow t start v) := s.modTracker_frame t _

theorem State.examine_frame (t : TrackerId) (start : Bool) (v : ChannelValues) :
    SameOutside [.trackers, .ports, .latches] s (s.examine t start v) :=
  (s.examineMain_frame t start _).andThen (State.examineShadow_frame _ t start v)

theorem State.dipCheck_frame (t : TrackerId) : SameOutside [.trackers, .ports, .latches] s (s.dipCheck t) := by
  unfold State.dipCheck
  dsimp only
  exact .ite ((s.modTracker_frame t _).andThen (State.lose_frame _ t _)) (s.modTracker_frame t _).wider

theorem State.handoverNotice_frame (t : TrackerId) (o : HandoverOutcome) (c : Channel) (h : Handover) :
    SameOutside [.ports, .latches] s (s.handoverNotice t o c h) := s.handOver_frame _

theorem State.commit_frame (t : TrackerId) (h : Handover) :
    SameOutside [.trackers, .tables, .ports, .latches] s (s.commit t h) := by
  unfold State.commit
  dsimp only
  have h2 := ((s.modSettings_frame t fun x => { x with reference := h.channel }).andThen
    (State.modTracker_frame _ t fun k => k.commit h) (n := [.trackers, .tables, .ports, .latches])).andThen
    (State.handoverNotice_frame _ t .committed s.tables.settings[t].reference h)
    (n := [.trackers, .tables, .ports, .latches])
  exact .ite h2 (h2.andThen (State.trackerNotice_frame _ _ _ _))

theorem State.dropHandover_frame (t : TrackerId) (o : HandoverOutcome) (h : Handover) :
    SameOutside [.trackers, .ports, .latches] s (s.dropHandover t o h) :=
  (s.modTracker_frame t _).andThen (State.handoverNotice_frame _ t o _ h)

theorem State.advanceTimeout_frame (t : TrackerId) (h : Handover) :
    SameOutside [.trackers, .ports, .latches] s (s.advanceTimeout t h) :=
  .ite (s.dropHandover_frame t _ _) (s.modTracker_frame t _).wider

theorem State.handoverStep_frame (t : TrackerId) :
    SameOutside [.trackers, .tables, .ports, .latches] s (s.handoverStep t) := by
  unfold State.handoverStep
  split
  · exact .refl _ s
  · exact .ite (s.commit_frame t _) (s.advanceTimeout_frame t _).wider

theorem State.advanceHoldover_frame (t : TrackerId) :
    SameOutside [.trackers, .ports, .latches] s (s.advanceHoldover t) :=
  .ite ((s.modTracker_frame t _).andThen (State.trackerNotice_frame _ _ _ _)) (s.modTracker_frame t _).wider

theorem State.trackerWork_frame (t : TrackerId) :
    SameOutside [.trackers, .tables, .ports, .latches] s (s.trackerWork t).1 := by
  unfold State.trackerWork
  dsimp only
  refine SameOutside.trans ?_ (State.modTracker_frame _ t _).wider
  have h := (s.dipCheck_frame t).andThen (State.handoverStep_frame _ t) (n := [.trackers, .tables, .ports, .latches])
  exact .ite (h.andThen (State.advanceHoldover_frame _ t)) h

theorem State.rateChange_frame (t : TrackerId) : SameOutside [.trackers, .ports, .latches] s (s.rateChange t) := by
  unfold State.rateChange
  split
  · exact .refl _ s
  · exact (s.modTracker_frame t _).wider
  · exact (s.modTracker_frame t _).wider
  all_goals exact (s.modTracker_frame t _).andThen (State.trackerNotice_frame _ _ _ _)

/-! ## Cycle former (Machine/Former.lean) -/

theorem State.cycleStart_frame (t : TrackerId) : SameOutside [.former] s (s.cycleStart t) := s.mapFormerTaps_frame _

theorem State.abandonCycle_frame (t : TrackerId) (n : Resampler → Nat) (w : TapId → Bool) :
    SameOutside [.former] s (s.abandonCycle t n w) := by
  unfold State.abandonCycle
  split
  · exact .refl _ s
  · exact s.mapFormerTaps_frame _

theorem State.startResampler_frame (t : TrackerId) : SameOutside [.former] s (s.startResampler t) :=
  (s.modFormerTracker_frame t _).trans (State.cycleStart_frame _ t)

theorem State.discardResampler_frame (t : TrackerId) : SameOutside [.former] s (s.discardResampler t) :=
  s.modFormerTracker_frame t _

theorem State.removeTariff_frame : SameOutside [.former] s s.removeTariff := by
  unfold State.removeTariff
  split
  · exact .refl _ s
  · exact .ite (s.setFormer_frame _) (.refl _ s)

theorem State.tariffStep_frame (u : TrackerId) : SameOutside [.former] s (s.tariffStep u) := by
  unfold State.tariffStep
  refine .ite (s.modFormerTracker_frame u _) ?_
  split
  · exact .refl _ s
  · refine .ite ?_ (.refl _ s)
    exact ((s.modFormerTracker_frame u _).trans (State.setFormer_frame _ _)).trans (State.removeTariff_frame _)

theorem State.applyEntry_frame (tap : TapId) (e : TapEntry) :
    SameOutside [.tables, .engine] s (s.applyEntry tap e) := by
  unfold State.applyEntry
  dsimp only
  exact .ite (s.modTapSlot_frame tap _).wider ((s.modTapSlot_frame tap _).andThen (State.breakSpectrum_frame _ tap))

theorem State.applyInactive_frame (tap : TapId) (e : TapEntry) :
    SameOutside [.tables, .engine, .former] s (s.applyInactive tap e) :=
  (s.applyEntry_frame tap e).andThen (State.modFormerTap_frame _ tap _)

theorem State.applyStaged_frame (tap : TapId) : SameOutside [.tables, .engine, .former] s (s.applyStaged tap) := by
  unfold State.applyStaged
  split
  · exact .refl _ s
  · split
    · exact s.applyInactive_frame tap _
    all_goals exact (s.applyEntry_frame tap _).andThen (State.modFormerTap_frame _ tap _)

theorem State.applyAllStaged_frame (u : TrackerId) :
    SameOutside [.tables, .engine, .former] s (s.applyAllStaged u) :=
  SameOutside.foldl (fun s' tap => .ite (s'.applyStaged_frame tap) (.refl _ s')) _ s

theorem State.takeUnaccounted_frame (tap : TapId) : SameOutside [.former] s (s.takeUnaccounted tap) :=
  s.modFormerTap_frame tap _

/-- What building entries may change. -/
abbrev entryBlocks : List Block := [.former, .engine, .accounts, .records, .ports, .latches]

theorem State.buildEntry_frame (c : EndedCycle) (tap : TapId) (f : FormerTap) (config stale : Bool) :
    SameOutside entryBlocks s (s.buildEntry c tap f config stale) := by
  unfold State.buildEntry
  dsimp only
  refine .ite ?_ ?_
  · exact ((s.takeUnaccounted_frame tap).andThen (State.appendJob_frame _ _ _) (n := entryBlocks)).andThen
      (State.register_frame _ _)
  · split <;> exact (s.takeUnaccounted_frame tap).andThen (State.register_frame _ _)

theorem State.closeEntry_frame (u : TrackerId) (tariff : Tariff) (tap : TapId) (x : Snapshot) :
    SameOutside entryBlocks s (s.closeEntry u tariff tap x) :=
  (s.takeUnaccounted_frame tap).andThen (State.register_frame _ _)

theorem State.advanceBlock_frame (tap : TapId) : SameOutside [.accounts] s (s.advanceBlock tap) :=
  s.modAccount_frame tap _

theorem State.entryOf_frame (b : State) (c : EndedCycle) (tap : TapId) :
    SameOutside entryBlocks s (s.entryOf b c tap) := by
  unfold State.entryOf
  refine .ite ?_ (.refl _ s)
  split
  · exact s.buildEntry_frame c tap _ _ _
  · exact .ite (s.closeEntry_frame _ _ _ _) (.refl _ s)
  · exact .refl _ s

theorem State.buildEntries_frame (b : State) (c : EndedCycle) : SameOutside entryBlocks s (s.buildEntries b c) :=
  (SameOutside.foldl (fun s' tap => s'.entryOf_frame b c tap) _ s).trans
    (SameOutside.foldl (fun s' tap => .ite (s'.advanceBlock_frame tap).wider (.refl _ s')) _ _)

/-- What the cycle former's work at a cycle end may change. -/
abbrev formerBlocks : List Block := [.tables, .former, .engine, .accounts, .records, .ports, .latches]

theorem State.formerPart_frame (length period : Nat) (filled : Bool) (m : Marks) (u : TrackerId) :
    SameOutside formerBlocks s (s.formerPart length period filled m u) := by
  unfold State.formerPart
  dsimp only
  refine SameOutside.trans ?_ (State.buildEntries_frame _ _ _).wider
  refine SameOutside.trans ?_ (State.applyAllStaged_frame _ u).wider
  exact .ite ((s.modFormerTracker_frame u _).andThen (State.tariffStep_frame _ u)) (s.modFormerTracker_frame u _).wider

/-- What a cycle end may change. -/
abbrev cycleBlocks : List Block := .trackers :: formerBlocks

theorem State.cycleEnd_frame (t : TrackerId) (r : Resampler) (acc : Nat) :
    SameOutside cycleBlocks s (s.cycleEnd t r acc) := by
  unfold State.cycleEnd
  dsimp only
  refine SameOutside.trans ?_ (State.cycleStart_frame _ t).wider
  have h (f : FormerTracker → FormerTracker) := ((s.trackerWork_frame t).andThen (State.modFormerTracker_frame _ t f)
    (n := cycleBlocks)).andThen (State.formerPart_frame _ r.samples r.period r.filled (s.trackerWork t).2 t)
    (n := cycleBlocks)
  split
  · exact (h _).andThen (State.formerPart_frame _ _ _ _ _ _)
  · exact h _

theorem State.producePoint_frame (t : TrackerId) (p v : ChannelValues) (num inc : Nat) (i : Fin 128) :
    SameOutside [.trackers, .former, .ports, .latches] s (s.producePoint t p v num inc i) := by
  unfold State.producePoint
  dsimp only
  have h (f : TapId → FormerTap → FormerTap) (g : Tracker → Tracker) := (s.mapFormerTaps_frame f).andThen
    (State.modTracker_frame _ t g) (n := [.trackers, .former, .ports, .latches])
  split
  · exact (h _ _).andThen (State.dipCheck_frame _ t)
  · exact h _ _

theorem State.producePoints_frame (t : TrackerId) (p v : ChannelValues) (r : Resampler) (fuel : Nat) :
    ∀ (s : State) (i : Nat), SameOutside [.trackers, .former, .ports, .latches] s (s.producePoints t p v r fuel i).1 := by
  induction fuel with
  | zero => intro s i; exact .refl _ s
  | succ n ih =>
    intro s i
    unfold State.producePoints
    split
    · split
      · exact (s.producePoint_frame t p v _ _ _).trans (ih _ _)
      · exact .refl _ s
    · exact .refl _ s

theorem State.resample_frame (t : TrackerId) (p v : ChannelValues) (filled : Bool) :
    SameOutside cycleBlocks s (s.resample t p v filled) := by
  unfold State.resample
  split
  · exact .refl _ s
  · rename_i r _
    dsimp only
    have h := State.producePoints_frame t p v r 128 s r.point
    split
    · exact h.andThen (State.modFormerTracker_frame _ t _)
    · have h2 (x : Resampler) (acc : Nat) := h.andThen (State.cycleEnd_frame _ t x acc) (n := cycleBlocks)
      split
      · exact h2 _ _
      · exact (h2 _ _).andThen ((State.producePoint_frame _ t p v _ _ _).andThen (State.modFormerTracker_frame _ t _)
          (n := [.trackers, .former, .ports, .latches]))

theorem State.markArrival_frame (n : BitVec 32) : SameOutside [.former] s (s.markArrival n) := s.setFormer_frame _

theorem State.clearBlockIndex_frame (u : TrackerId) (b : Bool) : SameOutside [.former] s (s.clearBlockIndex u b) :=
  s.modFormerTracker_frame u _

theorem State.startCycles_frame (u : TrackerId) : SameOutside [.former] s (s.startCycles u) :=
  (s.clearBlockIndex_frame u true).trans (State.mapFormerTaps_frame _ _)

theorem State.stopTap_frame (u : TrackerId) (tap : TapId) : SameOutside entryBlocks s (s.stopTap u tap) := by
  unfold State.stopTap
  split
  · exact .refl _ s
  all_goals
    dsimp only
    refine SameOutside.trans ?_ (State.modFormerTap_frame _ tap _).wider
    refine SameOutside.trans ?_ (State.advanceBlock_frame _ tap).wider
    exact (s.modFormerTap_frame tap _).andThen (State.closeEntry_frame _ _ _ _ _)

theorem State.stopCycles_frame (w : TrackerId → Bool) : SameOutside formerBlocks s (s.stopCycles w) := by
  unfold State.stopCycles
  dsimp only
  have h1 := SameOutside.foldl (l := formerBlocks)
    (f := fun s' tap => if w (s.tapTracker tap) then s'.stopTap (s.tapTracker tap) tap else s')
    (fun s' tap => .ite (s'.stopTap_frame _ tap).wider (.refl _ s')) allTaps s
  have h2 := SameOutside.foldl (l := formerBlocks) (f := fun s' u => if w u then s'.clearBlockIndex u false else s')
    (fun s' u => .ite (s'.clearBlockIndex_frame u false).wider (.refl _ s')) ([0, 1] : List TrackerId)
  have h3 := SameOutside.foldl (l := formerBlocks)
    (f := fun s' tap => if w (s.tapTracker tap) then s'.applyStaged tap else s')
    (fun s' tap => .ite (s'.applyStaged_frame tap).wider (.refl _ s')) allTaps
  exact (h1.trans (h2 _)).trans (h3 _)

theorem State.breakTracker_frame (t : TrackerId) : SameOutside [.trackers, .former] s (s.breakTracker t) :=
  .ite (((s.abandonCycle_frame t _ _).andThen (State.modTracker_frame _ t _) (n := [.trackers, .former])).andThen
    (State.startResampler_frame _ t)) (.refl _ s)

theorem State.breakCycles_frame : SameOutside [.trackers, .former] s s.breakCycles :=
  (s.breakTracker_frame 0).trans (State.breakTracker_frame _ 1)

theorem State.changeRate_frame : SameOutside [.trackers, .former, .ports, .latches] s s.changeRate :=
  ((s.rateChange_frame 0).trans (State.rateChange_frame _ 1)).andThen
    (SameOutside.foldl (fun s' t => s'.modFormerTracker_frame t _) _ _)

end Sys2Proof.Machine
end

