-- ==== Sys2Proof/Laws/Delivery.lean ====
section
/-! SUPPORT. What each operation of the intake, the agreement unit and the management unit may change: one frame for
each. The resets, which change almost every block, have no frame here. -/

namespace Sys2Proof.Machine

set_option Elab.async false

open Sys2Proof

variable (s : State)

/-! ## Intake (Machine/Intake.lean) -/

/-- What handing on input samples may change. -/
abbrev sampleBlocks : List Block := .intake :: .choices :: cycleBlocks

theorem State.countClips_frame (x : Vector Bool 48) : SameOutside [.latches, .former] s (s.countClips x) := by
  unfold State.countClips
  dsimp only
  refine SameOutside.trans ?_ (State.mapFormerTaps_frame _ _).wider
  exact .ite (s.setLatches_frame _).wider (.refl _ s)

theorem State.sampleTaps_frame : SameOutside [.former] s s.sampleTaps := s.mapFormerTaps_frame _

theorem State.trackerSample_frame (p v : ChannelValues) (filled start : Bool) (t : TrackerId) :
    SameOutside cycleBlocks s (s.trackerSample p v filled start t) :=
  .ite ((s.examine_frame t start v).andThen (State.resample_frame _ t p v filled)) (.refl _ s)

theorem State.advanceChoice_frame : SameOutside [.choices] s s.advanceChoice :=
  .ite (s.setChoices_frame _) (.refl _ s)

theorem State.handOn_frame (v : ChannelValues) (filled start : Bool) :
    SameOutside sampleBlocks s (s.handOn v filled start) := by
  unfold State.handOn
  dsimp only
  refine SameOutside.trans ?_
    (SameOutside.foldl (fun s' t => s'.trackerSample_frame _ v filled start t) _ _).wider
  exact ((s.setIntake_frame _).andThen (State.sampleTaps_frame _) (n := sampleBlocks)).andThen
    (State.advanceChoice_frame _)

theorem State.fill_frame (g : Nat) : ∀ s : State, SameOutside sampleBlocks s (State.fill g s) := by
  induction g with
  | zero => intro s; exact .refl _ s
  | succ n ih => intro s; exact (s.handOn_frame _ true false).trans (ih _)

theorem State.awaitNext_frame (n : BitVec 16) : SameOutside [.intake] s (s.awaitNext n) := s.setIntake_frame _

theorem State.takeFrame_frame (x : SampleSet) (start : Bool) : SameOutside sampleBlocks s (s.takeFrame x start) :=
  ((s.countClips_frame _).andThen (State.handOn_frame _ _ false start) (n := sampleBlocks)).andThen
    (State.awaitNext_frame _ _)

theorem State.intakeWait_frame : SameOutside [.intake] s s.intakeWait := s.setIntake_frame _

theorem State.streamBreak_frame (c : StreamCause) (n : BitVec 16) :
    SameOutside [.ports, .latches, .trackers, .former] s (s.streamBreak c n) :=
  ((s.handOver_frame _).andThen (State.setLatches_frame _ _) (n := [.ports, .latches, .trackers, .former])).andThen
    (State.breakCycles_frame _)

theorem State.sequenceCheck_frame (x : SampleSet) (g : Nat) : SameOutside sampleBlocks s (s.sequenceCheck x g) := by
  unfold State.sequenceCheck
  refine .ite (s.takeFrame_frame x false) (.ite ?_ (.ite ?_ (.refl _ s)))
  · exact ((s.setLatches_frame _).andThen (State.fill_frame g _) (n := sampleBlocks)).trans (State.takeFrame_frame _ x _)
  · exact (s.streamBreak_frame _ _).andThen (State.takeFrame_frame _ x _)

theorem State.admit_frame (x : SampleSet) : SameOutside sampleBlocks s (s.admitSet x) := by
  unfold State.admitSet
  split
  · exact s.sequenceCheck_frame x _
  all_goals exact s.takeFrame_frame x true

theorem State.intakeSampleSet_frame (x : SampleSet) : SameOutside sampleBlocks s (s.intakeSampleSet x) := by
  unfold State.intakeSampleSet
  split
  · exact .ite (s.admit_frame x) (s.setLatches_frame _).wider
  all_goals exact .refl _ s

theorem State.intakeTimeMark_frame (f : StreamFrame) : SameOutside [.former] s (s.intakeTimeMark f) :=
  .ite (s.markArrival_frame _) (.refl _ s)

theorem State.silenceExpired_frame :
    SameOutside [.intake, .ports, .latches, .trackers, .former] s s.silenceExpired :=
  (s.streamBreak_frame _ _).andThen (State.intakeWait_frame _)

/-! ## Agreement unit (Machine/Agreement.lean) -/

/-- What the agreement unit may change outside the tables and the accounts. -/
abbrev agreementBlocks : List Block := [.agreement, .ports, .latches, .intake, .trackers, .former]

theorem State.agreementNotice_frame (o : AgreementOutcome) (p : ProfileCode) (m : BitVec 8) :
    SameOutside [.ports, .latches] s (s.agreementNotice o p m) := s.handOver_frame _

theorem State.offerAgain_frame (a : Bool) : SameOutside [.agreement, .ports] s (s.offerAgain a) :=
  (s.setAgreement_frame _).andThen (State.placeOffer_frame _ _)

theorem State.enterListen_frame : SameOutside [.agreement, .ports] s s.enterListen :=
  (s.setAgreement_frame _).andThen (State.offerAgain_frame _ _)

theorem State.enterAcknowledge_frame : SameOutside [.agreement, .ports] s s.enterAcknowledge :=
  (s.setAgreement_frame _).andThen (State.offerAgain_frame _ _)

theorem State.stopOffering_frame : SameOutside [.agreement, .ports] s s.stopOffering :=
  (s.setAgreement_frame _).andThen (State.withdrawOffer_frame _)

theorem State.enterPause_frame : SameOutside [.agreement, .ports] s s.enterPause :=
  s.stopOffering_frame.andThen (State.setAgreement_frame _ _)

theorem State.enterNoCommon_frame : SameOutside [.agreement, .ports] s s.enterNoCommon :=
  s.stopOffering_frame.andThen (State.setAgreement_frame _ _)

theorem State.enterAgreed_frame (p : ProfileCode) (n : Option (AgreementOutcome × BitVec 8)) :
    SameOutside agreementBlocks s (s.enterAgreed p n) := by
  unfold State.enterAgreed
  dsimp only
  have h := (s.stopOffering_frame.andThen (State.setAgreement_frame _
    { s.stopOffering.agreement with state := .agreed p, profile := p }) (n := agreementBlocks)).andThen
    (State.intakeWait_frame _) (n := agreementBlocks)
  cases n with
  | none => exact .ite (h.andThen (State.changeRate_frame _)) h
  | some x =>
    have h2 := h.andThen (State.agreementNotice_frame _ x.1 p x.2) (n := agreementBlocks)
    exact .ite (h2.andThen (State.changeRate_frame _)) h2

theorem State.leaveAgreed_frame : SameOutside [.latches, .trackers, .former, .intake] s s.leaveAgreed :=
  ((s.setLatches_frame _).andThen (State.breakCycles_frame _) (n := [.latches, .trackers, .former, .intake])).andThen
    (State.intakeWait_frame _)

theorem State.matchOffer_frame (m : BitVec 8) : SameOutside [.agreement, .ports] s (s.matchOffer m) := by
  unfold State.matchOffer
  dsimp only
  refine .ite ?_ ?_
  · exact (s.setAgreement_frame _).andThen (State.enterAcknowledge_frame _)
  · exact (s.setAgreement_frame _).wider

theorem State.resolve_frame : SameOutside agreementBlocks s s.resolve := by
  unfold State.resolve
  dsimp only
  split
  · exact s.enterNoCommon_frame.andThen (State.agreementNotice_frame _ _ _ _)
  · exact s.enterAgreed_frame _ _

theorem State.acknowledgeOffer_frame (m : BitVec 8) (a : Bool) :
    SameOutside agreementBlocks s (s.acknowledgeOffer m a) := by
  unfold State.acknowledgeOffer
  refine .ite (.ite ?_ (.refl _ s)) ((s.agreementNotice_frame _ _ _).andThen (State.enterPause_frame _))
  dsimp only
  exact .ite ((s.setAgreement_frame _).andThen (State.resolve_frame _)) (s.setAgreement_frame _).wider

theorem State.renegotiate_frame (p : ProfileCode) (m : BitVec 8) :
    SameOutside agreementBlocks s (s.renegotiate p m) :=
  (((s.agreementNotice_frame _ _ _).andThen (State.leaveAgreed_frame _) (n := agreementBlocks)).andThen
    (State.enterListen_frame _) (n := agreementBlocks)).andThen (State.matchOffer_frame _ m)

theorem State.takeOffer_frame (m : BitVec 8) (a : Bool) : SameOutside agreementBlocks s (s.takeOffer m a) := by
  unfold State.takeOffer
  split
  · exact (s.matchOffer_frame m).wider
  · exact s.acknowledgeOffer_frame m a
  · exact .refl _ s
  · exact .ite (.refl _ s) (s.enterListen_frame.andThen (State.matchOffer_frame _ m))
  · split
    · exact .refl _ s
    · exact .ite (.refl _ s) (s.renegotiate_frame _ m)

theorem State.partnerOffer_frame (f : StreamFrame) : SameOutside agreementBlocks s (s.partnerOffer f) := by
  unfold State.partnerOffer
  split
  · split
    · exact .refl _ s
    · exact s.takeOffer_frame _ _
  · exact .refl _ s

theorem State.adopt_frame (code : Nat) : SameOutside agreementBlocks s (s.adopt code) := by
  unfold State.adopt
  refine .ite ?_ (.refl _ s)
  dsimp only
  exact .ite ((s.setAgreement_frame _).andThen (State.enterAgreed_frame _ _ _)) (s.setAgreement_frame _).wider

theorem State.sampleSet_frame (x : SampleSet) : SameOutside (.agreement :: sampleBlocks) s (s.sampleSet x) := by
  unfold State.sampleSet
  split
  · exact (s.intakeSampleSet_frame x).wider
  all_goals exact (s.adopt_frame _).wider

theorem State.setAgreementFields_frame (m : AgreementMode) (k : BitVec 8) (f : ProfileCode) :
    SameOutside agreementBlocks s (s.setAgreementFields m k f) := by
  unfold State.setAgreementFields
  dsimp only
  have h := (s.setAgreement_frame (s.agreement.restart m k f)).andThen (State.withdrawOffer_frame _)
    (n := agreementBlocks)
  have h2 := SameOutside.ite (p := s.agreement.state.isAgreed = true) (h.andThen (State.leaveAgreed_frame _)) h
  cases m
  · exact h2.andThen (State.enterListen_frame _)
  · exact h2.trans (State.enterAgreed_frame _ _ _)

/-! ## Management unit (Machine/Management.lean) -/

theorem State.takeRequest_frame : SameOutside [.ports, .management] s s.takeRequest := by
  unfold State.takeRequest
  split
  · dsimp only
    split
    · exact (s.setManagement_frame _).andThen (State.refuse_frame _ _ _)
    · exact ((s.setManagement_frame _).trans (State.setManagement_frame _ _)).wider
  · exact .refl _ s

theorem State.requestArrives_frame (r : Request) : SameOutside [.ports, .management, .latches] s (s.requestArrives r) :=
  .ite ((s.setManagement_frame _).andThen (State.takeRequest_frame _)) (s.setLatches_frame _).wider

/-- What a transition of WRITE TRACKER may change. -/
abbrev transitionBlocks : List Block := .trackers :: formerBlocks

theorem State.enableAcquiring_frame (t : TrackerId) : SameOutside [.trackers, .former] s (s.enableAcquiring t) := by
  unfold State.enableAcquiring
  dsimp only
  have h := (s.modTracker_frame t fun _ => .fresh .acquiring s.lnom).andThen (State.startCycles_frame _ t)
    (n := [.trackers, .former])
  refine SameOutside.trans ?_ (State.startResampler_frame _ t).wider
  split
  · exact h.andThen (State.startCycles_frame _ 1)
  · exact h

theorem State.enableFollowing_frame (t : TrackerId) : SameOutside [.trackers, .former] s (s.enableFollowing t) :=
  ((s.modTracker_frame t _).andThen (State.clearBlockIndex_frame _ t true) (n := [.trackers, .former])).andThen
    (State.mapFormerTaps_frame _ _)

theorem State.abandonOf_frame (t : TrackerId) (n : Resampler → Nat) :
    SameOutside [.former] s (s.abandonOf t n) := by
  unfold State.abandonOf
  split
  · exact .refl _ s
  · exact s.abandonCycle_frame _ _ _

theorem State.cancelHandover_frame (t : TrackerId) :
    SameOutside [.trackers, .ports, .latches] s (s.cancelHandover t) := by
  unfold State.cancelHandover
  split
  · exact .refl _ s
  · exact s.dropHandover_frame t _ _

theorem State.disable_frame (t : TrackerId) : SameOutside transitionBlocks s (s.disable t) := by
  unfold State.disable
  dsimp only
  refine SameOutside.trans ?_ (State.clearBlockIndex_frame _ t true).wider
  refine SameOutside.trans ?_ (State.stopCycles_frame _ _).wider
  refine SameOutside.trans ?_ (State.discardResampler_frame _ t).wider
  refine SameOutside.trans ?_ (State.modTracker_frame _ t _).wider
  exact (s.cancelHandover_frame t).andThen (State.abandonOf_frame _ t _)

theorem State.follow_frame (t : TrackerId) : SameOutside transitionBlocks s (s.follow t) := by
  unfold State.follow
  dsimp only
  have h := (((s.abandonCycle_frame t Resampler.breakSamples fun tap => s.collectsFrom t tap).andThen
    (State.modTracker_frame _ t fun _ => .fresh .following s.lnom) (n := transitionBlocks)).andThen
    (State.discardResampler_frame _ t) (n := transitionBlocks)).andThen
    (State.trackerNotice_frame _ t s.trackers[t].state .follow) (n := transitionBlocks)
  exact .ite (h.andThen (State.mapFormerTaps_frame _ _)) (h.andThen (State.stopCycles_frame _ _))

theorem State.unfollow_frame (t : TrackerId) : SameOutside transitionBlocks s (s.unfollow t) := by
  unfold State.unfollow
  dsimp only
  refine SameOutside.trans ?_ (State.startResampler_frame _ t).wider
  have h := ((s.abandonOf_frame t Resampler.samples).andThen (State.modTracker_frame _ t fun _ => .fresh .acquiring s.lnom)
    (n := transitionBlocks)).andThen (State.trackerNotice_frame _ t s.trackers[t].state .unfollow)
    (n := transitionBlocks)
  exact .ite h (h.andThen (State.startCycles_frame _ t))

theorem State.trackerTransition_frame (t : TrackerId) (x : TrackerSettings) :
    SameOutside transitionBlocks s (s.trackerTransition t x) := by
  unfold State.trackerTransition
  split
  · refine .ite (.ite ?_ (s.enableAcquiring_frame t).wider) (s.clearBlockIndex_frame t true).wider
    exact (s.enableFollowing_frame t).andThen (State.removeTariff_frame _)
  · refine .ite (.ite (s.unfollow_frame t) (.refl _ s)) ?_
    exact (s.disable_frame t).andThen (State.removeTariff_frame _)
  all_goals
    refine .ite (.ite ?_ (.refl _ s)) ?_
    · exact (s.follow_frame t).andThen (State.removeTariff_frame _)
    · exact (s.disable_frame t).andThen (State.removeTariff_frame _)

theorem State.startHandover_frame (r : Request) (t : TrackerId) (c : Channel) :
    SameOutside [.trackers, .ports, .management] s (s.startHandover r t c) := by
  unfold State.startHandover
  refine .ite (s.refuse_frame _ _).wider (.ite (s.refuse_frame _ _).wider ?_)
  exact (s.modTracker_frame t _).andThen (State.answer_frame _ _ _ _)

/-- A request is served, or nothing happens. -/
theorem State.serve_cases (k : RequestKind) (f : State → Request → State) :
    s.serve k f = s ∨ ∃ r, Serving s k r ∧ s.serve k f = f s r := by
  unfold State.serve State.serving
  split
  · exact .inl rfl
  · rename_i hr
    split
    · exact .inl rfl
    · rename_i r h
      split at h
      · exact absurd h (by simp)
      · rename_i q hq
        split at h
        · rename_i hk
          cases h
          exact .inr ⟨_, ⟨by simpa using hr, hq, hk⟩, rfl⟩
        · exact absurd h (by simp)

/-- A request in service is served by its owner. -/
theorem State.serve_of_serving {k : RequestKind} {f : State → Request → State} {r : Request} (h : Serving s k r) :
    s.serve k f = f s r := by
  simp [State.serve, State.serving, h.running, h.service, h.kind]

theorem State.linkUp_frame (p : Port) : SameOutside [.ports] s (s.linkUp p) := by
  cases p
  · exact .ite (.refl _ s) ((s.setPorts_frame _).trans (State.chooseA_frame _))
  · exact .ite (.refl _ s) ((s.setPorts_frame _).trans (State.chooseB_frame _))

theorem State.endTransmissionA_frame (e : Ending) : SameOutside [.ports, .wire] s (s.endTransmissionA e) :=
  .ite (.refl _ s) (((s.setPorts_frame _).andThen (State.setWire_frame _ _) (n := [.ports, .wire])).andThen
    (State.chooseA_frame _))

theorem State.forwardAnd_frame (b : Bytes) (f : State → State) {l : List Block} (h : ∀ s, SameOutside l s (f s)) :
    SameOutside (.ports :: .latches :: .choices :: l) s (s.forwardAnd b f) := by
  have hl (s : State) : SameOutside (.ports :: .latches :: .choices :: l) s (f s) := fun b hb =>
    h s b fun h' => hb (by simp [h'])
  have hf (s : State) : SameOutside (.ports :: .latches :: .choices :: l) s (s.enterForward b) := fun x hx =>
    s.enterForward_frame b x (by simp at hx ⊢; tauto)
  have hc : SameOutside (.ports :: .latches :: .choices :: l) s (s.setChoices (s.choices + 1)) := fun x hx =>
    s.setChoices_frame _ x (by simp at hx ⊢; tauto)
  unfold State.forwardAnd
  split
  · dsimp only
    exact .ite ((hc.trans (hl _)).trans (hf _)) ((hc.trans (hf _)).trans (hl _))
  · exact (hf s).trans (hl _)

/-- What a reception end may change: everything but the straps, the reset line and the queue of commands. -/
abbrev receptionBlocks : List Block := .agreement :: .management :: sampleBlocks

theorem State.deliverStream_frame (b : Bytes) (f : State → State) {l : List Block} (h : ∀ s, SameOutside l s (f s)) :
    SameOutside (.ports :: .latches :: .choices :: l) s (s.deliverStream b f) := by
  unfold State.deliverStream
  split
  · exact s.forwardAnd_frame b f h
  · exact fun x hx => h s x fun h' => hx (by simp [h'])

theorem State.deliverA_frame (b : Bytes) : SameOutside receptionBlocks s (s.deliverA b) := by
  unfold State.deliverA
  split
  · exact (s.enterForward_frame b).wider
  · split
    · exact (s.deliverStream_frame b _ fun s => s.sampleSet_frame _).wider
    · exact (s.deliverStream_frame b _ fun s => s.intakeTimeMark_frame _).wider
    · exact (s.partnerOffer_frame _).wider
    all_goals exact (s.enterForward_frame b).wider

theorem State.deliverB_frame (b : Bytes) :
    SameOutside [.ports, .management, .latches] s (s.deliverB b) := by
  unfold State.deliverB
  split
  · exact (s.enterRelay_frame b).wider
  · split
    · exact .ite (s.requestArrives_frame _) (s.enterRelay_frame b).wider
    all_goals exact (s.enterRelay_frame b).wider

theorem State.receptionEnd_frame (p : Port) (f : RxFrame) : SameOutside receptionBlocks s (s.receptionEnd p f) := by
  unfold State.receptionEnd
  refine .ite (.refl _ s) (.ite ?_ (s.setLatches_frame _).wider)
  cases p
  · exact s.deliverA_frame _
  · exact (s.deliverB_frame _).wider

end Sys2Proof.Machine
end

