-- ==== Sys2Proof/WellFormed.lean ====
section
/-! DEFINITION. Which commands are well formed. The operands' types already hold each to its range (a 6-bit strap
address, two ports, two trackers); what is left to check is a received frame. -/

namespace Sys2Proof

/-- A frame as a receiver can hand it over: a good FCS verdict needs the four FCS bytes that it is about. A frame of
any other length or content may arrive; R1 and R4 say what becomes of it. -/
def RxFrame.wellFormed (f : RxFrame) : Bool := !f.fcsGood || decide (4 ≤ f.bytes.length)

/-- The check of a command. -/
def Instr.wellFormed : Instr → Bool
  | .receptionEnd _ f => f.wellFormed
  | .powerOn _ _ | .pinReset | .pinResetRelease | .linkUp _ | .linkDown _ | .transmissionEnd _
  | .offerTimerExpiry | .acknowledgeTimerExpiry | .pauseTimerExpiry | .silenceTimerExpiry
  | .noCrossing _ | .handoverTimeout _ | .holdoverLimit _ | .engineTake | .jobCompletion
  | .readStatus | .writeChannels | .writeTap | .readTap | .writeGroups | .writeCorrection
  | .writeTracker | .handoverStart | .handoverCancel | .setTariff | .setConstant | .readRegisters
  | .restore | .clear | .readRecord | .readSpectrum | .setAgreement | .setStation | .reset => true

end Sys2Proof
end

