-- ==== Sys2Proof/Laws/PerInstr.lean ====
section
/-! SUPPORT. A statement about every command as syntax: a row serves a kind of request exactly when it is one of the
nineteen request rows, such a row is well formed whatever the body, and it is the row of its kind. -/

namespace Sys2Proof.Laws.RequestRow

open Sys2Proof Sys2Proof.Machine

/-- A command that serves a kind of request carries no operand to check, and it is the row that some body of that kind
calls for. -/
def Statement (i : Instr) : Prop :=
  ∀ k, requestKindOf i = some k → i.wellFormed = true ∧ ∃ body, commandOf body k = i

theorem powerOn (station : BitVec 6) (frequency : NominalFrequency) : Statement (.powerOn station frequency) :=
  fun _ h => nomatch h
theorem pinReset : Statement .pinReset := fun _ h => nomatch h
theorem pinResetRelease : Statement .pinResetRelease := fun _ h => nomatch h
theorem linkUp (port : Port) : Statement (.linkUp port) := fun _ h => nomatch h
theorem linkDown (port : Port) : Statement (.linkDown port) := fun _ h => nomatch h
theorem receptionEnd (port : Port) (frame : RxFrame) : Statement (.receptionEnd port frame) := fun _ h => nomatch h
theorem transmissionEnd (port : Port) : Statement (.transmissionEnd port) := fun _ h => nomatch h
theorem offerTimerExpiry : Statement .offerTimerExpiry := fun _ h => nomatch h
theorem acknowledgeTimerExpiry : Statement .acknowledgeTimerExpiry := fun _ h => nomatch h
theorem pauseTimerExpiry : Statement .pauseTimerExpiry := fun _ h => nomatch h
theorem silenceTimerExpiry : Statement .silenceTimerExpiry := fun _ h => nomatch h
theorem noCrossing (tracker : TrackerId) : Statement (.noCrossing tracker) := fun _ h => nomatch h
theorem handoverTimeout (tracker : TrackerId) : Statement (.handoverTimeout tracker) := fun _ h => nomatch h
theorem holdoverLimit (tracker : TrackerId) : Statement (.holdoverLimit tracker) := fun _ h => nomatch h
theorem engineTake : Statement .engineTake := fun _ h => nomatch h
theorem jobCompletion : Statement .jobCompletion := fun _ h => nomatch h

/-- A row whose kind it alone serves. -/
theorem of_commandOf {i : Instr} {k : RequestKind} (hw : i.wellFormed = true) (hk : requestKindOf i = some k)
    (body : Bytes) (hc : commandOf body k = i) : Statement i := by
  intro k' h
  rw [hk] at h
  cases h
  exact ⟨hw, body, hc⟩

theorem readStatus : Statement .readStatus := of_commandOf rfl rfl [] rfl
theorem writeChannels : Statement .writeChannels := of_commandOf rfl rfl [] rfl
theorem writeTap : Statement .writeTap := of_commandOf rfl rfl [] rfl
theorem readTap : Statement .readTap := of_commandOf rfl rfl [] rfl
theorem writeGroups : Statement .writeGroups := of_commandOf rfl rfl [] rfl
theorem writeCorrection : Statement .writeCorrection := of_commandOf rfl rfl [] rfl
theorem writeTracker : Statement .writeTracker := of_commandOf rfl rfl [] rfl
theorem handoverStart : Statement .handoverStart := of_commandOf rfl rfl [0, 0, 1] rfl
theorem handoverCancel : Statement .handoverCancel := of_commandOf rfl rfl [0, 1, 0] rfl
theorem setTariff : Statement .setTariff := of_commandOf rfl rfl [] rfl
theorem setConstant : Statement .setConstant := of_commandOf rfl rfl [] rfl
theorem readRegisters : Statement .readRegisters := of_commandOf rfl rfl [] rfl
theorem restore : Statement .restore := of_commandOf rfl rfl [] rfl
theorem clear : Statement .clear := of_commandOf rfl rfl [] rfl
theorem readRecord : Statement .readRecord := of_commandOf rfl rfl [] rfl
theorem readSpectrum : Statement .readSpectrum := of_commandOf rfl rfl [] rfl
theorem setAgreement : Statement .setAgreement := of_commandOf rfl rfl [] rfl
theorem setStation : Statement .setStation := of_commandOf rfl rfl [] rfl
theorem reset : Statement .reset := of_commandOf rfl rfl [] rfl

end Sys2Proof.Laws.RequestRow
end

