-- ==== Sys2Proof/Laws/Shared.lean ====
section
/-! SUPPORT. What the shared operations do: the transmit choices keep every source but the one they start, an answer
stands in the answer slot, a notice and a frame are taken or lost, and small facts about saturating and clamped
numbers. -/

namespace Sys2Proof.Machine

set_option Elab.async false

open Sys2Proof

/-! ## Numbers -/

theorem satAdd_le (top a b : Nat) : satAdd top a b ≤ top := Nat.min_le_left _ _

theorem satAdd_of_le {top a b : Nat} (h : a + b ≤ top) : satAdd top a b = a + b := Nat.min_eq_right h

theorem clampInt_bounds {lo hi : Int} (h : lo ≤ hi) (z : Int) : lo ≤ clampInt lo hi z ∧ clampInt lo hi z ≤ hi := by
  unfold clampInt
  split
  · omega
  · split <;> omega

theorem clampInt_of_within {lo hi z : Int} (h : lo ≤ z ∧ z ≤ hi) : clampInt lo hi z = z := by
  unfold clampInt
  rw [if_neg (by omega), if_neg (by omega)]

/-! ## Transmit choices -/

section
variable (p : Ports) (a : BitVec 6)

/-- Port A's choice may start a transmission and mark the pending OFFER as in transmission; nothing else. -/
theorem Ports.chooseA_eq : p.chooseA a = { p with txA := (p.chooseA a).txA, offer := (p.chooseA a).offer } := by
  unfold Ports.chooseA
  split
  · split <;> rfl
  · rfl

/-- Port B's choice may start a transmission and set the turn marker; nothing else. -/
theorem Ports.chooseB_eq : p.chooseB a = { p with txB := (p.chooseB a).txB, turn := (p.chooseB a).turn } := by
  unfold Ports.chooseB
  split
  · split <;> first | rfl | (split <;> rfl)
  · rfl

@[simp] theorem Ports.chooseA_linkA : (p.chooseA a).linkA = p.linkA := by rw [Ports.chooseA_eq]
@[simp] theorem Ports.chooseA_linkB : (p.chooseA a).linkB = p.linkB := by rw [Ports.chooseA_eq]
@[simp] theorem Ports.chooseA_txB : (p.chooseA a).txB = p.txB := by rw [Ports.chooseA_eq]
@[simp] theorem Ports.chooseA_relayQueue : (p.chooseA a).relayQueue = p.relayQueue := by rw [Ports.chooseA_eq]
@[simp] theorem Ports.chooseA_forwardQueue : (p.chooseA a).forwardQueue = p.forwardQueue := by rw [Ports.chooseA_eq]
@[simp] theorem Ports.chooseA_answerSlot : (p.chooseA a).answerSlot = p.answerSlot := by rw [Ports.chooseA_eq]
@[simp] theorem Ports.chooseA_noticeQueue : (p.chooseA a).noticeQueue = p.noticeQueue := by rw [Ports.chooseA_eq]
@[simp] theorem Ports.chooseA_reportSlots : (p.chooseA a).reportSlots = p.reportSlots := by rw [Ports.chooseA_eq]
@[simp] theorem Ports.chooseA_firstReport : (p.chooseA a).firstReport = p.firstReport := by rw [Ports.chooseA_eq]
@[simp] theorem Ports.chooseA_turn : (p.chooseA a).turn = p.turn := by rw [Ports.chooseA_eq]

@[simp] theorem Ports.chooseB_linkA : (p.chooseB a).linkA = p.linkA := by rw [Ports.chooseB_eq]
@[simp] theorem Ports.chooseB_linkB : (p.chooseB a).linkB = p.linkB := by rw [Ports.chooseB_eq]
@[simp] theorem Ports.chooseB_txA : (p.chooseB a).txA = p.txA := by rw [Ports.chooseB_eq]
@[simp] theorem Ports.chooseB_relayQueue : (p.chooseB a).relayQueue = p.relayQueue := by rw [Ports.chooseB_eq]
@[simp] theorem Ports.chooseB_offer : (p.chooseB a).offer = p.offer := by rw [Ports.chooseB_eq]
@[simp] theorem Ports.chooseB_forwardQueue : (p.chooseB a).forwardQueue = p.forwardQueue := by rw [Ports.chooseB_eq]
@[simp] theorem Ports.chooseB_answerSlot : (p.chooseB a).answerSlot = p.answerSlot := by rw [Ports.chooseB_eq]
@[simp] theorem Ports.chooseB_noticeQueue : (p.chooseB a).noticeQueue = p.noticeQueue := by rw [Ports.chooseB_eq]
@[simp] theorem Ports.chooseB_reportSlots : (p.chooseB a).reportSlots = p.reportSlots := by rw [Ports.chooseB_eq]
@[simp] theorem Ports.chooseB_firstReport : (p.chooseB a).firstReport = p.firstReport := by rw [Ports.chooseB_eq]

/-- A transmission that ends is recorded at its port with its ending, and the other port's record stays. -/
theorem Wire.ended_a (w : Wire) (x : Transmission) (e : Ending) : w.ended .a (some x) e = ⟨some ⟨x, e⟩, w.b⟩ := rfl

theorem Wire.ended_b (w : Wire) (x : Transmission) (e : Ending) : w.ended .b (some x) e = ⟨w.a, some ⟨x, e⟩⟩ := rfl

@[simp] theorem Wire.ended_none (w : Wire) (q : Port) (e : Ending) : w.ended q none e = w := by cases q <;> rfl

/-- A port that is not free starts nothing. -/
theorem Ports.chooseA_busy (h : p.freeA = false) : p.chooseA a = p := by simp [Ports.chooseA, h]

theorem Ports.chooseB_busy (h : p.freeB = false) : p.chooseB a = p := by simp [Ports.chooseB, h]

/-- A free port B with a notice in its queue starts a transmission. -/
theorem Ports.chooseB_starts (h : p.freeB = true) (hn : p.noticeQueue ≠ []) : (p.chooseB a).txB.isSome = true := by
  have ho : (p.ownItem a).isSome = true := by
    unfold Ports.ownItem
    split <;> simp_all
  obtain ⟨y, hy⟩ := Option.isSome_iff_exists.mp ho
  unfold Ports.chooseB
  rw [if_pos h, hy]
  split <;> first | rfl | (split <;> rfl) | simp_all

end

section
variable (s : State)

/-- The choice of port A in the part: none in a reset, otherwise the port's. -/
theorem State.chooseA_cases : s.chooseA = s ∨ s.chooseA = s.setPorts (s.ports.chooseA s.straps.station) := by
  unfold State.chooseA; split <;> simp

theorem State.chooseB_cases : s.chooseB = s ∨ s.chooseB = s.setPorts (s.ports.chooseB s.straps.station) := by
  unfold State.chooseB; split <;> simp

/-- Port B's choice in the part keeps everything of the ports but its transmission and the turn marker. -/
theorem State.chooseB_ports :
    s.chooseB.ports = { s.ports with txB := s.chooseB.ports.txB, turn := s.chooseB.ports.turn } := by
  rcases s.chooseB_cases with h | h <;> rw [h]
  exact s.ports.chooseB_eq s.straps.station

/-- Port A's choice in the part keeps everything of the ports but its transmission and the pending OFFER. -/
theorem State.chooseA_ports :
    s.chooseA.ports = { s.ports with txA := s.chooseA.ports.txA, offer := s.chooseA.ports.offer } := by
  rcases s.chooseA_cases with h | h <;> rw [h]
  exact s.ports.chooseA_eq s.straps.station

/-- A transmission in progress on port B is not disturbed by a choice. -/
theorem State.chooseB_sending (h : s.ports.txB.isSome) : s.chooseB.ports = s.ports := by
  rcases s.chooseB_cases with h' | h' <;> rw [h']
  rw [State.setPorts_ports, Ports.chooseB_busy]
  cases hx : s.ports.txB <;> simp_all [Ports.freeB]

/-! ## Placing items -/

/-- A notice is discarded with notices OFF, lost with NOTICE_DROPPED at a full queue, and otherwise the newest of the
notice queue (R168). -/
theorem State.handOver_cases (n : NoticeBody) :
    (s.tables.station.notices = false ∧ s.handOver n = s) ∨
    (s.tables.station.notices = true ∧ 8 ≤ s.ports.noticeQueue.length ∧
      s.handOver n = s.setLatches { s.latches with noticeDropped := true }) ∨
    (s.tables.station.notices = true ∧ s.ports.noticeQueue.length < 8 ∧
      s.handOver n = (s.setPorts { s.ports with
        noticeQueue := s.ports.noticeQueue ++ [⟨s.tables.station.destination, n⟩] }).chooseB) := by
  unfold State.handOver Config.noticeCapacity
  split
  · split
    · exact .inr (.inr ⟨‹_›, ‹_›, rfl⟩)
    · exact .inr (.inl ⟨‹_›, by omega, rfl⟩)
  · exact .inl ⟨by simp_all, rfl⟩

/-- Handing over a notice changes nothing else of the ports and latches but what port B starts (R11, R168). -/
theorem State.handOver_noticed (n : NoticeBody) : Noticed s (s.handOver n) [n] := by
  rcases s.handOver_cases n with ⟨hn, h⟩ | ⟨hn, hq, h⟩ | ⟨hn, hq, h⟩ <;> rw [h]
  · exact ⟨by simp [queueNotices, hn], fun _ => ⟨rfl, rfl⟩, fun _ _ _ _ _ h' _ => absurd h' (by simp [hn]),
      by simp [hn]⟩
  · refine ⟨?_, fun _ => ⟨rfl, rfl⟩, fun _ _ _ _ _ _ h' => absurd h' (by omega), ?_⟩
    · simp [queueNotices, hn, Nat.max_eq_right hq]
    · simp [hn, Nat.max_eq_right hq]
  · let p : Ports := { s.ports with noticeQueue := s.ports.noticeQueue ++ [⟨s.tables.station.destination, n⟩] }
    have hp := (s.setPorts p).chooseB_ports
    refine ⟨?_, fun hf => ?_, ?_, ?_⟩
    · rw [hp]
      simp only [queueNotices, hn, State.setPorts_ports, if_true, p]
      rw [List.take_of_length_le (by simp; omega)]
      rfl
    · have hb : (s.setPorts p).chooseB.ports = p := by
        rcases hf with hf | hf | hf | hf | hf
        · rw [show (s.setPorts p).chooseB = s.setPorts p from if_pos hf]
          rfl
        · rcases (s.setPorts p).chooseB_cases with h' | h' <;> rw [h']
          · rfl
          · exact Ports.chooseB_busy _ _ hf
        · simp [hn] at hf
        · omega
        · simp at hf
      rw [hb]
      exact ⟨rfl, rfl⟩
    · rintro m rest ⟨⟩ hr - - -
      have hc : (s.setPorts p).chooseB = (s.setPorts p).setPorts (p.chooseB s.straps.station) := if_neg (by simp [hr])
      rw [hc]
      exact ⟨rfl, rfl⟩
    · rw [((s.setPorts p).chooseB_frame).get .latches]
      have : ¬max 8 s.ports.noticeQueue.length < s.ports.noticeQueue.length + 1 := by omega
      simp [hn, this]

/-- With no notice the queue stays. -/
@[simp] theorem queueNotices_nil (settings : StationSettings) (q : List Notice) : queueNotices settings q [] = q := by
  unfold queueNotices
  split
  · simp [List.take_of_length_le (Nat.le_max_right 8 q.length)]
  · rfl

/-- Notices handed over one list after another are handed over as one list (R168). -/
theorem queueNotices_append (settings : StationSettings) (q : List Notice) (l m : List NoticeBody) :
    queueNotices settings (queueNotices settings q l) m = queueNotices settings q (l ++ m) := by
  unfold queueNotices
  split
  · rw [List.map_append, ← List.append_assoc, List.length_take]
    rcases Nat.lt_or_ge (q ++ l.map fun n => (⟨settings.destination, n⟩ : Notice)).length (max 8 q.length) with h | h
    · rw [List.take_of_length_le (Nat.le_of_lt h), Nat.min_eq_right (Nat.le_of_lt h)]
      rw [List.length_append] at h ⊢
      congr 1
      omega
    · rw [Nat.min_eq_left h, Nat.max_eq_right (Nat.le_max_left 8 _),
        List.take_append_of_le_length (by rw [List.length_take, Nat.min_eq_left h]), List.take_take, Nat.min_self,
        List.take_append_of_le_length h]
  · rfl

/-- No notice handed over leaves ports and latches as they are. -/
theorem HandedOver.nil (p : Ports) (x : Latches) : HandedOver s p x p x [] := by
  refine ⟨by rw [queueNotices_nil], fun _ => ⟨rfl, rfl⟩, fun _ _ h => (List.cons_ne_nil _ _ h.symm).elim, ?_⟩
  simp

/-- Two handings over in a row, by the ports and latches between them. -/
theorem HandedOver.andThen {p q r : Ports} {x y z : Latches} {l k : List NoticeBody} (h : HandedOver s p x q y l)
    (g : HandedOver s q y r z k) : HandedOver s p x r z (l ++ k) := by
  have hq : q.noticeQueue = queueNotices s.tables.station p.noticeQueue l := by rw [h.ports]
  have hfree : q.txB.isSome = true → q.freeB = false := fun ht => by simp [Ports.freeB, ht]
  refine ⟨?_, fun hf => ?_, ?_, ?_⟩
  · rw [g.ports, hq, queueNotices_append]
    conv_lhs => rw [h.ports]
  · have h1 := h.sending (by
      rcases hf with hf | hf | hf | hf | hf
      · exact .inl hf
      · exact .inr (.inl hf)
      · exact .inr (.inr (.inl hf))
      · exact .inr (.inr (.inr (.inl hf)))
      · exact .inr (.inr (.inr (.inr (List.append_eq_nil_iff.mp hf).1))))
    have h2 := g.sending (by
      rcases hf with hf | hf | hf | hf | hf
      · exact .inl hf
      · refine .inr (.inl ?_)
        unfold Ports.freeB at hf ⊢
        rw [h1.1, h.ports]
        exact hf
      · exact .inr (.inr (.inl hf))
      · refine .inr (.inr (.inr (.inl ?_)))
        rw [hq]
        unfold queueNotices
        split
        · simp only [List.length_take, List.length_append]; omega
        · exact hf
      · exact .inr (.inr (.inr (.inr (List.append_eq_nil_iff.mp hf).2))))
    exact ⟨h2.1.trans h1.1, h2.2.trans h1.2⟩
  · intro n rest hl hr hf hn hlen
    cases l with
    | nil =>
      have h1 := h.sending (by simp)
      have hqp : q = p := by rw [h.ports, h1.1, h1.2, queueNotices_nil]
      exact hqp ▸ g.starts n rest (by simpa using hl) hr (hqp ▸ hf) hn (hqp ▸ hlen)
    | cons a l' =>
      obtain ⟨rfl, -⟩ : a = n ∧ l' ++ k = rest := by simpa using hl
      have h1 := h.starts a l' rfl hr hf hn hlen
      have hstart : (Ports.chooseB s.straps.station
          { p with noticeQueue := p.noticeQueue ++ [⟨s.tables.station.destination, a⟩] }).txB.isSome = true :=
        Ports.chooseB_starts _ _ hf (by simp)
      have h2 := g.sending (.inr (.inl (hfree (by rw [h1.1]; exact hstart))))
      exact ⟨h2.1.trans h1.1, h2.2.trans h1.2⟩
  · rw [g.latches, h.latches, hq]
    congr 1
    cases hn : s.tables.station.notices
    · simp
    · simp only [queueNotices, hn, if_true, Bool.true_and, Bool.or_assoc, List.length_take, List.length_append,
        List.length_map]
      congr 1
      rw [← Bool.decide_or, decide_eq_decide]
      omega

/-- A frame from port A is the newest of the forward queue, or lost with FORWARD_DROPPED (R8). -/
theorem State.enterForward_cases (f : Bytes) :
    (s.ports.forwardQueue.length < 32 ∧
      s.enterForward f = (s.setPorts { s.ports with forwardQueue := s.ports.forwardQueue ++ [f] }).chooseB) ∨
    (32 ≤ s.ports.forwardQueue.length ∧ s.enterForward f = s.setLatches { s.latches with forwardDropped := true }) := by
  unfold State.enterForward Config.forwardCapacity
  split
  · exact .inl ⟨‹_›, rfl⟩
  · exact .inr ⟨by omega, rfl⟩

/-- A frame from port B is the newest of the relay queue, or lost with RELAY_DROPPED (R9). -/
theorem State.enterRelay_cases (f : Bytes) :
    (s.ports.relayQueue.length < 8 ∧
      s.enterRelay f = (s.setPorts { s.ports with relayQueue := s.ports.relayQueue ++ [f] }).chooseA) ∨
    (8 ≤ s.ports.relayQueue.length ∧ s.enterRelay f = s.setLatches { s.latches with relayDropped := true }) := by
  unfold State.enterRelay Config.relayCapacity
  split
  · exact .inl ⟨‹_›, rfl⟩
  · exact .inr ⟨by omega, rfl⟩

/-- An answer that has been placed stands in the answer slot, the unit is IDLE, and port B makes its choice (R11, R158,
R160). -/
theorem State.answer_answered (r : Request) (x : Result) (b : Bytes) : Answered s (s.answer r x b) r x b := by
  let p : Ports := { s.ports with answerSlot := some ⟨r.source, r.tag, r.kind, x, b⟩ }
  let m := (s.setManagement { s.management with inService := none }).setPorts p
  have hp : (s.answer r x b).ports = { p with txB := (s.answer r x b).ports.txB, turn := (s.answer r x b).ports.turn } :=
    m.chooseB_ports
  have hm : (s.answer r x b).management = { s.management with inService := none } := m.chooseB_frame.get .management
  refine ⟨?_, ?_, ?_, ?_, ?_, ?_, ?_, ?_, ?_, ?_, ?_⟩
  · rw [hp]
  · rw [hm]
  · rw [hm]
  · rw [hm]
  · rw [hm]
  · constructor <;> rw [hp]
  · rw [hp]
  · rw [hp]
  · rw [hp]
  · intro h
    have hb : m.chooseB.ports = m.ports := m.chooseB_sending h
    have : (s.answer r x b).ports = p := hb
    rw [this]
    exact ⟨rfl, rfl⟩
  · intro h
    have hc : m.chooseB = m.setPorts (m.ports.chooseB m.straps.station) := if_neg (by simp [m, h])
    exact congrArg State.ports hc

end

end Sys2Proof.Machine
end

