-- ==== Sys2Proof/Tests/Slice0.lean ====
section
/-! SUPPORT. The model's own tests: the well-formedness smoke, the manual's worked examples, one or two single steps for
each command, and a witness for every statement that has hypotheses. Every expected value comes from spec/ (a table, a
worked example or a rule) or from hand calculation by a rule. -/

namespace Sys2Proof.Tests

set_option Elab.async false

open Sys2Proof Sys2Proof.Machine

/-! ## Helpers -/

/-- The state after a command; the state itself where the command gave none. -/
def after (c : Instr) (s : State) : State :=
  match exec c s with
  | .next t => t
  | .fault _ | .refused _ => s

/-- The part after power-on with both links UP, no OFFER waiting and nothing else changed. -/
def base : State := State.reset.setPorts (.cleared .up .up)

/-- The part in AGREED(p), with the profile in force p. -/
def agreed (p : ProfileCode) : State :=
  base.setAgreement { base.agreement with state := .agreed p, profile := p, offerTimer := .stopped }

/-- An Ethernet frame of the stream protocol, padded to 64 bytes, with four bytes of FCS. -/
def frame (kind : Byte) (fields : Bytes) : RxFrame :=
  let b : Bytes := [0xFF, 0xFF, 0xFF, 0xFF, 0xFF, 0xFF, 0x02, 0, 0, 0, 0, 0x99, 0x9A, 0x4E, kind, 0,
    BitVec.ofNat 8 (fields.length / 256), BitVec.ofNat 8 fields.length] ++ fields
  ⟨b ++ List.replicate (60 - b.length) 0 ++ [1, 2, 3, 4], true⟩

/-- A frame of another type value, `n` bytes long. -/
def other (n : Nat) : RxFrame := ⟨List.replicate n 0x08, true⟩

/-- A request as the request queue holds it, from source 0x020000000099 with tag 7. -/
def req (kind : Byte) (body : Bytes) : Request := ⟨0x020000000099, 7, kind, 4 + body.length, body⟩

/-- `s` with a request in service. -/
def srv (s : State) (kind : Byte) (body : Bytes) : State :=
  s.setManagement ⟨[], some (req kind body), .power, false⟩

theorem serving_srv {s : State} {kind : Byte} {body : Bytes} {k : RequestKind} (h : s.resetLine = false)
    (hv : (req kind body).validKind = some k) : Serving (srv s kind body) k (req kind body) := ⟨h, rfl, hv⟩

theorem arrives_of {s : State} {port : Port} {f : RxFrame} (h : s.resetLine = false ∧ s.ports.link port = .up ∧
    f.fcsGood = true ∧ 64 ≤ f.bytes.length ∧ f.bytes.length ≤ 1522) : Arrives s port f :=
  ⟨h.1, h.2.1, h.2.2.1, h.2.2.2.1, h.2.2.2.2⟩

/-- The result code and body in the answer slot. -/
def answerOf (s : State) : Option (Result × Bytes) := s.ports.answerSlot.map fun a => (a.result, a.body)

/-! ## Well-formedness -/

theorem test_wellFormed_refuses_good_fcs_without_fcs_bytes :
    (Instr.receptionEnd .a ⟨[1, 2, 3], true⟩).wellFormed = false := by decide
theorem test_wellFormed_accepts_four_bytes : (Instr.receptionEnd .b ⟨[1, 2, 3, 4], true⟩).wellFormed = true := by decide
theorem test_wellFormed_accepts_short_bad_frame : (Instr.receptionEnd .a ⟨[1], false⟩).wellFormed = true := by decide
theorem test_wellFormed_accepts_power_on : (Instr.powerOn 63 .hz60).wellFormed = true := by decide

/-! ## Arithmetic of the manual's worked examples -/

/-- The table of R59 (chapter 4). -/
theorem test_calibration_examples :
    clampValue (calibrate ⟨40000, 1000⟩ 100000) = 120850 ∧ clampValue (calibrate ⟨16384, 0⟩ (-3)) = -2 ∧
    clampValue (calibrate ⟨1, 0⟩ (-1)) = 0 ∧ clampValue (calibrate ⟨32768, 0⟩ 8000000) = 524287 ∧
    clampValue (calibrate ⟨0, -2000⟩ 5000) = 0 := by decide +kernel
/-- The table of nominal periods (spec/00_scope.md, Symbols). -/
theorem test_nominal_periods :
    (List.range 8).map (fun i => nominalPeriod .hz60 (Fin.ofNat 8 i)) =
      [6990506, 6990506, 10485760, 10485760, 13981013, 13981013, 20971520, 20971520] ∧
    nominalPeriod .hz50 2 = 12582912 := by decide +kernel
/-- The worked crossing of chapter 5: t, M, and the two filter steps. -/
theorem test_crossing_and_filter :
    crossingTime 5129 (-2000) 6000 = 336084992 ∧
    classifyAt 8388608 (some 327729152) 336084992 = .accepted 336084992 8355840 ∧
    filterPeriod 8388608 8388608 8355840 = 8384512 ∧ filterPeriod 8388608 8384512 8384500 = 8384511 ∧
    increment 8384511 = 65568 ∧ ageReached 8388608 255 = false ∧ ageReached 8388608 256 = true := by decide +kernel
/-- The worked resampler of chapter 6 at 60 Hz. -/
theorem test_resampler_points :
    increment 6990506 = 78643 ∧ interpolate 1000 2000 5536 78643 = 1070 ∧ interpolate 1000 2000 71072 78643 = 1904 ∧
    interpolate 1000 2000 64 78643 = 1001 ∧ interpolate 1000 2000 65600 78643 = 1834 := by decide +kernel

/-- The impulse of chapter 7: 2^18 at point 16. -/
def impulse : Vector Int 128 := upd (Vector.replicate 128 0) 16 262144

theorem test_impulse_phasors :
    (orders 8).map (phasorOf impulse) = [⟨2896, -2896⟩, ⟨0, -4096⟩, ⟨-2896, -2896⟩, ⟨-4096, 0⟩, ⟨-2896, 2896⟩, ⟨0, 4096⟩,
      ⟨2896, 2896⟩, ⟨4096, 0⟩] := by decide +kernel
theorem test_impulse_correction :
    Phasor.correct ⟨2896, -2896⟩ ⟨0, 32767⟩ = ⟨2896, 2896⟩ ∧
    activeProduct ⟨2896, -2896⟩ ⟨2896, 2896⟩ = 0 ∧ reactiveProduct ⟨2896, -2896⟩ ⟨2896, 2896⟩ = -16773632 ∧
    Phasor.squared ⟨2896, -2896⟩ = 16773632 := by decide +kernel

/-- Group G1 with weight 128 for order 5, NONE for the others. -/
def groupsG1 : Vector GroupEntry 49 := upd (Vector.replicate 49 ⟨.none, 0⟩) 3 ⟨.g1, 128⟩

/-- The worked cycle of chapter 8: the contributions, and AI and HE at K = 2^40. -/
theorem test_contributions_example :
    contributions groupsG1 [36000000000, 0, 0, 0, -300000000] [27000000000, 0, 0, 0, -240000000] 5 128 =
      #v[1179648000000000, 0, 884736000000000, 0, 0, 0, 0, 9830400000000, 0, 7864320000000, 0, 0] := by decide +kernel
theorem test_division_example :
    Register.addEnergy ⟨999999999500, 0, 0⟩ (2 ^ 40) 1179648000000000 = (⟨572, 971535024128, 1⟩, 1072) ∧
    Register.addEnergy ⟨0, 0, 0⟩ (2 ^ 40) 884736000000000 = (⟨804, 728651268096, 0⟩, 804) ∧
    Register.addEnergy ⟨0, 0, 0⟩ (2 ^ 40) 9830400000000 = (⟨8, 1034306977792, 0⟩, 8) := by decide +kernel
/-- The worked block of chapter 9. -/
theorem test_frequency_and_distortion :
    meanFrequency 6400 83903445 10 = 49989 ∧ thdOf 900000000000 9000000000 = 1000 ∧
    thdOf 25000000000 410000000 = 1280 := by decide +kernel
/-- The worked limit sequence of chapter 9, tap 4: each record as (evaluated, exceeding). -/
theorem test_limit_sequence :
    ([(true, false), (true, true), (true, true), (true, false), (true, false), (true, true), (true, false),
        (false, false), (true, false), (true, false)].foldl
      (fun (l : LimitState × List (LimitState × Option LimitOutcome)) (x : Bool × Bool) =>
        ((l.1.move x.1 x.2).1, l.2 ++ [l.1.move x.1 x.2])) (.normal, [])).2 =
      [(⟨false, 0⟩, none), (⟨true, 0⟩, some .entered), (⟨true, 0⟩, none), (⟨true, 1⟩, none), (⟨true, 2⟩, none),
       (⟨true, 0⟩, none), (⟨true, 1⟩, none), (⟨true, 1⟩, none), (⟨true, 2⟩, none), (⟨false, 0⟩, some .cleared)] := by
  decide +kernel
/-- Packed decimal of R174: the count 572. -/
theorem test_packed_decimal : packedDecimal 572 = [0, 0, 0, 0, 5, 0x72] ∧
    readPackedDecimal [0x99, 0x99, 0x99, 0x99, 0x99, 0x99] 0 6 = some 999999999999 ∧
    readPackedDecimal [0, 0, 0, 0, 0, 0x0A] 0 6 = none := by decide +kernel

/-! ## Power, resets, links and transmissions -/

theorem test_powerOn_straps :
    let t := after (.powerOn 63 .hz60) (agreed 7)
    t.straps = ⟨63, .hz60⟩ ∧ t.lfix 0 = 6990506 ∧ t.trackers[1].state = .idle ∧ t.agreement.profile = 0 ∧
      t.ports.linkA = .down ∧ t.ports.offer = .waiting ⟨0xFF, false⟩ := by decide +kernel

/-- `s` with the generation of tap 3 at `n`. -/
def withGeneration (s : State) (n : BitVec 16) : State := s.modTapSlot 3 fun x => { x with generation := n }

theorem test_pinReset_keeps_registers_and_empties :
    let t := after .pinReset ((agreed 5).modAccount 7 fun a => { a with constant := 9, blockNumber := 4, late := 3 })
    t.resetLine = true ∧ t.accounts[7].constant = 9 ∧ t.accounts[7].blockNumber = 4 ∧ t.accounts[7].late = 0 ∧
      t.management.startCause = .pin ∧ t.ports.linkB = .up := by decide +kernel
theorem test_pinResetRelease_advances_counts :
    let t := after .pinResetRelease ((withGeneration base 0xFFFF).setResetLine true)
    t.resetLine = false ∧ t.tables.taps[3].generation = 0 ∧ t.accounts[3].blockNumber = 1 ∧
      t.agreement.state = .listen ∧ t.ports.offer = .sending ⟨0xFF, false⟩ := by decide +kernel

/-- R10, R12, R13: the waiting OFFER starts when port A comes up, 64 bytes on the wire with the FCS. -/
theorem test_linkUp_sends_the_offer :
    let t := after (.linkUp .a) (State.atPowerOn 5 .hz50)
    (t.ports.txA.map fun x => (x.bytes.take 20, x.bytes.length, x.holdNs)) =
      some ([0xFF, 0xFF, 0xFF, 0xFF, 0xFF, 0xFF, 2, 0x4E, 0x42, 0, 0, 5, 0x9A, 0x4E, 3, 0, 0, 2, 0xFF, 0], 60, 6720) := by
  decide +kernel

/-- One relayed frame on the wire, another behind it. -/
def relaying : State :=
  base.setPorts { base.ports with txA := some (.passed .relay [1]), relayQueue := [[1], [2]] }

theorem test_linkDown_cuts_the_relay :
    let t := after (.linkDown .a) relaying
    t.ports.linkA = .down ∧ t.ports.txA = none ∧ t.ports.relayQueue = [[2]] := by decide +kernel

/-- R3: the three endings of the relayed frame on the wire. -/
theorem test_endings_of_a_transmission :
    let x : Transmission := .passed .relay [1]
    [Instr.transmissionEnd .a, .linkDown .a, .pinReset].map (fun c => (after c relaying).wire.a) =
      [some ⟨x, .normal⟩, some ⟨x, .cutOff⟩, some ⟨x, .aborted⟩] ∧
    (after .pinReset relaying).wire.b = none := by decide +kernel

/-- An AGREEMENT notice as the notice queue holds it. -/
def notice : Notice := ⟨broadcast, .agreement 0 .adopted 0xFF 0⟩

/-- A block record with nothing in it. -/
def record : BlockRecord where
  tap := 2
  tracker := 0
  block := 9
  tariff := 0
  profile := 0
  generation := 0
  cls := 0
  hMax := 50
  reason := .natural
  cycles := 0
  analysed := 0
  estimated := 0
  dropped := 0
  late := 0
  outstanding := 0
  unaccounted := 0
  clipTotal := 0
  flags := {}
  meanFrequency := 0
  increments := Vector.replicate 12 0
  thd := none
  exceed := ⟨false, false, false, false, false⟩
  stamp := none
  disposition := .placed

/-- The worked sequence of chapter 1 before event 2: F1 on the wire, F2, A1, N1 and P waiting, turn OWN. -/
def arbiter : State :=
  base.setPorts
    { base.ports with
      txB := some (.passed .forward [1])
      forwardQueue := [[1], [2]]
      answerSlot := some ⟨1, 2, 3, .done, []⟩
      noticeQueue := [notice]
      reportSlots := #v[some ⟨broadcast, 0, record⟩, none]
      turn := .own }

/-- The sources and the turn marker after one transmission end on port B. -/
def arbitrated (s : State) : Turn × Option TxSource × Nat × Bool :=
  let p := (after (.transmissionEnd .b) s).ports
  (p.turn, p.txB.map (·.source), p.forwardQueue.length, p.answerSlot.isSome)

/-- Events 2, 4 and 8 of the worked sequence of chapter 1. -/
theorem test_transmissionEnd_arbiter :
    arbitrated arbiter = (.pass, some .answer, 1, true) ∧
    arbitrated (arbiter.setPorts { arbiter.ports with txB := some (.own .answer []), turn := .pass }) =
      (.own, some .forward, 2, false) ∧
    arbitrated (arbiter.setPorts { arbiter.ports with forwardQueue := [[1]], answerSlot := none, turn := .own }) =
      (.pass, some .notice, 0, false) := by decide +kernel

/-! ## Reception -/

theorem test_recognition :
    (recognise (frame 4 [5, 7, 4, 0, 2]).bytes).map (·.kind) = some .request ∧
    recognise (other 64).bytes = none ∧ recognise (frame 0 []).bytes = none ∧ recognise (frame 8 []).bytes = none := by
  decide +kernel

/-- A SAMPLE SET with 48 values of 0. -/
def sample (code : Byte) (sequence : Nat) : RxFrame :=
  frame 1 ([code, 48, BitVec.ofNat 8 (sequence / 256), BitVec.ofNat 8 sequence] ++ List.replicate 144 0)

/-- AGREED(1), forwarding OFF, the intake RUNNING with the expected number `e` and the count `n`. -/
def streaming (e : BitVec 16) (n : BitVec 32) : State :=
  let s := agreed 1
  (s.setTables { s.tables with station := ⟨broadcast, false, true, 20⟩ }).setIntake
    { s.intake with stream := .running, expected := some e, silence := .running 20, count := n }

/-- The expected number, the count, GAP_FILLED and the oldest notice after one SAMPLE SET. -/
def sampled (s : State) (sequence : Nat) : Option (BitVec 16) × BitVec 32 × Bool × Option NoticeBody :=
  let t := after (.receptionEnd .a (sample 1 sequence)) s
  (t.intake.expected, t.intake.count, t.latches.gapFilled, t.ports.noticeQueue.head?.map (·.body))

/-- Events 3, 4, 7 and 10 of the worked sequence of chapter 4. -/
theorem test_receptionEnd_sequence :
    sampled (streaming 1002 2) 1004 = (some 1005, 5, true, none) ∧
    sampled (streaming 1005 5) 1002 = (some 1005, 5, false, none) ∧
    sampled (streaming 1007 7) 1020 = (some 1021, 8, false, some (.stream 1 .gap 1007 1020 0 7)) ∧
    sampled (streaming 65535 9) 2 = (some 3, 13, true, none) := by decide +kernel

/-- ACKNOWLEDGE with the mask 0x3C recorded and `n` acknowledging OFFERs counted. -/
def acknowledging (n : Nat) : State :=
  base.setAgreement
    { base.agreement with
      state := .acknowledge, recorded := 0x3C, ackCount := n, offerTimer := .running 10, ackTimer := .running 500 }

/-- R5, R6, R157: a REQUEST for station 0 on port B is queued and taken, on port A it passes through; and the resolution
of the worked sequence of chapter 2: AGREED(5), Lfix 16,777,216, the increment 32,768, no TRACKER notice. -/
theorem test_receptionEnd_request_and_offer :
    let f := frame 4 [0, 7, 4, 0, 2]
    let t := after (.receptionEnd .a (frame 3 [0x3C, 1])) (acknowledging 2)
    (after (.receptionEnd .b f) base).management.inService.map (fun r => (r.tag, r.kind, r.body)) = some (7, 4, [2]) ∧
    (after (.receptionEnd .a f) base).ports.forwardQueue = [f.bytes] ∧
    t.agreement.state = .agreed 5 ∧ t.lfix 0 = 16777216 ∧ t.former.trackers[0].resampler.map (·.inc) = some 32768 ∧
    t.ports.noticeQueue.map (·.body) = [.agreement 5 .agreed 0xFF 0x3C] := by decide +kernel

/-! ## Timers and counts -/

theorem test_offerTimer_replaces_the_waiting_offer :
    let t := after .offerTimerExpiry
      (State.reset.setAgreement { State.reset.agreement with state := .acknowledge, acceptMask := 0x3C })
    t.ports.offer = .waiting ⟨0x3C, true⟩ ∧ t.agreement.offerTimer = .running 10 := by decide +kernel

/-- PAUSE. -/
def pausing : State :=
  base.setAgreement { base.agreement with state := .pause, offerTimer := .stopped, pauseTimer := .running 100 }

theorem test_acknowledgeTimer_enters_listen :
    let t := after .acknowledgeTimerExpiry (acknowledging 2)
    t.agreement.state = .listen ∧ t.agreement.recorded = 0 ∧ t.agreement.ackTimer = .stopped ∧
      t.ports.offer = .sending ⟨0xFF, false⟩ ∧ t.ports.noticeQueue = [] := by decide +kernel
theorem test_pauseTimer_enters_listen :
    let t := after .pauseTimerExpiry pausing
    t.agreement.state = .listen ∧ t.agreement.pauseTimer = .stopped ∧ t.agreement.offerTimer = .running 10 := by
  decide +kernel

/-- R11, R160, R168: a notice placed while port B is free starts at once, before an answer placed after it. -/
theorem test_notice_starts_before_the_answer :
    let s := (base.modTracker 0 fun k => { k with handover := some ⟨24, ⟨none, none, 0, 0⟩, 8388600, true, 9⟩ })
    let t := after .handoverCancel (srv s 8 [0, 1, 0])
    t.ports.txB.map (·.source) = some .notice ∧ t.ports.answerSlot.isSome = true ∧ t.ports.turn = .pass := by
  decide +kernel
/-- What NoticeStarts asks for, and HandedOver's other case. -/
theorem test_witness_NoticeStarts :
    base.resetLine = false ∧ base.ports.freeB = true ∧ base.tables.station.notices = true ∧
    base.ports.noticeQueue.length < 8 ∧ arbiter.ports.freeB = false := by decide +kernel

/-- Event 8 of the worked sequence of chapter 4. -/
theorem test_silenceTimer_breaks_the_stream :
    let t := after .silenceTimerExpiry (streaming 1021 8)
    t.intake.stream = .waiting ∧ t.intake.expected = none ∧ t.intake.count = 8 ∧
      t.ports.noticeQueue.map (·.body) = [.stream 1 .silence 1021 1021 20 8] := by decide +kernel

/-- Tracker 0 in a state with the crossing age `age` and the holdover count `n`. -/
def tracking (st : TrackerState) (age n : Nat) : State :=
  base.modTracker 0 fun k => { k with state := st, detector := { k.detector with age := age }, holdoverCount := n }

theorem test_noCrossing_at_twice_the_period :
    let t := after (.noCrossing 0) (tracking .locked 255 0)
    t.trackers[0].state = .holdover ∧
      t.ports.noticeQueue.map (·.body) = [.tracker 0 .locked .holdover .noCrossing 0 8388608 0] := by decide +kernel

/-- A pending handover of tracker 0 to channel 24 with this count. -/
def pendingHandover (locked : Bool) (n : Nat) : State :=
  (tracking .locked 0 0).modTracker 0 fun k => { k with handover := some ⟨24, ⟨none, some 5, 0, 1⟩, 8388600, locked, n⟩ }

theorem test_handoverTimeout_at_64 :
    let t := after (.handoverTimeout 0) (pendingHandover false 63)
    t.trackers[0].handover = none ∧
      t.ports.noticeQueue.map (·.body) = [.handover 0 .timedOut 0 24 64 false .locked 8388600] := by decide +kernel
theorem test_holdoverLimit_enters_freerun :
    let t := after (.holdoverLimit 0) (tracking .holdover 300 49)
    t.trackers[0].state = .freerun ∧ t.trackers[0].lfix = 8388608 := by decide +kernel

/-! ## The engine -/

/-- A job of tap 5 with the given order, its points 2^18 at point 16 of V[0] and I[0]. -/
def impulseJob (h : Nat) : Job where
  head := ⟨5, 0, 7, none, 0, 0, ⟨0, h, true, 1⟩, none⟩
  cycle := ⟨3, 128, 8388608, {}, false, 0, false, false⟩
  points := #v[impulse, Vector.replicate 128 0, Vector.replicate 128 0, impulse, Vector.replicate 128 0,
    Vector.replicate 128 0]

theorem test_engineTake_time :
    (after .engineTake (base.setEngine { base.engine with queue := [impulseJob 8, impulseJob 1] })).engine.flight.map
      (fun f => (f.job.head.snapshot.hMax, f.clocks)) = some (8, 13288) := by decide +kernel
/-- The impulse of chapter 7: D_1 and R_1 of the held spectrum, and F of V[0]. -/
theorem test_jobCompletion_impulse :
    let t := after .jobCompletion (base.setEngine { base.engine with flight := some ⟨impulseJob 2, 4072⟩ })
    t.engine.held[5].map (fun x => (x.active, x.reactive, x.fundamental[0], x.harmonic[0])) =
      some ([16773632, 16777216], [0, 0], 16773632, 16777216) ∧
    t.accounts[5].lastCycle = some ⟨0, 7, 3⟩ ∧ t.accounts[5].late = 1 := by decide +kernel

/-! ## Requests -/

/-- READ STATUS right after power-on (R164, R177): POWER, station 0, 50 Hz, NEGOTIATE, 0xFF, 0, LISTEN, 0, WAITING. -/
theorem test_readStatus_at_power_on :
    (answerOf (after .readStatus (srv base 1 []))).map (fun a => (a.1, a.2.take 17)) =
      some (.done, [0, 0, 0, 0, 50, 0, 0xFF, 0, 0, 0, 0, 1, 0, 128, 0, 0, 0]) := by decide +kernel
theorem test_readStatus_sets_streamIntact :
    let t := after .readStatus (srv (streaming 5 5) 1 [])
    t.latches.streamIntact = true ∧ (t.ports.answerSlot.map fun a => a.body.take 2) = some [0, 0] := by decide +kernel

/-- R34: a window of two channels from 47 wraps to channel 0. -/
theorem test_writeChannels_wraps :
    let t := after .writeChannels
      (srv base 2 [47, 2, 0x12, 0x34, 0xFF, 0xFF, 0xFF, 0xFE, 0, 1, 0, 7, 0xFF, 0xFF])
    t.tables.channels[47] = ⟨0x1234, -2⟩ ∧ t.tables.channels[0] = ⟨1, 524287⟩ ∧
      t.tables.channels[1] = ⟨32768, 0⟩ := by decide +kernel
theorem test_writeChannels_refuses_an_offset :
    answerOf (after .writeChannels (srv base 2 [0, 1, 0, 0, 0, 8, 0, 0])) = some (.outOfRange, []) := by decide +kernel

/-- A tap entry as WRITE TAP carries it: enabled, tracker, channels 6 to 11, class 1, h_max 40, accounting ON. -/
def tapBody (tap enabled tracker : Byte) : Bytes :=
  [tap, enabled, tracker, 6, 7, 8, 9, 10, 11, 1, 40, 1, 0] ++ List.replicate 18 0

theorem test_writeTap_applies_at_once :
    let t := after .writeTap (srv base 3 (tapBody 7 1 0))
    answerOf t = some (.done, [0, 0, 1]) ∧ t.tables.taps[7].entry.hMax = 40 ∧
      t.former.taps[7].collect = .joining none := by decide +kernel
/-- R100, R103: an application at once clears points, clips and CHANNEL_ABSENT and keeps the pending samples. -/
theorem test_writeTap_clears_the_tap :
    let s := base.modFormerTap 7 fun f => { f with clips := 4, absent := true, unaccounted := 6 }
    (after .writeTap (srv s 3 (tapBody 7 1 0))).former.taps[7] = tapCleared (.joining none) 6 := by decide +kernel
theorem test_writeTap_stages_on_an_enabled_tap :
    let t := after .writeTap (srv (after .writeTap (srv base 3 (tapBody 7 1 0))) 3 (tapBody 7 0 1))
    answerOf t = some (.done, [1, 0, 1]) ∧ t.tables.taps[7].entry.enabled = true ∧
      t.tables.taps[7].staged.isSome = true := by decide +kernel

theorem test_readTap_default_entry :
    answerOf (after .readTap (srv base 4 [7])) =
      some (.done, [7, 0, 0, 0, 0, 0, 1, 2, 3, 4, 5, 0, 50, 1] ++ List.replicate 20 0) := by decide +kernel
theorem test_readTap_refuses_tap_8 : answerOf (after .readTap (srv base 4 [8])) = some (.outOfRange, []) := by
  decide +kernel

theorem test_writeGroups_wraps :
    let t := after .writeGroups (srv base 5 [50, 2, 4, 9, 3, 255])
    t.tables.groups[48] = ⟨.none, 9⟩ ∧ t.tables.groups[0] = ⟨.g3, 255⟩ := by decide +kernel
theorem test_writeCorrection_waits_for_the_job :
    let body : Bytes := [4, 50, 2, 0x80, 0, 0, 1, 0, 3, 0xFF, 0xFF]
    let t := after .writeCorrection (srv (base.setEngine { base.engine with flight := some ⟨impulseJob 1, 2536⟩ }) 6 body)
    t.ports.answerSlot = none ∧ t.tables.corrections[3][49] = ⟨32767, 0⟩ ∧
      (after .jobCompletion t).tables.corrections[3][49] = ⟨0x8000, 1⟩ ∧
      (after .jobCompletion t).tables.corrections[3][0] = ⟨3, 0xFFFF⟩ ∧
      answerOf (after .jobCompletion t) = some (.done, []) := by decide +kernel

/-- A WRITE TRACKER body: reference, mode and block length as given, holdover limit 50, auto-report ON. -/
def trackerBody (tracker enabled reference mode length : Byte) : Bytes :=
  [tracker, enabled, reference, mode, length, 0, 0, 50, 1, 0, 0, 0, 0, 0]

theorem test_writeTracker_enables_tracker_1 :
    let t := after .writeTracker (srv base 7 (trackerBody 1 1 24 0 32))
    answerOf t = some (.done, []) ∧ t.trackers[1].state = .acquiring ∧ t.former.trackers[1].inForce.length = 32 ∧
      t.former.trackers[1].resampler.map (·.inc) = some 65536 := by decide +kernel
theorem test_writeTracker_refuses_another_reference :
    answerOf (after .writeTracker (srv base 7 (trackerBody 0 1 1 0 10))) = some (.wrongState, []) := by decide +kernel

/-- R82: DONE with tracker 0, channel 47 and Ls = 8,388,608 = 0x800000. -/
theorem test_handoverStart_answer :
    let t := after .handoverStart (srv base 8 [0, 0, 47])
    answerOf t = some (.done, [0, 47, 0, 0x80, 0, 0]) ∧ t.trackers[0].handover.isSome = true := by decide +kernel
theorem test_handoverStart_refuses_the_present_reference :
    answerOf (after .handoverStart (srv base 8 [0, 0, 0])) = some (.outOfRange, []) := by decide +kernel
theorem test_handoverCancel_drops :
    let t := after .handoverCancel (srv (pendingHandover true 9) 8 [0, 1, 0])
    answerOf t = some (.done, []) ∧
      t.ports.noticeQueue.map (·.body) = [.handover 0 .cancelled 0 24 9 true .locked 8388600] := by decide +kernel

theorem test_setTariff_answer :
    answerOf (after .setTariff (srv base 9 [3, 0, 0, 1, 0])) = some (.done, [0, 0, 1, 3, 1, 0, 0, 1, 0, 0]) := by
  decide +kernel

/-- `s` with register 47 of tap 6 replaced. -/
def withRegister (s : State) (g : Register) : State :=
  s.modAccount 6 fun a => { a with registers := upd a.registers 47 g }

/-- R138: the residue 1000 at K = 300 gives 3 quanta and the residue 100. -/
theorem test_setConstant_converts :
    let t := after .setConstant (srv (withRegister base ⟨999999999998, 1000, 0⟩) 10 [6, 0, 0, 0, 0, 0, 0, 1, 0x2C])
    t.accounts[6].constant = 300 ∧ t.accounts[6].registers[47] = ⟨1, 100, 1⟩ ∧
      (t.ports.answerSlot.map fun a => a.body.drop 385) = some [0, 0, 0, 0, 0, 0, 0, 3] := by decide +kernel
theorem test_readRegisters_one_tariff :
    (answerOf (after .readRegisters (srv (withRegister base ⟨572, 0, 15⟩) 11 [6, 3]))).map
        (fun a => (a.2.length, (a.2.drop 68).take 6, (a.2.drop 85).take 12)) =
      some (97, [0, 0, 0, 0, 5, 0x72], [15, 0, 0, 0, 1, 0, 0, 0, 0, 0, 0, 0]) := by decide +kernel

/-- A RESTORE body for a tap whose counts are all 999,999,999,999 and whose rollover counts are all `v`. -/
def restoreBody (tap v : Byte) : Bytes := tap :: List.replicate 288 0x99 ++ List.replicate 48 v

theorem test_restore_adds :
    let t := after .restore (srv (withRegister base ⟨2, 5, 1⟩) 12 (restoreBody 6 14))
    t.accounts[6].registers[47] = ⟨1, 5, 15⟩ ∧ t.accounts[6].registers[0] = ⟨999999999999, 0, 14⟩ ∧
      t.accounts[6].restore = .closed := by decide +kernel
theorem test_clear_needs_accounting_off :
    answerOf (after .clear (srv base 13 [6])) = some (.wrongState, []) ∧
    (let s := base.modTapSlot 6 fun x => { x with entry := { x.entry with accounting := false } }
     let t := after .clear (srv (withRegister s ⟨2, 5, 1⟩) 13 [6])
     t.accounts[6].registers[47] = ⟨0, 0, 0⟩ ∧ t.accounts[6].restore = .closed) := by decide +kernel

/-- The part with one record of tap 2, block 9, in the ring, and tap 2's block number at 10. -/
def recorded : State :=
  (base.setRecords { base.records with ring := [record] }).modAccount 2 fun a => { a with blockNumber := 10 }

theorem test_readRecord_results :
    (answerOf (after .readRecord (srv recorded 14 [2, 0, 0, 0, 9]))).map (fun a => (a.1, a.2.take 12, a.2.length)) =
      some (.done, [0xA5, 1, 0, 112, 2, 0, 0, 0, 0, 0, 0, 9], 116) ∧
    answerOf (after .readRecord (srv recorded 14 [2, 0, 0, 0, 10])) = some (.notYet, []) ∧
    answerOf (after .readRecord (srv recorded 14 [2, 0, 0, 0, 8])) = some (.gone, []) := by decide +kernel

/-- The spectrum store of tap 5 holds one order: voltages (1, -1), currents (2, 0). -/
def stored : State :=
  base.setEngine
    { base.engine with
      store := upd base.engine.store 5 (some ⟨0, 7, 3, 1, 0, 1, #v[[⟨1, -1⟩], [⟨1, -1⟩], [⟨1, -1⟩], [⟨2, 0⟩], [⟨2, 0⟩],
        [⟨2, 0⟩]]⟩) }

theorem test_readSpectrum_voltages :
    answerOf (after .readSpectrum (srv stored 15 [5, 0])) =
      some (.done, [5, 0, 0, 0, 0, 0, 7, 3, 0, 1, 0, 1, 0, 0, 1, 0xFF, 0xFF, 0xFF, 0, 0, 1, 0xFF, 0xFF, 0xFF, 0, 0, 1,
        0xFF, 0xFF, 0xFF]) := by decide +kernel
theorem test_readSpectrum_none_stored :
    answerOf (after .readSpectrum (srv stored 15 [4, 0])) = some (.wrongState, []) := by decide +kernel

theorem test_setAgreement_fixed :
    let t := after .setAgreement (srv base 16 [1, 0x80, 7])
    answerOf t = some (.done, [3, 7]) ∧ t.agreement.state = .agreed 7 ∧ t.lfix 0 = 25165824 := by decide +kernel
theorem test_setAgreement_refuses_a_code_outside_the_mask :
    answerOf (after .setAgreement (srv base 16 [0, 0x7F, 7])) = some (.outOfRange, []) := by decide +kernel
theorem test_setStation_answer :
    let t := after .setStation (srv base 17 [2, 0, 0, 0, 0, 1, 0, 1, 255])
    answerOf t = some (.done, [2, 0, 0, 0, 0, 1, 0, 1, 255]) ∧ t.tables.station = ⟨0x020000000001, false, true, 255⟩ := by
  decide +kernel
theorem test_reset_waits_for_its_answer :
    let t := after .reset (srv base 18 [])
    t.management.startCause = .power ∧ t.management.resetWaiting = true ∧
      (after (.transmissionEnd .b) t).management.startCause = .request := by decide +kernel

/-! ## Witnesses: for each statement with hypotheses, concrete states and operands that meet them, clause by clause -/

theorem test_witness_WhatFewCommandsChange :
    (∃ t, exec .clear base = .next t) ∧ (∀ a f, Instr.clear ≠ .powerOn a f) := ⟨⟨_, rfl⟩, fun _ _ h => nomatch h⟩
theorem test_witness_AssertedResetHoldsThePart :
    (base.setResetLine true).resetLine = true ∧ (∀ a f, Instr.engineTake ≠ .powerOn a f) ∧
      Instr.engineTake ≠ .pinResetRelease ∧ (∀ port, Instr.engineTake ≠ .linkUp port) ∧
      (∀ port, Instr.engineTake ≠ .linkDown port) :=
  ⟨rfl, fun _ _ h => (nomatch h), (nofun), fun _ h => (nomatch h), fun _ h => (nomatch h)⟩
theorem test_witness_EventsNotDue :
    (∀ r, ¬Serving base .reset r) ∧
    (base.pending = [] ∧ (agreed 0).agreement.offerTimer = .stopped ∧ base.agreement.ackTimer = .stopped ∧
      base.agreement.pauseTimer = .stopped ∧ base.intake.silence = .stopped ∧
      ((tracking .locked 254 0).trackers[0].detector.age + 1) * 65536 < 2 * (tracking .locked 254 0).lnom ∧
      base.trackers[1].handover = none ∧
      (tracking .holdover 0 48).trackers[0].holdoverCount + 1 <
        (tracking .holdover 0 48).tables.settings[0].holdoverLimit ∧
      base.engine.queue = [] ∧ base.engine.flight = none ∧ base.ports.txA = none ∧ base.ports.txB = none ∧
      base.ports.link .a = .up ∧ (base.setResetLine true).resetLine = true ∧ base.resetLine = false) ∧
    ((tracking .holdover 255 0).trackers[0].state ≠ .acquiring ∧ (tracking .locked 0 49).trackers[0].state ≠ .holdover ∧
      (pendingHandover true 63).trackers[0].handover.map (·.locked) = some true ∧
      (pendingHandover false 62).trackers[0].handover.map (·.timeout) = some 62) ∧
    Serving (srv base 8 [0, 1, 3]) .handover (req 8 [0, 1, 3]) ∧
    Serving (srv base 8 [0, 0, 3]) .handover (req 8 [0, 0, 3]) :=
  ⟨fun _ h => (nomatch h.service), by decide +kernel, by decide +kernel,
    serving_srv (by decide +kernel) (by decide +kernel), serving_srv (by decide +kernel) (by decide +kernel)⟩

/-- Bodies out of range, each at the first value beyond one bound of its kind. -/
def outOfRange : List (RequestKind × Byte × Bytes) :=
  [(.writeChannels, 2, [48, 1, 0, 0, 0, 0, 0, 0]), (.writeChannels, 2, [0, 0]),
   (.writeChannels, 2, [0, 49] ++ List.replicate 294 0), (.writeChannels, 2, [0, 1, 0, 0, 0, 8, 0, 0]),
   (.writeChannels, 2, [0, 1, 0, 0, 0xFF, 0xF7, 0xFF, 0xFF]), (.writeTap, 3, tapBody 8 1 0),
   (.writeTap, 3, tapBody 0 2 0), (.writeTap, 3, tapBody 0 1 2), (.writeTap, 3, (tapBody 0 1 0).set 8 6),
   (.writeTap, 3, (tapBody 0 1 0).set 8 48), (.writeTap, 3, (tapBody 0 1 0).set 9 5),
   (.writeTap, 3, (tapBody 0 1 0).set 10 51), (.writeTap, 3, (tapBody 0 1 0).set 11 2), (.readTap, 4, [8]),
   (.writeGroups, 5, [1, 1, 0, 0]), (.writeGroups, 5, [51, 1, 0, 0]), (.writeGroups, 5, [2, 1, 5, 0]),
   (.writeCorrection, 6, [0, 1, 1, 0, 0, 0, 0]), (.writeCorrection, 6, [5, 1, 1, 0, 0, 0, 0]),
   (.writeCorrection, 6, [1, 51, 1, 0, 0, 0, 0]), (.writeCorrection, 6, [1, 1, 0]),
   (.writeTracker, 7, trackerBody 0 1 0 0 33), (.writeTracker, 7, trackerBody 0 1 0 0 7),
   (.writeTracker, 7, trackerBody 0 1 48 0 10), (.writeTracker, 7, trackerBody 0 1 0 1 10),
   (.writeTracker, 7, (trackerBody 0 1 0 0 8).set 6 8), (.writeTracker, 7, (trackerBody 0 1 0 0 8).set 7 0),
   (.writeTracker, 7, (trackerBody 0 1 0 0 8).set 9 65), (.handover, 8, [0, 2, 0]), (.handover, 8, [2, 1, 0]),
   (.setTariff, 9, [4]), (.setConstant, 10, [0, 1, 0, 0, 0, 0, 0, 0, 0]), (.readRegisters, 11, [0, 5]),
   (.restore, 12, restoreBody 0 16), (.restore, 12, (restoreBody 0 15).set 288 0x9A), (.clear, 13, [8]),
   (.readRecord, 14, [8, 0, 0, 0, 0]), (.readSpectrum, 15, [0, 2]), (.setAgreement, 16, [0, 1, 8]),
   (.setAgreement, 16, [2, 1, 0]), (.setAgreement, 16, [0, 0xFE, 0]), (.setStation, 17, [0, 0, 0, 0, 0, 0, 1, 1, 0])]

theorem test_witness_OutOfRangeRequestsRefused :
    base.resetLine = false ∧ base.engine.window = none ∧
    ∀ x ∈ outOfRange, (req x.2.1 x.2.2).validKind = some x.1 ∧ bodyInRange x.2.2 x.1 = false := by decide +kernel
theorem test_witness_PinReset : base.resetLine = false ∧ (base.setResetLine true).resetLine = true := ⟨rfl, rfl⟩

/-- A served RESET whose answer is on the wire, in agreement mode `m`. -/
def resetting (m : AgreementMode) : State :=
  let s := (agreed 3).setAgreement { (agreed 3).agreement with mode := m, fixedCode := 3 }
  (s.setManagement ⟨[], none, .pin, true⟩).setPorts
    { s.ports with txB := some (.own .answer []), answerSlot := some ⟨1, 2, 18, .done, []⟩ }

/-- For RequestResetAtEndOfAnswer and StationSettingsAtResets. -/
theorem test_witness_RequestReset :
    ∀ m ∈ [AgreementMode.negotiate, .fixed], (resetting m).resetLine = false ∧
      (resetting m).management.resetWaiting = true ∧ (resetting m).ports.txB.map (·.source) = some .answer ∧
      (resetting m).agreement.mode = m := by decide +kernel

/-- Both ports DOWN, the queues as given. -/
def downWith (offer : OfferPlace) (relay forward : List Bytes) (answer : Option Answer) : State :=
  base.setPorts
    { Ports.cleared .down .down with offer := offer, relayQueue := relay, forwardQueue := forward, answerSlot := answer }

theorem test_witness_LinkEstablished :
    let s1 := downWith (.waiting ⟨1, true⟩) [] [[1]] none
    let s2 := downWith .empty [[1]] [] (some ⟨1, 2, 3, .done, []⟩)
    let s3 := downWith .empty [] [] none
    (s1.ports.linkA = .down ∧ s1.resetLine = false ∧ s1.ports.txA = none ∧ s1.ports.offer = .waiting ⟨1, true⟩) ∧
    (s2.ports.linkA = .down ∧ s2.ports.offer = .empty ∧ s2.ports.relayQueue = [1] :: []) ∧
    (s3.ports.offer = .empty ∧ s3.ports.relayQueue = []) ∧
    (s1.ports.linkB = .down ∧ s1.ports.txB = none ∧ s1.ports.forwardQueue = [1] :: [] ∧ s1.ports.answerSlot = none ∧
      s1.ports.noticeQueue = [] ∧ s1.ports.reportSlots = #v[none, none]) ∧
    (s2.ports.linkB = .down ∧ s2.ports.forwardQueue = [] ∧ s2.ports.answerSlot = some ⟨1, 2, 3, .done, []⟩) := by
  decide +kernel

/-- The part with this transmission on each port. -/
def sending (a b : TxSource) (offer : OfferPlace) : State :=
  base.setPorts
    { base.ports with
      txA := some ⟨a, [], true, 0⟩
      txB := some ⟨b, [], true, 0⟩
      offer := offer
      noticeQueue := [notice]
      reportSlots := #v[some ⟨broadcast, 0, record⟩, some ⟨broadcast, 0, record⟩] }

/-- For LinkLost and TransmissionEndRemovesItem: every source on the wire, an OFFER replaced, an answer ending with a
request queued that fails its validation (kind 0) and one that passes it. -/
theorem test_witness_transmissions_that_end :
    (base.ports.txA = none ∧ base.ports.txB = none) ∧
    (∀ x ∈ [TxSource.forward, .notice, .report 0, .report 1], (sending .relay x .empty).resetLine = false ∧
      (sending .relay x .empty).ports.txB.map (·.source) = some x ∧ x ≠ .answer) ∧
    (sending .relay .notice .empty).ports.txA.map (·.source) = some .relay ∧
    (sending .offer .notice (.sending ⟨1, true⟩)).ports.offer = .sending ⟨1, true⟩ ∧
    (sending .offer .notice (.replaced ⟨1, true⟩ ⟨2, true⟩)).ports.linkA = .up ∧
    (∀ k ∈ [(0 : Byte), 1], ∀ s ∈ [(sending .relay .answer .empty).setManagement ⟨[req k []], none, .power, false⟩],
      s.ports.txB.map (·.source) = some .answer ∧ s.management.resetWaiting = false ∧ s.management.inService = none) ∧
    (req 0 []).validKind = none ∧ (req 1 []).validKind.isSome = true := by decide +kernel
theorem test_witness_TransmitChoices :
    let p := base.ports
    let two := { arbiter.ports with txB := none, answerSlot := none, noticeQueue := [],
                                    reportSlots := #v[some ⟨broadcast, 0, record⟩, some ⟨broadcast, 0, record⟩] }
    (p.linkA = .up ∧ p.txA = none ∧ p.offer = .empty ∧ p.relayQueue = [] ∧ p.linkB = .up ∧ p.txB = none ∧
      p.forwardQueue = [] ∧ p.answerSlot = none ∧ p.noticeQueue = [] ∧ p.reportSlots[0] = none) ∧
    (arbiter.ports.answerSlot.isSome = true ∧ arbiter.ports.turn = .own ∧ two.linkB = .up ∧ two.txB = none ∧
      two.answerSlot = none ∧ two.noticeQueue = [] ∧ two.reportSlots[0] = some ⟨broadcast, 0, record⟩ ∧
      two.reportSlots[1].isSome = true ∧ two.forwardQueue = [1] :: [[2]] ∧ two.turn = .own) ∧
    ((sending .relay .notice .empty).ports.answerSlot = none ∧
      (sending .relay .notice .empty).ports.noticeQueue = notice :: []) := by decide +kernel

/-! For each invariant, a state that meets it with a step to take. -/

theorem test_witness_QueuesKeepTheirCapacity :
    base.WithinCapacity ∧ ∃ t, step (base.setPending [.linkUp .a]) = .next t :=
  ⟨⟨by decide +kernel, by decide +kernel, by decide +kernel, by decide +kernel, by decide +kernel, by decide +kernel⟩,
    ⟨_, rfl⟩⟩

theorem test_witness_BadFramesDiscarded :
    base.resetLine = false ∧ base.ports.link .b = .up ∧ (other 63).bytes.length < 64 ∧
      1522 < (other 1523).bytes.length ∧ State.reset.ports.link .a = .down := by decide +kernel
theorem test_witness_RecognitionTests :
    (64 ≤ (frame 7 []).bytes.length ∧ (recognise (frame 7 []).bytes).isSome = true) ∧
    (frame 7 []).bytes.drop 12 = ((frame 7 []).bytes.set 5 0).drop 12 := by decide +kernel

/-- `s` with `n` frames in the forward queue and `m` in the relay queue. -/
def queued (s : State) (n m : Nat) : State :=
  s.setPorts { s.ports with forwardQueue := List.replicate n [1], relayQueue := List.replicate m [1] }

theorem test_witness_OtherFramesPass :
    Arrives (queued base 31 7) .a (frame 5 []) ∧ Arrives (queued base 32 8) .b (other 1522) ∧
    (recognise (frame 5 []).bytes).map (·.kind) = some .answer ∧ recognise (other 1522).bytes = none ∧
    (queued base 31 7).ports.forwardQueue.length < 32 ∧ 32 ≤ (queued base 32 8).ports.forwardQueue.length ∧
    (queued base 31 7).ports.relayQueue.length < 8 ∧ 8 ≤ (queued base 32 8).ports.relayQueue.length :=
  ⟨arrives_of (by decide +kernel), arrives_of (by decide +kernel), by decide +kernel, by decide +kernel,
    by decide +kernel, by decide +kernel, by decide +kernel, by decide +kernel⟩

/-- The stream frame that a recognised frame holds. -/
def streamOf (f : RxFrame) : StreamFrame := (recognise f.bytes).getD ⟨.offer, 0, []⟩

theorem streamArrives_of {s : State} {port : Port} {f : RxFrame} {k : FrameKind}
    (h : (s.resetLine = false ∧ s.ports.link port = .up ∧ f.fcsGood = true ∧ 64 ≤ f.bytes.length ∧
      f.bytes.length ≤ 1522) ∧ recognise f.bytes = some (streamOf f) ∧ (streamOf f).kind = k) :
    StreamArrives s port f k (streamOf f) := ⟨arrives_of h.1, h.2.1, h.2.2⟩

/-- `s` with `n` requests queued. -/
def requested (s : State) (n : Nat) : State :=
  s.setManagement { s.management with requestQueue := List.replicate n (req 1 []) }

theorem test_witness_RequestArrival :
    (∀ s ∈ [requested base 4, requested (srv base 4 [2]) 3, base], s.resetLine = false) ∧
    StreamArrives (requested base 4) .b (frame 4 [0, 7, 4, 0, 2]) .request (streamOf (frame 4 [0, 7, 4, 0, 2])) ∧
    StreamArrives base .b (frame 4 [0, 7, 0, 0]) .request (streamOf (frame 4 [0, 7, 0, 0])) ∧
    byteAt (streamOf (frame 4 [0, 7, 4, 0, 2])).carried 0 = base.straps.station.toNat ∧
    (requested (srv base 4 [2]) 3).management.inService.isSome = true ∧
    (readRequest (frame 4 [0, 7, 4, 0, 2]).bytes (streamOf (frame 4 [0, 7, 4, 0, 2]))).validKind.isSome = true ∧
    (readRequest (frame 4 [0, 7, 0, 0]).bytes (streamOf (frame 4 [0, 7, 0, 0]))).validKind = none ∧
    ((req 9 [3, 0, 0, 0]).validKind = none ∧ (req 9 [3, 0, 0, 0, 100]).validKind = some .setTariff ∧
      { req 18 [] with stated := 3 }.validKind = none ∧ (req 19 []).validKind = none) :=
  ⟨by decide +kernel, streamArrives_of (by decide +kernel), streamArrives_of (by decide +kernel), by decide +kernel,
    by decide +kernel, by decide +kernel, by decide +kernel, by decide +kernel⟩

/-! ### Agreement -/

theorem offerArrives_of {s : State} {f : RxFrame} {mask : BitVec 8} {ack : Bool}
    (h : ((s.resetLine = false ∧ s.ports.link .a = .up ∧ f.fcsGood = true ∧ 64 ≤ f.bytes.length ∧
      f.bytes.length ≤ 1522) ∧ recognise f.bytes = some (streamOf f) ∧ (streamOf f).kind = .offer) ∧
      2 ≤ (streamOf f).stated ∧ (streamOf f).carried.getD 0 0 = mask ∧
      readBool (byteAt (streamOf f).carried 1) = some ack) : OfferArrives s f mask ack :=
  ⟨streamOf f, streamArrives_of h.1, h.2.1, h.2.2.1, h.2.2.2⟩

/-- LISTEN with the candidate mask 0x3C matched `n` times. -/
def listening (n : Nat) : State := base.setAgreement { base.agreement with candidate := 0x3C, matchCount := n }

theorem test_witness_PartnerOfferInListen :
    OfferArrives (listening 2) (frame 3 [0x3C, 0]) 0x3C false ∧ (listening 2).agreement.state = .listen ∧
    OfferArrives (listening 2) (frame 3 [0x30, 1]) 0x30 true :=
  ⟨offerArrives_of (by decide +kernel), rfl, offerArrives_of (by decide +kernel)⟩

/-- ACKNOWLEDGE with a recorded mask that shares no code with the accept mask. -/
def uncommon : State :=
  (acknowledging 2).setAgreement { (acknowledging 2).agreement with acceptMask := 0xC3 }

/-- Each clause: ack 0; counts 1 and 2 with common codes up to 5; none in common; another mask. -/
theorem test_witness_PartnerOfferInAcknowledge :
    OfferArrives (acknowledging 1) (frame 3 [0x3C, 0]) 0x3C false ∧
    OfferArrives (acknowledging 1) (frame 3 [0x3C, 1]) 0x3C true ∧
    OfferArrives (acknowledging 2) (frame 3 [0x3C, 1]) 0x3C true ∧
    OfferArrives uncommon (frame 3 [0x3C, 1]) 0x3C true ∧
    OfferArrives (acknowledging 2) (frame 3 [0x3D, 1]) 0x3D true ∧
    ((acknowledging 1).agreement.ackCount < 2 ∧ 2 ≤ (acknowledging 2).agreement.ackCount ∧
      uncommon.agreement.recorded &&& uncommon.agreement.acceptMask = 0 ∧
      (0x3C &&& 0xFF : BitVec 8).getLsbD 5 = true ∧
      (∀ q : ProfileCode, (0x3C &&& 0xFF : BitVec 8).getLsbD q.val = true → q ≤ 5)) :=
  ⟨offerArrives_of (by decide +kernel), offerArrives_of (by decide +kernel), offerArrives_of (by decide +kernel),
    offerArrives_of (by decide +kernel), offerArrives_of (by decide +kernel), by decide +kernel⟩

/-- NO_COMMON with 0x3C recorded. -/
def uncommonState : State :=
  base.setAgreement { base.agreement with state := .noCommon, recorded := 0x3C, offerTimer := .stopped }

/-- AGREED(3) under FIXED. -/
def fixed : State := (agreed 3).setAgreement { (agreed 3).agreement with mode := .fixed, fixedCode := 3 }

theorem test_witness_PartnerOfferElsewhere :
    StreamArrives base .a (frame 3 [1]) .offer (streamOf (frame 3 [1])) ∧ (streamOf (frame 3 [1])).stated < 2 ∧
    StreamArrives base .a (frame 3 [1, 2]) .offer (streamOf (frame 3 [1, 2])) ∧
    2 ≤ byteAt (streamOf (frame 3 [1, 2])).carried 1 ∧
    OfferArrives pausing (frame 3 [1, 0]) 1 false ∧ OfferArrives uncommonState (frame 3 [0x3C, 0]) 0x3C false ∧
    OfferArrives uncommonState (frame 3 [1, 1]) 1 true ∧ OfferArrives fixed (frame 3 [1, 0]) 1 false ∧
    OfferArrives (agreed 3) (frame 3 [0x0F, 0]) 0x0F false ∧ OfferArrives (agreed 3) (frame 3 [0x0F, 1]) 0x0F true ∧
    (pausing.agreement.state = .pause ∧ uncommonState.agreement.state = .noCommon ∧
      fixed.agreement.state = .agreed 3 ∧ fixed.agreement.mode = .fixed ∧ (agreed 3).agreement.mode = .negotiate) :=
  ⟨streamArrives_of (by decide +kernel), by decide +kernel, streamArrives_of (by decide +kernel), by decide +kernel,
    offerArrives_of (by decide +kernel), offerArrives_of (by decide +kernel), offerArrives_of (by decide +kernel),
    offerArrives_of (by decide +kernel), offerArrives_of (by decide +kernel), offerArrives_of (by decide +kernel),
    by decide +kernel⟩

/-- `s` with forwarding OFF. -/
def quiet (s : State) : State :=
  s.setTables { s.tables with station := { s.tables.station with forwarding := false } }

/-- LISTEN with `n` frames of code 3 counted. -/
def adopting (n : Nat) (mask : BitVec 8) : State :=
  quiet (base.setAgreement { base.agreement with adoptionCode := 3, adoptionCount := n, acceptMask := mask })

theorem sampleArrives_of {s : State} {f : RxFrame}
    (h : (s.resetLine = false ∧ s.ports.link .a = .up ∧ f.fcsGood = true ∧ 64 ≤ f.bytes.length ∧
      f.bytes.length ≤ 1522) ∧ recognise f.bytes = some (streamOf f) ∧ (streamOf f).kind = .sampleSet) :
    SampleArrives s f (readSampleSet (streamOf f)) := ⟨streamOf f, streamArrives_of h, rfl⟩

/-- The clauses: the 199th and 200th frame, a code outside the mask, a code above 7, PAUSE, AGREED with another code or
too short a length, and a frame with forwarding ON. -/
theorem test_witness_UnprocessedSampleFrames :
    SampleArrives (adopting 198 0xFF) (sample 3 0) (readSampleSet (streamOf (sample 3 0))) ∧
    SampleArrives (adopting 199 0xFF) (sample 3 0) (readSampleSet (streamOf (sample 3 0))) ∧
    SampleArrives (adopting 199 0xF7) (sample 3 0) (readSampleSet (streamOf (sample 3 0))) ∧
    SampleArrives (adopting 199 0xFF) (sample 8 0) (readSampleSet (streamOf (sample 8 0))) ∧
    SampleArrives (quiet pausing) (sample 3 0) (readSampleSet (streamOf (sample 3 0))) ∧
    SampleArrives (quiet (agreed 1)) (frame 1 [1, 48, 0, 0]) (readSampleSet (streamOf (frame 1 [1, 48, 0, 0]))) ∧
    SampleArrives base (sample 3 0) (readSampleSet (streamOf (sample 3 0))) ∧
    (base.tables.station.forwarding = true ∧ (adopting 198 0xFF).tables.station.forwarding = false ∧ (adopting 198 0xFF).agreement.offerSeen = false ∧
      (readSampleSet (streamOf (sample 3 0))).code = 3 ∧ (readSampleSet (streamOf (sample 8 0))).code = 8 ∧
      (readSampleSet (streamOf (frame 1 [1, 48, 0, 0]))).stated = 4) :=
  ⟨sampleArrives_of (by decide +kernel), sampleArrives_of (by decide +kernel), sampleArrives_of (by decide +kernel),
    sampleArrives_of (by decide +kernel), sampleArrives_of (by decide +kernel), sampleArrives_of (by decide +kernel),
    sampleArrives_of (by decide +kernel), by decide +kernel⟩
theorem test_witness_AgreementTimers :
    base.agreement.state = .listen ∧ State.reset.agreement.offerTimer = .running 10 ∧ State.reset.resetLine = false ∧
    (acknowledging 0).agreement.state = .acknowledge ∧ (acknowledging 0).agreement.offerTimer = .running 10 ∧
    (acknowledging 0).agreement.ackTimer ≠ .stopped ∧ pausing.agreement.pauseTimer ≠ .stopped := by decide +kernel

/-- SET AGREEMENT from LISTEN and from AGREED, to both modes. -/
theorem test_witness_SetAgreement :
    Serving (srv base 16 [0, 0x80, 7]) .setAgreement (req 16 [0, 0x80, 7]) ∧
    Serving (srv (agreed 3) 16 [1, 1, 0]) .setAgreement (req 16 [1, 1, 0]) ∧
    (byteAt [0, 0x80, 7] 0 = AgreementMode.negotiate.code ∧ byteAt [1, 1, 0] 0 = AgreementMode.fixed.code ∧
      (0x80 : BitVec 8).getLsbD 7 = true ∧ (1 : BitVec 8).getLsbD 0 = true) :=
  ⟨serving_srv (by decide +kernel) (by decide +kernel), serving_srv (by decide +kernel) (by decide +kernel),
    by decide +kernel⟩

/-! ### Intake -/

theorem test_witness_IntegerArithmetic : 0 < 2 ∧ 2 * ((-3 : Int) - roundDiv (-3) 2 * 2).natAbs = 2 := by decide +kernel

theorem test_witness_StreamFramesForwarded :
    StreamArrives (queued (agreed 1) 32 0) .a (sample 1 0) .sampleSet (streamOf (sample 1 0)) ∧
    StreamArrives (quiet base) .a (frame 2 [0, 0, 0, 9]) .timeMark (streamOf (frame 2 [0, 0, 0, 9])) :=
  ⟨streamArrives_of (by decide +kernel), streamArrives_of (by decide +kernel)⟩

theorem admitted_of {s : State} {x : SampleSet} {p : ProfileCode}
    (h : s.agreement.state = .agreed p ∧ s.agreement.profile = p ∧ x.code = p.val ∧ x.valueCount = channelCount p ∧
      4 + 3 * x.valueCount ≤ x.stated) : Admitted s x p := ⟨h.1, h.2.1, h.2.2.1, h.2.2.2.1, h.2.2.2.2⟩

/-- The sample set of a frame. -/
def setOf (f : RxFrame) : SampleSet := readSampleSet (streamOf f)

/-- WAITING with forwarding ON, and with it OFF the distances 0, 1, 8, 9, 32767 and 32768 from the expected number
65530; a value that clamps. -/
theorem test_witness_AdmittedSampleFrames :
    SampleArrives (agreed 1) (sample 1 0) (setOf (sample 1 0)) ∧ Admitted (agreed 1) (setOf (sample 1 0)) 1 ∧
    SampleArrives (streaming 65530 9) (sample 1 2) (setOf (sample 1 2)) ∧
    Admitted (streaming 65530 9) (setOf (sample 1 2)) 1 ∧
    ((agreed 1).intake.stream = .waiting ∧ (agreed 1).tables.station.forwarding = true ∧
      (streaming 65530 9).tables.station.forwarding = false ∧ (streaming 65530 9).intake.stream = .running ∧
      (streaming 65530 9).intake.expected = some 65530 ∧
      ([65530, 65531, 2, 3, 32761, 32762].map fun n => ((setOf (sample 1 n)).sequence - 65530).toNat) =
        [0, 1, 8, 9, 32767, 32768]) ∧
    (let f := frame 1 ([0, 24, 0, 0, 0x7F, 0xFF, 0xFF] ++ List.replicate 69 0)
     calibratedValue (agreed 0) (setOf f) 0 ≠ roundDiv (((setOf f).value 0 - 0) * 32768) 32768) :=
  ⟨sampleArrives_of (by decide +kernel), admitted_of (by decide +kernel), sampleArrives_of (by decide +kernel),
    admitted_of (by decide +kernel), by decide +kernel, by decide +kernel⟩
theorem test_witness_SilenceExpiry :
    (streaming 1021 8).resetLine = false ∧ (streaming 1021 8).intake.stream = .running ∧
    (streaming 1021 8).intake.silence = .running 20 ∧ (streaming 1021 8).intake.expected = some 1021 := by
  decide +kernel
theorem test_witness_TimeMarkArrival :
    StreamArrives base .a (frame 2 [0, 0, 1, 0]) .timeMark (streamOf (frame 2 [0, 0, 1, 0])) ∧
    (streamOf (frame 2 [0, 0, 1, 0])).stated = 4 ∧
    StreamArrives base .a (frame 2 [0, 0, 1]) .timeMark (streamOf (frame 2 [0, 0, 1])) ∧
    (streamOf (frame 2 [0, 0, 1])).stated = 3 :=
  ⟨streamArrives_of (by decide +kernel), by decide +kernel, streamArrives_of (by decide +kernel), by decide +kernel⟩

/-! ### Trackers -/

/-- A crossing onto 0 exactly; M at 3/4 and 5/4 of 8,388,608 and just beyond; a period at each end of the band. -/
theorem test_witness_MeasurementArithmetic :
    ((-1 : Int) < 0 ∧ crossingTime 1 (-1) 0 = 65536) ∧
    ([6291455, 6291456, 10485760, 10485761].map fun m => classifyAt 8388608 (some 0) (BitVec.ofNat 48 m)) =
      [.ignored, .accepted 6291456 6291456, .accepted 10485760 10485760, .rejected 10485761] ∧
    (7 * 8388608 ≤ 8 * 7340032 ∧ 8 * 9437184 ≤ 9 * 8388608 ∧ filterPeriod 8388608 7340032 6291456 = 7340032 ∧
      filterPeriod 8388608 9437184 10485760 = 9437184) ∧
    interpolate 5 (-5) 1 2 = 0 := by decide +kernel

theorem lfix_base (t : TrackerId) : base.InBand (base.lfix t) := by
  revert t
  unfold State.InBand
  decide +kernel

theorem noHandover_base (t : TrackerId) : base.trackers[t].handover = none := by
  revert t
  decide +kernel

theorem trackersSound_base : base.TrackersSound :=
  ⟨lfix_base, fun t h e => (by rw [noHandover_base t] at e; cases e), fun t _ => noHandover_base t⟩

theorem test_witness_PeriodsStayInBand :
    base.TrackersSound ∧ ∃ t, step (base.setPending [.silenceTimerExpiry]) = .next t :=
  ⟨trackersSound_base, ⟨_, rfl⟩⟩
theorem test_witness_ResamplersStayPlaced : base.TrackersSound ∧ base.ResamplersSound := by
  refine ⟨trackersSound_base, ⟨by decide +kernel, fun t r h => ?_, fun t r h => ?_⟩⟩
  · have key : ∀ u : TrackerId, ∀ x ∈ base.former.trackers[u].resampler,
        x.acc ≤ 8388607 ∧ x.point = x.acc / 65536 ∧ x.inc = 2 ^ 39 / x.period := by decide +kernel
    exact ⟨(key t r h).1, (key t r h).2.1, (key t r h).2.2⟩
  · have key : ∀ u : TrackerId, ∀ x ∈ base.former.trackers[u].resampler,
        7 * base.lnom ≤ 8 * x.period ∧ 8 * x.period ≤ 9 * base.lnom := by decide +kernel
    exact key t r h

/-- Tracker 0 in a state with these counts of accepted crossings, rejections and dips, its half sum 0 and its dip
threshold 1. -/
def counting (st : TrackerState) (locks rejections dips : Nat) : State :=
  ((tracking st 0 0).modTracker 0 fun k =>
    { k with detector := { k.detector with lockCount := locks }, rejections := rejections, dipCount := dips }).modSettings
      0 fun x => { x with dipThreshold := 1 }

/-- The fourth accepted crossing, at the edge of the window and beyond it; the third rejection; the second dip; the
crossing age one short of its limit and at it. -/
theorem test_witness_CrossingsAndDipsMoveTheTracker :
    ((counting .acquiring 3 0 0).trackers[0].state = .acquiring ∧
      ((8519680 : Int) - 8388608).natAbs ≤ 8388608 / 64 ∧ ¬((8519681 : Int) - 8388608).natAbs ≤ 8388608 / 64) ∧
    ((counting .locked 0 2 0).trackers[0].rejections = 2 ∧ (counting .locked 0 1 0).trackers[0].rejections < 2) ∧
    ((counting .freerun 0 0 0).trackers[0].state = .freerun) ∧
    ((counting .locked 0 0 1).tables.settings[0].dipThreshold ≠ 0 ∧
      (counting .locked 0 0 1).trackers[0].halfSum / 64 < (counting .locked 0 0 1).tables.settings[0].dipThreshold ∧
      (counting .locked 0 0 1).trackers[0].dipCount = 1) ∧
    (let s := tracking .locked 255 0
     let t := tracking .acquiring 256 0
     ¬2 * s.lnom ≤ s.trackers[0].detector.age * 65536 ∧ 2 * t.lnom ≤ t.trackers[0].detector.age * 65536) := by
  decide +kernel
theorem test_witness_TrackerCountsReachTheirLimits :
    ((tracking .acquiring 255 0).resetLine = false ∧ (tracking .acquiring 255 0).trackers[0].state = .acquiring ∧
      2 * (tracking .acquiring 255 0).lnom ≤ min 65535 ((tracking .acquiring 255 0).trackers[0].detector.age + 1) * 65536) ∧
    ((pendingHandover false 63).trackers[0].handover.map (fun h => (h.locked, h.timeout)) = some (false, 63)) ∧
    ((tracking .holdover 0 49).trackers[0].state = .holdover ∧
      (tracking .holdover 0 49).tables.settings[0].holdoverLimit ≤
        (tracking .holdover 0 49).trackers[0].holdoverCount + 1) := by decide +kernel
theorem test_witness_HandoverRequests :
    Serving (srv base 8 [0, 0, 47]) .handover (req 8 [0, 0, 47]) ∧
    Serving (srv base 8 [1, 0, 0]) .handover (req 8 [1, 0, 0]) ∧
    Serving (srv (pendingHandover true 9) 8 [0, 1, 0]) .handover (req 8 [0, 1, 0]) ∧
    (base.trackers[0].state.isRunning = true ∧ base.trackers[0].handover = none ∧
      base.tables.settings[0].reference ≠ 47 ∧ base.trackers[1].state.isRunning = false ∧
      (pendingHandover true 9).trackers[0].handover.isSome = true) :=
  ⟨serving_srv (by decide +kernel) (by decide +kernel), serving_srv (by decide +kernel) (by decide +kernel),
    serving_srv (by decide +kernel) (by decide +kernel), by decide +kernel⟩
theorem test_witness_HandoverStepOfACycleEnd :
    (pendingHandover true 63).trackers[0].handover.map (fun h => (h.locked, h.timeout)) = some (true, 63) ∧
    (pendingHandover false 62).trackers[0].handover.map (fun h => (h.locked, h.timeout)) = some (false, 62) ∧
    (pendingHandover false 63).trackers[0].handover.map (fun h => (h.locked, h.timeout)) = some (false, 63) ∧
    base.trackers[0].handover = none ∧
    (let s (n : Nat) := tracking .holdover 0 n
     (s 48).trackers[0].holdoverCount + 1 < (s 48).tables.settings[0].holdoverLimit ∧
       (s 49).tables.settings[0].holdoverLimit ≤ (s 49).trackers[0].holdoverCount + 1 ∧
       ((s 48).dipCheck 0).trackers[0].state = .holdover) := by
  decide +kernel

/-- `s` with tap 3 enabled on tracker u in this collection state, a staged entry waiting. -/
def onTap (s : State) (u : TrackerId) (c : Collect) : State :=
  let s1 := s.modTapSlot 3 fun x =>
    { x with entry := { x.entry with enabled := true, tracker := u }, staged := some { x.entry with enabled := true } }
  s1.modFormerTap 3 fun f => { f with collect := c }

/-- `s` with 2 input samples of tracker u's cycle in progress and its next point `p`. -/
def inCycle (s : State) (u : TrackerId) (p : Nat) : State :=
  s.modFormerTracker u fun f => { f with resampler := some ⟨p * 65536, p, 65536, 2, 8388608, false⟩ }

/-- Tracker 1 in this state. -/
def tracker1 (st : TrackerState) : State := base.modTracker 1 fun k => { k with state := st }

/-- Enabling, disabling, following and leaving it, a refusal; a tap that is stopped with its staged entry, one that
starts, one that joins tracker 0's cycles and one that leaves them. R78 counts both samples also before point 0, R77 by
R63 counts none there (notes/assumptions/10.md). -/
theorem test_witness_WriteTracker :
    (∀ b ∈ [trackerBody 1 1 0 0 8, trackerBody 0 0 0 0 32, trackerBody 1 1 0 1 8, trackerBody 0 1 1 0 8],
      (srv base 7 b).resetLine = false ∧ (req 7 b).validKind = some .writeTracker ∧
        bodyInRange b .writeTracker = true ∧ byteAt b 0 ≤ 1) ∧
    byteAt (trackerBody 0 1 1 0 8) 2 ≠ base.tables.settings[0].reference.val ∧
    ((onTap base 0 .collecting).tapTracker 3 = 0 ∧ (onTap base 0 .collecting).trackers[0].state ≠ .idle ∧
      (onTap base 0 .collecting).makesCycles 0 = true ∧ (onTap base 0 .collecting).tapTracker 2 = 0) ∧
    ((onTap base 1 .inactive).trackers[1].state = .idle ∧ (onTap base 1 .inactive).tapTracker 3 = 1 ∧
      ((onTap base 1 .inactive).tapEntry 3).enabled = true ∧
      (onTap base 1 .inactive).former.taps[3].collect = .inactive) ∧
    (let s (p : Nat) := inCycle (onTap (tracker1 .locked) 1 .collecting) 1 p
     let t (p : Nat) := (after .writeTracker (srv (s p) 7 (trackerBody 1 1 0 1 8))).former.taps[3]
     (s 0).trackers[1].state.isRunning = true ∧ (s 0).former.taps[3].collect = .collecting ∧
       (s 0).trackers[0].state ≠ .idle ∧ (t 0).collect = .joining (some 0) ∧ (t 0).unaccounted = 0 ∧
       (t 1).unaccounted = 2) ∧
    ((onTap (tracker1 .locked) 1 .collecting).stagedMoves 3 = true ∧
      (onTap base 0 .collecting).stagedMoves 3 = false) ∧
    (let s := inCycle (onTap (tracker1 .following) 1 .collecting) 0 0
     s.trackers[1].state = .following ∧ s.trackers[0].state ≠ .idle ∧
       (after .writeTracker (srv s 7 (trackerBody 1 1 0 0 8))).former.taps[3].unaccounted = 2) ∧
    (onTap (tracker1 .following) 1 (.joining (some 9))).former.taps[3].collect = .joining (some 9) := by decide +kernel

/-- R99: a WRITE TRACKER that disables tracker 0 removes the record that no tracker is left to apply
(notes/assumptions/19.md), and one that disables tracker 1 keeps the record that tracker 0 has not applied. -/
theorem test_writeTracker_removes_the_tariff_record :
    let s := (tracker1 .locked).setFormer
      { (tracker1 .locked).former with pendingTariff := some ⟨3, none, #v[false, true]⟩ }
    (after .writeTracker (srv s 7 (trackerBody 0 0 0 0 32))).former.pendingTariff = none ∧
    (after .writeTracker (srv s 7 (trackerBody 1 0 0 0 32))).former.pendingTariff.isSome = true := by decide +kernel

/-! ### Cycles -/

/-- A tracker's former at index `i` of a block of 10 with preset 2. -/
def at10 (i : Nat) (mode : AlignMode) (align : AlignState) (reindexed : Bool) : FormerTracker :=
  ⟨none, i, ⟨10, mode, 2⟩, align, reindexed, false, 65535, 0⟩

/-- Each alignment clause, at the last index of a block (9) and before it (8). -/
theorem test_witness_IndexAndAlignment :
    (at10 9 .off .none false).index + 1 = (at10 9 .off .none false).inForce.length ∧
    (at10 8 .hard .due false).align = .due ∧ (at10 8 .hard .due false).inForce.align = .hard ∧
    (at10 8 .soft .due false).index + 1 ≠ (at10 8 .soft .due false).inForce.length ∧
    (at10 8 .soft .due true).reindexed = true ∧ (at10 9 .soft .held true).align = .held ∧
    ((at10 8 .hard .due false).indexDecision.close = some .aligned ∧
      ((at10 8 .soft .due false).indexStep ⟨8, .off, 7⟩).index = 2 ∧
      ((at10 9 .soft .held true).indexStep ⟨8, .off, 7⟩).index = 7) := by decide +kernel

/-- The part with `n` jobs of tap 5 queued. -/
def jobs (n : Nat) (held : Option Spectrum) : State :=
  base.setEngine
    { base.engine with queue := List.replicate n (impulseJob 1), held := upd base.engine.held 5 held }

/-- A spectrum of one order. -/
def spectrum1 : Spectrum := ⟨1, [36], [-27], Vector.replicate 6 0, Vector.replicate 6 0⟩

/-- An accumulator of tap 5 for block `n`, with this close marker and an outstanding job. -/
def openBlock (n : BitVec 32) (close : Option CloseReason) : Accumulator :=
  { Accumulator.start { (impulseJob 1).head with block := n } false with close := close, outstanding := 1 }

/-- `s` with these open accumulators of tap 5. -/
def blocks (s : State) (l : List Accumulator) : State := s.modAccount 5 fun a => { a with accumulators := l }

/-- A staged entry and none; room for a job, an estimate and a dropped entry; an entry of block 7 that finds its accumulator, opens one and closes
the older of two; a tap that stops; taps that collect and that join at a cycle end, and one on another tracker. -/
theorem test_witness_EntryOfACollectedCycle :
    ((jobs 15 none).engine.queue.length < 16 ∧ 16 ≤ (jobs 16 none).engine.queue.length ∧
      (jobs 16 none).engine.held[5] = none ∧ (jobs 16 (some spectrum1)).engine.held[5] = some spectrum1) ∧
    ((onTap base 0 .collecting).tables.taps[3].staged.isSome = true ∧ base.tables.taps[3].staged = none) ∧
    (∀ l ∈ [[], [openBlock 7 none], [openBlock 5 none, openBlock 6 none]],
      (blocks base l).accounts[5].accumulators.length ≤ 2) ∧
    (forcedBy (blocks base [openBlock 5 none, openBlock 6 none]).accounts[5] (impulseJob 1).head = [openBlock 5 none] ∧
      forcedBy (blocks base [openBlock 7 none]).accounts[5] (impulseJob 1).head = []) ∧
    (∀ c ∈ [Collect.collecting, .joining (some 3)], (onTap base 0 c).former.taps[3].collect ≠ .inactive ∧
      (onTap base 0 c).trackers[0].state.isRunning = true ∧
      (onTap base 0 c).cycleSource ((onTap base 0 c).tapTracker 3) = some 0) ∧
    (onTap base 1 .inactive).cycleSource ((onTap base 1 .inactive).tapTracker 3) ≠ some 0 := by decide +kernel

/-- R61, R107: the entry of a cycle whose end applies channel 30 under a profile of 24 channels carries CHANNEL_ABSENT,
and one whose end applies the same channels does not. -/
theorem test_cycleEnd_marks_an_absent_channel :
    let absent (channels : Vector Channel 6) : List Bool :=
      (((onTap base 0 .collecting).modTapSlot 3 fun x =>
        { x with staged := some { x.entry with channels := channels } }).cycleEnd 0
          ⟨8388608, 128, 65536, 128, 8388608, false⟩ 0).engine.queue.map fun j => j.cycle.absent
    absent #v[0, 1, 2, 3, 4, 30] = [true] ∧ absent #v[0, 1, 2, 3, 4, 5] = [false] := by decide +kernel

/-- Resamplers in their places: a step short of the cycle's end, on it, short of point 0 of the next cycle, and past
it. -/
theorem test_witness_resampler_steps :
    (∀ r ∈ ([⟨8323071, 126, 65536, 127, 8388608, false⟩, ⟨8323072, 127, 65536, 127, 8388608, false⟩,
        ⟨8375500, 127, 78643, 106, 6990506, true⟩, ⟨8375501, 127, 78643, 106, 6990506, true⟩] : List Resampler),
      r.acc ≤ 8388607 ∧ r.point = r.acc / 65536 ∧ r.inc = 2 ^ 39 / r.period) ∧
    8323071 + 65536 < 8388608 ∧ 8323072 + 65536 = 8388608 ∧ 8375500 + 78643 < 8388608 + 65536 ∧
    8375501 + 78643 = 8388608 + 65536 := by decide +kernel

/-- A pending record of tariff 3 for the second 100, with the latest second count as given. -/
def tariffAt (second : Option (BitVec 32)) : State :=
  base.setFormer { base.former with second := second, pendingTariff := some ⟨3, some 100, #v[false, false]⟩ }

/-- Tracker 1 FOLLOWING. -/
def following : State := tracker1 .following

/-- The effective second reached, and one short of it. -/
theorem test_witness_TariffRequestAndStep :
    Serving (srv base 9 [3, 0, 0, 0, 100]) .setTariff (req 9 [3, 0, 0, 0, 100]) ∧
    (following.trackers[1].state = .following ∧ (tariffAt (some 100)).trackers[0].state.isRunning = true ∧
      (tariffAt (some 100)).former.second = some 100 ∧ (tariffAt (some 99)).former.second = some 99 ∧
      (tariffAt (some 100)).former.pendingTariff = some ⟨3, some 100, #v[false, false]⟩ ∧
      (tariffAt (some 100)).tables.settings[1].enabled = false ∧ base.former.pendingTariff = none ∧
      base.trackers[0].state.isRunning = true) :=
  ⟨serving_srv (by decide +kernel) (by decide +kernel), by decide +kernel⟩

/-- The entry that a WRITE TAP body gives its tap. -/
def entryOf (b : Bytes) : TapId × TapEntry := (readTapWrite b).getD (0, .default)

theorem test_witness_WriteTap :
    (∀ b ∈ [tapBody 7 1 0, tapBody 0 0 1], (req 3 b).validKind = some .writeTap ∧ readTapWrite b = some (entryOf b)) ∧
    base.resetLine = false ∧ base.tables.taps[7].entry.enabled = false ∧
    (let s := after .writeTap (srv base 3 (tapBody 7 1 0))
     s.tables.taps[7].entry.enabled = true ∧ s.makesCycles s.tables.taps[7].entry.tracker = true) := by decide +kernel
theorem test_witness_FieldsReadBack :
    (TapEntry.default.channels.toList.Nodup ∧ TapEntry.default.hMax = 50) ∧
    1 ≤ StationSettings.default.silenceMs ∧ 999999999999 ≤ 999999999999 ∧ 255 < 256 ^ 1 ∧
    (-((256 ^ 3 : Nat) : Int) ≤ 2 * -8388608 ∧ (2 * 8388607 : Int) < (256 ^ 3 : Nat)) := by decide +kernel

/-! ### Engine and accounts -/

/-- A job of tap 5 in flight, with one in the queue, and with stale jobs and a waiting window. -/
def inFlight (queue : List Job) (stale : Nat) : State :=
  (srv base 6 [4, 50, 1, 0, 0, 0, 0]).setEngine
    { base.engine with
      queue := queue
      flight := some ⟨impulseJob 1, 2536⟩
      stale := upd base.engine.stale 5 stale
      window := some ⟨3, 49, [⟨0, 0⟩]⟩ }

theorem test_witness_EngineTakeAndCompletion :
    ((jobs 1 none).resetLine = false ∧ (jobs 1 none).engine.flight = none ∧
      (jobs 1 none).engine.queue = impulseJob 1 :: []) ∧
    ((inFlight [] 0).resetLine = false ∧ (inFlight [] 0).engine.flight = some ⟨impulseJob 1, 2536⟩ ∧
      (inFlight [] 0).engine.stale[5] = 0 ∧ (inFlight [] 0).engine.queue = [] ∧
      (inFlight [] 0).accounts[5].accumulators = [] ∧ (inFlight [] 0).engine.window.isSome = true ∧
      (inFlight [] 0).management.inService.isSome = true ∧
      (inFlight [] 0).engine.window.map (fun w => (w.start, w.entries.length)) = some (49, 1)) ∧
    (0 < (inFlight [impulseJob 50] 1).engine.stale[5] ∧
      (inFlight [impulseJob 50] 1).engine.queue = impulseJob 50 :: []) ∧
    (∀ l ∈ [[openBlock 6 none], [openBlock 7 (some .natural)]],
      (blocks (inFlight [] 0) l).accounts[5].accumulators.length ≤ 2) ∧
    (¬∃ y ∈ (blocks (inFlight [] 0) [openBlock 6 none]).accounts[5].accumulators, y.block = (impulseJob 1).head.block) := by
  decide +kernel
theorem test_witness_CosineTableAndPhasors :
    127 < 128 ∧ cosine 127 = 32728 ∧ cosine 16 = 23170 ∧ (impulseJob 1).head.snapshot.cls = 0 := by decide +kernel
theorem test_witness_EngineMagnitudes :
    (1 ≤ (impulseJob 1).head.snapshot.hMax ∧ (impulseJob 1).head.snapshot.hMax = 1) ∧
    (impulseJob 50).head.snapshot.hMax ≤ 50 := by decide +kernel
theorem test_witness_CycleContributions : 1 ≤ 1 ∧ 50 ≤ 50 := by decide
theorem test_witness_EnergyIsConserved :
    Register.InRange ⟨999999999999, 2 ^ 56 - 2, 15⟩ (2 ^ 56 - 1) ∧ Register.InRange ⟨0, 0, 0⟩ 1 :=
  ⟨⟨by decide, by decide, by decide⟩, ⟨by decide, by decide, by decide⟩⟩
theorem test_witness_RegistersStayInRange : base.RegistersInRange := by
  have key : ∀ tap : TapId, (1 ≤ base.accounts[tap].constant ∧ base.accounts[tap].constant ≤ 2 ^ 56 - 1) ∧
      ∀ i : Fin 48, base.accounts[tap].registers[i].residue < base.accounts[tap].constant ∧
        base.accounts[tap].registers[i].count ≤ 999999999999 ∧ base.accounts[tap].registers[i].rollover ≤ 15 := by
    decide +kernel
  exact fun tap => ⟨(key tap).1.1, (key tap).1.2,
    fun i => ⟨((key tap).2 i).1, ((key tap).2 i).2.1, ((key tap).2 i).2.2⟩⟩
theorem test_witness_BlocksStayCounted : recorded.BlocksCounted :=
  ⟨by decide +kernel, by decide +kernel, by decide +kernel⟩

theorem test_witness_RegisterRequests :
    Serving (srv base 10 [7, 0, 0xFF, 0xFF, 0xFF, 0xFF, 0xFF, 0xFF, 0xFF]) .setConstant
      (req 10 [7, 0, 0xFF, 0xFF, 0xFF, 0xFF, 0xFF, 0xFF, 0xFF]) ∧
    Serving (srv base 12 (restoreBody 6 15)) .restore (req 12 (restoreBody 6 15)) ∧
    Serving (srv base 13 [7]) .clear (req 13 [7]) ∧
    (beNat [7, 0, 0xFF, 0xFF, 0xFF, 0xFF, 0xFF, 0xFF, 0xFF] 1 8 = 2 ^ 56 - 1 ∧
      byteAt (restoreBody 6 15) 0 = 6 ∧ bodyInRange (restoreBody 6 15) .restore = true ∧
      base.accounts[6].restore = .opened ∧
      base.tables.taps[7].entry.accounting = true) :=
  ⟨serving_srv (by decide +kernel) (by decide +kernel), serving_srv (by decide +kernel) (by decide +kernel),
    serving_srv (by decide +kernel) (by decide +kernel), by decide +kernel⟩

/-! ### Records and requests -/

/-- A closed block of `cycles` cycles at the shortest period of any band. -/
def closedBlock (cycles : Nat) : ClosedBlock where
  tap := 2
  acc :=
    { Accumulator.start ⟨2, 0, 9, none, 0, 0, ⟨0, 50, true, 0⟩, none⟩ false with
      cycles := cycles, analysed := cycles, periodSum := 6116693 * cycles, fundamentalSums := Vector.replicate 6 1 }
  reason := .natural
  outstanding := 0
  late := 0
  unrestored := true

theorem test_witness_MeanFrequencyOfABlock :
    (closedBlock 0).acc.cycles = 0 ∧ 0 < (closedBlock 1).acc.cycles ∧
    6116693 * (closedBlock 1).acc.cycles ≤ (closedBlock 1).acc.periodSum := by decide +kernel
theorem test_witness_LimitStatesMove :
    1 < 2 ∧ 2 ≤ 2 ∧ (closedBlock 1).value .thd = some 0 ∧ (closedBlock 1).acc.fundamentalSums[5] ≠ 0 ∧
    (closedBlock 0).value .thd = none := by decide +kernel

/-- Auto-report OFF, both slots free, one free, and none. -/
theorem test_witness_ReceiptOfABlock :
    (let s := base.modSettings 0 fun x => { x with autoReport := false }
     s.tables.settings[(closedBlock 1).acc.tracker].autoReport = false) ∧
    (base.tables.settings[0].autoReport = true ∧ base.ports.reportSlots[base.records.nextSlot] = none) ∧
    (arbiter.ports.reportSlots[arbiter.records.nextSlot].isSome = true ∧ arbiter.ports.reportSlots[1] = none) ∧
    ((sending .relay .notice .empty).ports.reportSlots[0].isSome = true ∧
      (sending .relay .notice .empty).ports.reportSlots[1].isSome = true) := by decide +kernel
theorem test_witness_ReadStatus : Serving (srv base 1 []) .readStatus (req 1 []) :=
  serving_srv (by decide +kernel) (by decide +kernel)
theorem test_witness_ReadRequests :
    Serving (srv base 4 [7]) .readTap (req 4 [7]) ∧ Serving (srv base 11 [7, 4]) .readRegisters (req 11 [7, 4]) ∧
    Serving (srv stored 15 [5, 1]) .readSpectrum (req 15 [5, 1]) ∧
    Serving (srv recorded 14 [2, 0, 0, 0, 9]) .readRecord (req 14 [2, 0, 0, 0, 9]) ∧
    (stored.engine.store[4] = none ∧ stored.engine.store[5].isSome = true ∧
      recorded.records.ring.filter (fun y => decide (y.tap = 2 ∧ y.block = 9)) = record :: [] ∧
      (∀ x ∈ recorded.records.ring, ¬(x.tap = 2 ∧ x.block = 10)) ∧
      ((10 : BitVec 32) - recorded.accounts[2].blockNumber).toNat < 2 ^ 31 ∧
      2 ^ 31 ≤ ((8 : BitVec 32) - recorded.accounts[2].blockNumber).toNat) :=
  ⟨serving_srv (by decide +kernel) (by decide +kernel), serving_srv (by decide +kernel) (by decide +kernel),
    serving_srv (by decide +kernel) (by decide +kernel), serving_srv (by decide +kernel) (by decide +kernel),
    by decide +kernel⟩

/-- One channel window at 47, one group window at 50, and a correction window at 50 with the engine IDLE and BUSY. -/
theorem test_witness_WindowWrites :
    Serving (srv base 2 [47, 1, 0, 0, 0, 7, 0xFF, 0xFF]) .writeChannels (req 2 [47, 1, 0, 0, 0, 7, 0xFF, 0xFF]) ∧
    Serving (srv base 5 [50, 1, 4, 0]) .writeGroups (req 5 [50, 1, 4, 0]) ∧
    Serving (srv base 6 [4, 50, 1, 0, 0, 0, 0]) .writeCorrection (req 6 [4, 50, 1, 0, 0, 0, 0]) ∧
    (beInt [47, 1, 0, 0, 0, 7, 0xFF, 0xFF] 4 4 = 524287 ∧ base.engine.window = none ∧ base.engine.flight = none ∧
      (base.setEngine { base.engine with flight := some ⟨impulseJob 1, 2536⟩ }).engine.flight.isSome = true) :=
  ⟨serving_srv (by decide +kernel) (by decide +kernel), serving_srv (by decide +kernel) (by decide +kernel),
    serving_srv (by decide +kernel) (by decide +kernel), by decide +kernel⟩
theorem test_witness_StationAndResetRequests :
    Serving (srv base 17 [0, 0, 0, 0, 0, 1, 0, 1, 1]) .setStation (req 17 [0, 0, 0, 0, 0, 1, 0, 1, 1]) ∧
    Serving (srv base 18 []) .reset (req 18 []) ∧ byteAt [0, 0, 0, 0, 0, 1, 0, 1, 1] 8 = 1 :=
  ⟨serving_srv (by decide +kernel) (by decide +kernel), serving_srv (by decide +kernel) (by decide +kernel),
    by decide +kernel⟩

end Sys2Proof.Tests
end

section
/-! SUPPORT. The three resets, each said once: which blocks its last steps may still change, and what it makes of the
tables, the management unit and the reset line; then the station settings after each (R50). -/

namespace Sys2Proof.Machine

open Sys2Proof

variable (s : State)

/-! ## The restart of trackers and blocks (R90, R104, R108) -/

theorem State.resetTrackers_frame : SameOutside [.trackers, .former] s s.resetTrackers :=
  (s.setTrackers_frame _).andThen (State.setFormer_frame _ _)

theorem State.advanceAllBlocks_frame : SameOutside [.accounts] s s.advanceAllBlocks :=
  s.setAccounts_frame _

/-- The restart of the trackers with the advance of the block numbers, which the release and the request reset share. -/
theorem State.restartTrackers_frame :
    SameOutside [.trackers, .former, .accounts] s s.resetTrackers.advanceAllBlocks :=
  s.resetTrackers_frame.andThen (State.advanceAllBlocks_frame _)

/-! ## The pin reset (R170) -/

@[simp] theorem State.assertReset_resetLine : s.assertReset.resetLine = true := rfl

theorem State.releaseReset_tables :
    s.releaseReset.tables = .default (mapVec (fun slot => slot.generation + 1) s.tables.taps) := by
  have h (m : State) : SameOutside [.trackers, .former, .accounts, .agreement, .ports] m
      m.resetTrackers.advanceAllBlocks.enterListen :=
    m.restartTrackers_frame.andThen (State.enterListen_frame _)
  exact (h _).get .tables

theorem exec_pinReset_asserts : ∃ t, exec .pinReset s = .next t ∧ t.resetLine = true := by
  refine ⟨_, rfl, ?_⟩
  split
  · assumption
  · exact s.assertReset_resetLine

variable {s} in
theorem exec_pinResetRelease_of_asserted (h : s.resetLine = true) :
    exec .pinResetRelease s = .next s.releaseReset :=
  congrArg Host.Outcome.next (if_pos h)

/-! ## The request reset (R17, R169) -/

/-- Once the part is emptied, the request reset leaves all but the agreement unit's doing, the trackers, the cycle former
and the block numbers as they are, in both modes. -/
theorem State.requestReset_frame :
    SameOutside (.accounts :: agreementBlocks) (s.emptyOut .request) s.requestReset := by
  have restarted : SameOutside (.accounts :: agreementBlocks) (s.emptyOut .request)
      ((s.emptyOut .request).setAgreement (.cleared s.agreement.mode s.agreement.acceptMask s.agreement.fixedCode
        s.agreement.profile)).resetTrackers.advanceAllBlocks :=
    (State.setAgreement_frame _ _).andThen (State.restartTrackers_frame _)
  unfold State.requestReset
  split
  · exact restarted.trans (State.enterListen_frame _).wider
  · exact restarted.trans (State.enterAgreed_frame _ _ _).wider

theorem State.requestReset_tables : s.requestReset.tables = s.tables.discardStaged :=
  s.requestReset_frame.get .tables

theorem State.requestReset_management : s.requestReset.management = .cleared .request :=
  s.requestReset_frame.get .management

section
variable {s : State} {x : Transmission} (hr : s.resetLine = false) (hw : s.management.resetWaiting = true)
  (hx : s.ports.txB = some x) (ha : x.source = .answer)
include hr hw hx ha

/-- With a reset waiting, the end of an answer on port B is the request reset of the part with that transmission ended,
and takes no further choice. -/
theorem State.endTransmissionB_resets (e : Ending) :
    s.endTransmissionB e =
      ((s.setPorts s.ports.finishB).setWire (s.wire.ended .b s.ports.txB e)).requestReset := by
  have hsends : s.ports.sendsAnswer = true := by simp [Ports.sendsAnswer, hx, ha]
  simp [State.endTransmissionB, hr, hw, hx, hsends]

/-- Both ways in which the answer to RESET ends, its transmission end and the loss of port B's link, bring the request
reset of a part that differs from s in its ports and the wire record alone (R2, R17). -/
theorem exec_endOfAnswer_resets {c : Instr} (hc : c = .transmissionEnd .b ∨ c = .linkDown .b) :
    ∃ m, exec c s = .next m.requestReset ∧ SameOutside [.ports, .wire] s m := by
  obtain rfl | rfl := hc
  · refine ⟨_, congrArg Host.Outcome.next (State.endTransmissionB_resets hr hw hx ha .normal), ?_⟩
    exact (s.setPorts_frame _).andThen (State.setWire_frame _ _)
  · have hcut := State.endTransmissionB_resets (s := s.setPorts { s.ports with linkB := .down }) hr hw hx ha .cutOff
    refine ⟨_, congrArg Host.Outcome.next hcut, ?_⟩
    exact ((s.setPorts_frame _).trans (State.setPorts_frame _ _)).andThen (State.setWire_frame _ _)

end

/-! ## The station settings (R50) -/

/-- Settles O11: the table store's defaults at power-on and at the release, and its kept tables at the request reset. -/
theorem stationSettingsAtResets : Obligations.StationSettingsAtResets := by
  refine ⟨fun a f s => ⟨_, rfl, rfl⟩, fun s => ?pin, fun s x c hr hw hx ha hc => ?request⟩
  case pin =>
    obtain ⟨t, ht, asserted⟩ := exec_pinReset_asserts s
    refine ⟨t, t.releaseReset, ht, exec_pinResetRelease_of_asserted asserted, ?_⟩
    exact congrArg Tables.station t.releaseReset_tables
  case request =>
    obtain ⟨m, hm, frame⟩ := exec_endOfAnswer_resets hr hw hx ha hc
    have kept : m.tables = s.tables := frame.get .tables
    refine ⟨_, hm, ?_, ?_⟩
    · exact congrArg Management.startCause m.requestReset_management
    · rw [m.requestReset_tables, kept]
      rfl

end Sys2Proof.Machine
end

section
/-! SUPPORT. The results that the engine forms from the phasors of a job (R116, R117): where each order stands in the
lists of a spectrum, and the bounds that the clamp of R115 gives the products, the sums and the squared magnitudes. -/

namespace Sys2Proof.Machine

open Sys2Proof

/-! ## The lists that start at order 1 -/

theorem orders_eq_range' (h : Nat) : orders h = List.range' 1 h := by
  simp [orders, List.range'_eq_map_range, Nat.add_comm]

theorem length_orders (h : Nat) : (orders h).length = h := by simp [orders]

theorem getD_map_orders {α : Type} (f : Nat → α) (d : α) {h k : Nat} (first : 1 ≤ k) (last : k ≤ h) :
    ((orders h).map f).getD (k - 1) d = f k := by
  have inside : k - 1 < h := by omega
  simp [orders, inside, Nat.sub_add_cancel first]

/-- The list without its first order holds the harmonics 2 to h. -/
theorem sum_drop_one_map_orders (f : Nat → Nat) (h : Nat) :
    (((orders h).map f).drop 1).sum = ∑ k ∈ Finset.Icc 2 h, f k := by
  have harmonics : (orders h).drop 1 = List.range' 2 (h + 1 - 2) := by
    rw [orders_eq_range', List.drop_range']
    congr 1
  rw [← List.map_drop, harmonics]
  rfl

/-! ## The clamped phasor (R115) -/

/-- Both parts are within the range of the clamp of R115. -/
def Phasor.InClamp (p : Phasor) : Prop := |p.re| ≤ 1048575 ∧ |p.im| ≤ 1048575

theorem Phasor.clamp_inClamp (p : Phasor) : p.clamp.InClamp :=
  ⟨abs_le.mpr (clampInt_bounds (by decide) p.re), abs_le.mpr (clampInt_bounds (by decide) p.im)⟩

/-- A product of two parts of clamped phasors. -/
theorem abs_mul_le_of_clamp {a b : Int} (ha : |a| ≤ 1048575) (hb : |b| ≤ 1048575) : |a * b| ≤ 1048575 ^ 2 := by
  rw [abs_mul, sq]
  exact mul_le_mul ha hb (abs_nonneg b) (by decide)

/-! ## The products of one phase and their sums (R116) -/

section
variable {v i : Phasor} (hv : v.InClamp) (hi : i.InClamp)
include hv hi

theorem abs_activeProduct_le : |activeProduct v i| ≤ 2 * 1048575 ^ 2 := by
  have re := abs_mul_le_of_clamp hv.1 hi.1
  have im := abs_mul_le_of_clamp hv.2 hi.2
  have triangle := abs_add_le (v.re * i.re) (v.im * i.im)
  unfold activeProduct
  omega

theorem abs_reactiveProduct_le : |reactiveProduct v i| ≤ 2 * 1048575 ^ 2 := by
  have cross := abs_mul_le_of_clamp hv.2 hi.1
  have cross' := abs_mul_le_of_clamp hv.1 hi.2
  have triangle := abs_sub (v.im * i.re) (v.re * i.im)
  unfold reactiveProduct
  omega

end

theorem phaseSum_eq_sum (f : Phasor → Phasor → Int) (p : Fin 6 → Phasor) :
    phaseSum f p = ∑ i : Fin 3, f (p (Fin.ofNat 6 i.val)) (p (Fin.ofNat 6 (i.val + 3))) := by
  rw [Fin.sum_univ_three]
  rfl

/-- Three products of at most 2 x 1,048,575² stay below 2^43. -/
theorem natAbs_phaseSum_lt {f : Phasor → Phasor → Int} {p : Fin 6 → Phasor}
    (h : ∀ c d : Fin 6, |f (p c) (p d)| ≤ 2 * 1048575 ^ 2) : (phaseSum f p).natAbs < 2 ^ 43 := by
  have phase0 := abs_le.mp (h 0 3)
  have phase1 := abs_le.mp (h 1 4)
  have phase2 := abs_le.mp (h 2 5)
  unfold phaseSum
  omega

/-! ## The squared magnitudes (R117) -/

theorem Phasor.coe_squared (p : Phasor) : (p.squared : Int) = p.re ^ 2 + p.im ^ 2 := by
  rw [Phasor.squared, Int.toNat_of_nonneg (add_nonneg (mul_self_nonneg _) (mul_self_nonneg _)), sq, sq]

theorem Phasor.squared_le {p : Phasor} (h : p.InClamp) : p.squared ≤ 2 * 1048575 ^ 2 := by
  have re := sq_le_sq' (abs_le.mp h.1).1 (abs_le.mp h.1).2
  have im := sq_le_sq' (abs_le.mp h.2).1 (abs_le.mp h.2).2
  have exact_square := p.coe_squared
  omega

/-! ## The spectrum of a job -/

section
variable (tables : Vector (Vector CorrectionEntry 50) 4) (j : Job) (c : Fin 6)

theorem jobPhasor_inClamp (k : Nat) : (jobPhasor tables j c k).InClamp := by
  unfold jobPhasor
  dsimp only
  split <;> exact Phasor.clamp_inClamp _

theorem getElem_jobPhasors :
    (jobPhasors tables j)[c] = (orders j.head.snapshot.hMax).map fun k => jobPhasor tables j c k :=
  getElem_ofFn_fin _ c

theorem phasorAt_jobPhasors {k : Nat} (first : 1 ≤ k) (last : k ≤ j.head.snapshot.hMax) :
    phasorAt (jobPhasors tables j)[c] k = jobPhasor tables j c k := by
  rw [getElem_jobPhasors, phasorAt, getD_map_orders _ _ first last]

/-- A list of the spectrum that holds, for each order, the sum over the phases of a product. -/
theorem getD_phaseSums_jobPhasors (f : Phasor → Phasor → Int) {k : Nat} (first : 1 ≤ k)
    (last : k ≤ j.head.snapshot.hMax) :
    ((orders j.head.snapshot.hMax).map fun k => phaseSum f fun c => phasorAt (jobPhasors tables j)[c] k).getD (k - 1) 0 =
      phaseSum f fun c => jobPhasor tables j c k := by
  rw [getD_map_orders _ _ first last]
  exact congrArg (phaseSum f) (funext fun c => phasorAt_jobPhasors tables j c first last)

theorem spectrumOf_fundamental (hmax_pos : 1 ≤ j.head.snapshot.hMax) :
    (spectrumOf j.head.snapshot.hMax (jobPhasors tables j)).fundamental[c] = (jobPhasor tables j c 1).squared := by
  rw [← phasorAt_jobPhasors tables j c le_rfl hmax_pos]
  exact getElem_ofFn_fin _ c

theorem spectrumOf_harmonic :
    (spectrumOf j.head.snapshot.hMax (jobPhasors tables j)).harmonic[c] =
      ∑ k ∈ Finset.Icc 2 j.head.snapshot.hMax, (jobPhasor tables j c k).squared := by
  have listed : (spectrumOf j.head.snapshot.hMax (jobPhasors tables j)).harmonic[c] =
      (((jobPhasors tables j)[c].drop 1).map Phasor.squared).sum := getElem_ofFn_fin _ c
  rw [listed, getElem_jobPhasors, List.map_drop, List.map_map, sum_drop_one_map_orders]
  rfl

/-- At most 49 harmonics of at most 2 x 1,048,575² each. -/
theorem sum_squared_lt {h : Nat} (most : h ≤ 50) :
    ∑ k ∈ Finset.Icc 2 h, (jobPhasor tables j c k).squared < 2 ^ 47 := by
  have bound := Finset.sum_le_card_nsmul (Finset.Icc 2 h) _ _ fun k _ =>
    Phasor.squared_le (jobPhasor_inClamp tables j c k)
  rw [Nat.card_Icc, smul_eq_mul] at bound
  omega

end

/-- Settles O47: the clamp bounds each product and square, and the orders stand at their places in the lists. -/
theorem engineMagnitudes : Obligations.EngineMagnitudes := by
  intro tables j hmax_pos most h x
  refine ⟨⟨rfl, ?activeLength, ?reactiveLength, fun k first last => ?powers⟩, fun c => ?magnitudes⟩
  case activeLength => exact (List.length_map _).trans (length_orders h)
  case reactiveLength => exact (List.length_map _).trans (length_orders h)
  case powers =>
    have active : x.active.getD (k - 1) 0 = phaseSum activeProduct fun c => jobPhasor tables j c k :=
      getD_phaseSums_jobPhasors tables j activeProduct first last
    have reactive : x.reactive.getD (k - 1) 0 = phaseSum reactiveProduct fun c => jobPhasor tables j c k :=
      getD_phaseSums_jobPhasors tables j reactiveProduct first last
    have clamped := fun c => jobPhasor_inClamp tables j c k
    rw [active, reactive]
    exact ⟨phaseSum_eq_sum _ _, phaseSum_eq_sum _ _,
      natAbs_phaseSum_lt fun c d => abs_activeProduct_le (clamped c) (clamped d),
      natAbs_phaseSum_lt fun c d => abs_reactiveProduct_le (clamped c) (clamped d)⟩
  case magnitudes =>
    have fundamental : x.fundamental[c] = (jobPhasor tables j c 1).squared :=
      spectrumOf_fundamental tables j c hmax_pos
    have harmonic : x.harmonic[c] = ∑ k ∈ Finset.Icc 2 h, (jobPhasor tables j c k).squared :=
      spectrumOf_harmonic tables j c
    have square := Phasor.squared_le (jobPhasor_inClamp tables j c 1)
    rw [fundamental, harmonic]
    refine ⟨Phasor.coe_squared _, ?_, fun one => ?_, by omega, sum_squared_lt tables j c most⟩
    · rw [Nat.cast_sum]
      exact Finset.sum_congr rfl fun k _ => Phasor.coe_squared _
    · rw [one]
      rfl

end Sys2Proof.Machine
end

section
/-! SUPPORT. The contributions of a cycle (R127, R128): the folds over the harmonic orders as sums, and what stands at
each register's position. -/

namespace Sys2Proof.Machine

open Sys2Proof

/-! ## The sums over the harmonic orders -/

theorem harmonicOrders_eq_range' (h : Nat) : harmonicOrders h = List.range' 2 (h + 1 - 2) := by
  simp [harmonicOrders, List.range'_eq_map_range, Nat.add_comm]

/-- Both sums of R128 are left folds whose step adds a term for the order. -/
theorem foldl_harmonicOrders_eq_sum {M : Type} [AddCommMonoid M] {step : M → Nat → M} {term : Nat → M}
    (adds : ∀ n k, step n k = n + term k) (h : Nat) :
    (harmonicOrders h).foldl step 0 = ∑ k ∈ Finset.Icc 2 h, term k := by
  have step_eq : step = fun n k => n + term k := funext₂ adds
  calc (harmonicOrders h).foldl step 0
      = ((harmonicOrders h).map term).sum := by rw [step_eq, List.sum_eq_foldl, List.foldl_map]
    _ = ∑ k ∈ Finset.Icc 2 h, term k := by rw [harmonicOrders_eq_range']; rfl

section
variable (groups : Vector GroupEntry 49) (active reactive : List Int) (h sc : Nat)

theorem netHarmonic_eq_sum :
    netHarmonic groups active h = ∑ k ∈ Finset.Icc 2 h,
      if (groupOf groups k).group = .none then 0 else ((groupOf groups k).weight.toNat : Int) * orderValue active k :=
  foldl_harmonicOrders_eq_sum (fun n k => by split <;> simp) h

theorem groupReactive_eq_sum (g : Group) :
    groupReactive groups reactive h g = ∑ k ∈ Finset.Icc 2 h,
      if (groupOf groups k).group = g then (groupOf groups k).weight.toNat * (orderValue reactive k).natAbs else 0 :=
  foldl_harmonicOrders_eq_sum (fun n k => by split <;> simp) h

/-! ## With the fundamental alone, h_use 1 -/

theorem netHarmonic_one : netHarmonic groups active 1 = 0 := rfl

theorem groupReactive_one (g : Group) : groupReactive groups reactive 1 g = 0 := rfl

/-! ## The registers' positions -/

/-- AI and AE, by the sign of D_1 (R127). -/
theorem contributions_fundamentalActive :
    (contributions groups active reactive h sc)[0] =
        (if 0 ≤ orderValue active 1 then 256 * (orderValue active 1).natAbs * sc else 0) ∧
      (contributions groups active reactive h sc)[1] =
        (if orderValue active 1 < 0 then 256 * (orderValue active 1).natAbs * sc else 0) := by
  simp [contributions]

/-- The four quadrants of the signs of D_1 and R_1 (R127). -/
theorem contributions_fundamentalReactive :
    let x := contributions groups active reactive h sc
    let d := orderValue active 1
    let r := orderValue reactive 1
    x[2] = (if 0 ≤ d ∧ 0 ≤ r then 256 * r.natAbs * sc else 0) ∧
      x[3] = (if d < 0 ∧ 0 ≤ r then 256 * r.natAbs * sc else 0) ∧
      x[4] = (if d < 0 ∧ r < 0 then 256 * r.natAbs * sc else 0) ∧
      x[5] = (if 0 ≤ d ∧ r < 0 then 256 * r.natAbs * sc else 0) := by
  simp [contributions]

/-- HI and HE, by the sign of N (R128). -/
theorem contributions_netHarmonic :
    (contributions groups active reactive h sc)[6] =
        (if 0 ≤ netHarmonic groups active h then 2 * (netHarmonic groups active h).natAbs * sc else 0) ∧
      (contributions groups active reactive h sc)[7] =
        (if netHarmonic groups active h < 0 then 2 * (netHarmonic groups active h).natAbs * sc else 0) :=
  ⟨rfl, rfl⟩

/-- The four groups' registers (R128). -/
theorem contributions_groups :
    (contributions groups active reactive h sc)[8] = 2 * sc * groupReactive groups reactive h .g0 ∧
      (contributions groups active reactive h sc)[9] = 2 * sc * groupReactive groups reactive h .g1 ∧
      (contributions groups active reactive h sc)[10] = 2 * sc * groupReactive groups reactive h .g2 ∧
      (contributions groups active reactive h sc)[11] = 2 * sc * groupReactive groups reactive h .g3 :=
  ⟨rfl, rfl, rfl, rfl⟩

end

/-- Settles O48: each register by its position, and the two folds as the sums of R128. -/
theorem cycleContributions : Obligations.CycleContributions := by
  intro groups active reactive h sc _ _ x d r weight group n sum
  have net : netHarmonic groups active h = n := netHarmonic_eq_sum groups active h
  have grouped (g : Group) : groupReactive groups reactive h g = sum g := groupReactive_eq_sum groups reactive h g
  obtain ⟨ai, ae⟩ := contributions_fundamentalActive groups active reactive h sc
  obtain ⟨q1, q2, q3, q4⟩ := contributions_fundamentalReactive groups active reactive h sc
  obtain ⟨hi, he⟩ := contributions_netHarmonic groups active reactive h sc
  obtain ⟨g0, g1, g2, g3⟩ := contributions_groups groups active reactive h sc
  refine ⟨ai, ae, q1, q2, q3, q4, net ▸ hi, net ▸ he, grouped .g0 ▸ g0, grouped .g1 ▸ g1, grouped .g2 ▸ g2,
    grouped .g3 ▸ g3, fun fundamentalAlone => ?_⟩
  subst fundamentalAlone
  simp [x, hi, he, g0, g1, g2, g3, netHarmonic_one, groupReactive_one]

end Sys2Proof.Machine
end

section
/-! SUPPORT. The mean frequency of a block record (R146): an exact division by the average period, whose lower bound
keeps the quotient within the four bytes of its field. -/

namespace Sys2Proof.Machine

open Sys2Proof

/-- The fastest profile takes 19,200 sample sets a second (R18). -/
theorem sampleRate_le (p : ProfileCode) : sampleRate p ≤ 19200 := by
  revert p
  decide

theorem ClosedBlock.record_meanFrequency (c : ClosedBlock) (p : ProfileCode) (e : TapEntry) (d : Disposition) :
    (c.record p e d).meanFrequency = meanFrequency (sampleRate p) c.acc.periodSum c.acc.cycles := rfl

@[simp] theorem meanFrequency_zero_cycles (rate periodSum : Nat) : meanFrequency rate periodSum 0 = 0 := rfl

section
variable (rate : Nat) {periodSum cycles : Nat} (some_cycle : 0 < cycles)
include some_cycle

theorem meanFrequency_of_cycles :
    meanFrequency rate periodSum cycles = rate * 65536000 / (periodSum / cycles) :=
  if_neg some_cycle.ne'

/-- At an average period of at least 6,116,693, the shortest of any band, the largest rate's quotient is in range. -/
theorem meanFrequency_lt_of_band (rate_le : rate ≤ 19200) (in_band : 6116693 ≤ periodSum / cycles) :
    meanFrequency rate periodSum cycles < 2 ^ 32 := by
  calc meanFrequency rate periodSum cycles
      = rate * 65536000 / (periodSum / cycles) := meanFrequency_of_cycles rate some_cycle
    _ ≤ 19200 * 65536000 / 6116693 := Nat.div_le_div (Nat.mul_le_mul_right _ rate_le) in_band (by decide)
    _ < 2 ^ 32 := by decide

end

/-- Settles O53: both floors by the division's own bounds, and the field's width by the band's shortest period. -/
theorem meanFrequencyOfABlock : Obligations.MeanFrequencyOfABlock := by
  intro c p e d f
  have recorded : f = meanFrequency (sampleRate p) c.acc.periodSum c.acc.cycles := c.record_meanFrequency p e d
  refine ⟨fun no_cycle => ?none, fun some_cycle in_band => ?some⟩
  case none => rw [recorded, no_cycle, meanFrequency_zero_cycles]
  case some =>
    have shortest : 6116693 ≤ c.acc.periodSum / c.acc.cycles := (Nat.le_div_iff_mul_le some_cycle).mpr in_band
    have divides : 0 < c.acc.periodSum / c.acc.cycles := by omega
    have quotient := recorded.trans (meanFrequency_of_cycles (sampleRate p) some_cycle)
    refine ⟨c.acc.periodSum / c.acc.cycles, Nat.div_mul_le_self _ _, ?_, ?_, ?_, ?_⟩
    · exact Nat.lt_mul_of_div_lt (Nat.lt_succ_self _) some_cycle
    · exact quotient ▸ Nat.div_mul_le_self _ _
    · exact quotient ▸ Nat.lt_mul_of_div_lt (Nat.lt_succ_self _) divides
    · exact recorded ▸ meanFrequency_lt_of_band _ some_cycle (sampleRate_le p) shortest

end Sys2Proof.Machine
end


section
/-! SUPPORT. The laws of the blocks that no change of another block can break: the capacities of the queues and the ring,
the ranges of the registers, the counts of the blocks, the tables that few commands write. Each operation is said once to
keep them (`Lawful`), and a command keeps them because it is composed of such operations. -/

namespace Sys2Proof.Machine

set_option Elab.async false

open Sys2Proof

/-! ## The laws from one state to the next -/

/-- The queues of the ports within their capacities. -/
def Ports.Fits (p : Ports) : Prop :=
  p.forwardQueue.length ≤ 32 ∧ p.relayQueue.length ≤ 8 ∧ p.noticeQueue.length ≤ 8

/-- The accumulator's cycles are those analysed and those estimated (R133). -/
def Accumulator.Counted (a : Accumulator) : Prop := a.cycles = a.analysed + a.estimated

/-- At most two open accumulators, each counted (R133, R135). -/
def TapAccount.Counted (a : TapAccount) : Prop :=
  a.accumulators.length ≤ 2 ∧ ∀ x ∈ a.accumulators, x.Counted

/-- What every operation but the requests on the registers keeps of a tap's accounts. -/
structure TapAccount.Steady (a b : TapAccount) : Prop where
  constant : b.constant = a.constant
  restore : b.restore = a.restore
  inRange : a.InRange → b.InRange

/-- From s to t the laws are kept that a single block states, and what few commands change: straps, reset line, queue of
commands, constants, restore states and all tables but tap slots and tracker settings. -/
structure Orderly (s t : State) : Prop where
  straps : t.straps = s.straps
  resetLine : t.resetLine = s.resetLine
  pending : t.pending = s.pending
  capacity : s.WithinCapacity → t.WithinCapacity
  accounts : ∀ tap : TapId, s.accounts[tap].Steady t.accounts[tap]
  tables : t.tables = { s.tables with taps := t.tables.taps, settings := t.tables.settings }

/-- From s to t every law about the accounts, the ring and the queues is kept. -/
structure Lawful (s t : State) : Prop where
  orderly : Orderly s t
  counted : s.BlocksCounted → t.BlocksCounted

variable {s t u : State}

theorem TapAccount.Steady.refl (a : TapAccount) : a.Steady a := ⟨rfl, rfl, id⟩

theorem TapAccount.Steady.trans {a b c : TapAccount} (h : a.Steady b) (g : b.Steady c) : a.Steady c :=
  ⟨g.constant.trans h.constant, g.restore.trans h.restore, g.inRange ∘ h.inRange⟩

theorem Orderly.refl (s : State) : Orderly s s := ⟨rfl, rfl, rfl, id, fun tap => .refl s.accounts[tap], rfl⟩

theorem Orderly.trans (h : Orderly s t) (g : Orderly t u) : Orderly s u :=
  ⟨g.straps.trans h.straps, g.resetLine.trans h.resetLine, g.pending.trans h.pending, g.capacity ∘ h.capacity, fun tap => (h.accounts tap).trans (g.accounts tap), by rw [g.tables, h.tables]⟩

theorem Lawful.refl (s : State) : Lawful s s := ⟨.refl s, id⟩

theorem Lawful.trans (h : Lawful s t) (g : Lawful t u) : Lawful s u :=
  ⟨h.orderly.trans g.orderly, g.counted ∘ h.counted⟩

theorem Lawful.ite {p : Prop} [Decidable p] (ht : Lawful s t) (hu : Lawful s u) : Lawful s (if p then t else u) := by
  split <;> assumption

theorem Lawful.foldl {α : Type} {f : State → α → State} (h : ∀ s x, Lawful s (f s x)) :
    ∀ (l : List α) (s : State), Lawful s (l.foldl f s)
  | [], s => .refl s
  | x :: l, s => (h s x).trans (Lawful.foldl h l (f s x))

theorem State.blocksCounted_iff : s.BlocksCounted ↔
    (∀ tap : TapId, s.accounts[tap].Counted) ∧ ∀ r ∈ s.records.ring, r.cycles = r.analysed + r.estimated :=
  ⟨fun h => ⟨fun tap => ⟨h.two tap, h.cycles tap⟩, h.records⟩,
    fun h => ⟨fun tap => (h.1 tap).1, fun tap => (h.1 tap).2, h.2⟩⟩

/-! ## Changes outside the laws, and within one block of them -/

/-- The blocks of which no law speaks. -/
abbrev lawlessBlocks : List Block :=
  [.wire, .latches, .agreement, .intake, .trackers, .former, .choices]

/-- A change of the ports, beside blocks of which no law speaks, is lawful where it keeps the queues fitting. -/
theorem Lawful.of_ports (h : SameOutside (.ports :: lawlessBlocks) s t) (fits : s.ports.Fits → t.ports.Fits) :
    Lawful s t := by
  have accounts := h.get .accounts
  have records := h.get .records
  have tables := h.get .tables
  have engine := h.get .engine
  have management := h.get .management
  simp only [Block.same] at accounts records tables engine management
  refine ⟨⟨h.get .straps, h.get .resetLine, h.get .pending, fun c => ?_, fun tap => ?_, by rw [tables]⟩, fun c => ?_⟩
  · obtain ⟨forward, relay, notices⟩ := fits ⟨c.forward, c.relay, c.notices⟩
    exact ⟨forward, relay, notices, management ▸ c.requests, engine ▸ c.jobs, records ▸ c.ring⟩
  · rw [accounts]; exact .refl _
  · rw [State.blocksCounted_iff] at c ⊢
    rwa [accounts, records]

theorem Lawful.of_frame (h : SameOutside lawlessBlocks s t) : Lawful s t :=
  .of_ports h.wider (by rw [show t.ports = s.ports from h.get .ports]; exact id)

/-- The queue of waiting requests may change within its capacity. -/
theorem Lawful.setManagement (s : State) (m : Management)
    (requests : s.management.requestQueue.length ≤ 4 → m.requestQueue.length ≤ 4) : Lawful s (s.setManagement m) :=
  ⟨⟨rfl, rfl, rfl, fun c => ⟨c.forward, c.relay, c.notices, requests c.requests, c.jobs, c.ring⟩, fun _ => .refl _, rfl⟩,
    fun c => ⟨c.two, c.cycles, c.records⟩⟩

/-- The cycle queue may change within its capacity. -/
theorem Lawful.setEngine (s : State) (e : Engine) (jobs : s.engine.queue.length ≤ 16 → e.queue.length ≤ 16) :
    Lawful s (s.setEngine e) :=
  ⟨⟨rfl, rfl, rfl, fun c => ⟨c.forward, c.relay, c.notices, c.requests, jobs c.jobs, c.ring⟩, fun _ => .refl _, rfl⟩,
    fun c => ⟨c.two, c.cycles, c.records⟩⟩

/-- Tap slots and tracker settings are not among the tables that few commands write. -/
theorem Lawful.setTables (s : State) (x : Tables)
    (kept : x = { s.tables with taps := x.taps, settings := x.settings }) : Lawful s (s.setTables x) :=
  ⟨⟨rfl, rfl, rfl, fun c => ⟨c.forward, c.relay, c.notices, c.requests, c.jobs, c.ring⟩, fun _ => .refl _, kept⟩,
    fun c => ⟨c.two, c.cycles, c.records⟩⟩

/-- The ring may change within its capacity. -/
theorem Orderly.setRecords (s : State) (x : Records) (ring : s.records.ring.length ≤ 64 → x.ring.length ≤ 64) :
    Orderly s (s.setRecords x) :=
  ⟨rfl, rfl, rfl, fun c => ⟨c.forward, c.relay, c.notices, c.requests, c.jobs, ring c.ring⟩, fun _ => .refl _, rfl⟩

/-- What the record unit keeps beside the ring may change. -/
theorem Lawful.setRecords (s : State) (x : Records) (ring : x.ring = s.records.ring) : Lawful s (s.setRecords x) :=
  ⟨.setRecords s x (by rw [ring]; exact id), fun c => ⟨c.two, c.cycles, by
    rw [State.setRecords_records, ring]; exact c.records⟩⟩

@[simp] theorem State.modAccount_accounts (s : State) (tap other : TapId) (f : TapAccount → TapAccount) :
    (s.modAccount tap f).accounts[other] = if tap = other then f s.accounts[other] else s.accounts[other] :=
  getElem_modAt ..

@[simp] theorem State.modAccount_records (s : State) (tap : TapId) (f : TapAccount → TapAccount) :
    (s.modAccount tap f).records = s.records := rfl

/-- A tap's accounts may change steadily. -/
theorem Orderly.modAccount (s : State) {tap : TapId} {f : TapAccount → TapAccount}
    (steady : s.accounts[tap].Steady (f s.accounts[tap])) : Orderly s (s.modAccount tap f) := by
  refine ⟨rfl, rfl, rfl, fun c => ⟨c.forward, c.relay, c.notices, c.requests, c.jobs, c.ring⟩, fun other => ?_, rfl⟩
  rw [State.modAccount_accounts]
  split
  · next h => exact h ▸ steady
  · exact .refl _

/-- A change of one tap's accounts that keeps its accumulators counted keeps the blocks counted. -/
theorem State.BlocksCounted.modAccount (h : s.BlocksCounted) {tap : TapId} {f : TapAccount → TapAccount}
    (counted : (f s.accounts[tap]).Counted) : (s.modAccount tap f).BlocksCounted := by
  rw [State.blocksCounted_iff] at h ⊢
  refine ⟨fun other => ?_, h.2⟩
  rw [State.modAccount_accounts]
  split
  · next e => exact e ▸ counted
  · exact h.1 other

theorem State.BlocksCounted.account (h : s.BlocksCounted) (tap : TapId) : s.accounts[tap].Counted := ⟨h.two tap, h.cycles tap⟩

theorem Lawful.modAccount (s : State) {tap : TapId} {f : TapAccount → TapAccount}
    (steady : s.accounts[tap].Steady (f s.accounts[tap]))
    (counted : s.accounts[tap].Counted → (f s.accounts[tap]).Counted) : Lawful s (s.modAccount tap f) :=
  ⟨.modAccount s steady, fun h => h.modAccount (counted (h.account tap))⟩

end Sys2Proof.Machine
end


section
/-! SUPPORT. Each operation of the ports, the record unit, the accounting unit and the engine keeps the laws. -/

namespace Sys2Proof.Machine

set_option Elab.async false

open Sys2Proof

variable (s : State)

/-! ## Ports -/

theorem State.chooseA_lawful : Lawful s s.chooseA :=
  .of_ports s.chooseA_frame.wider fun h => by rw [s.chooseA_ports]; exact h

theorem State.chooseB_lawful : Lawful s s.chooseB :=
  .of_ports s.chooseB_frame.wider fun h => by rw [s.chooseB_ports]; exact h

/-- Ports replaced by ports whose queues fit too. -/
theorem Lawful.setPorts (p : Ports) (fits : s.ports.Fits → p.Fits) : Lawful s (s.setPorts p) :=
  .of_ports (s.setPorts_frame p).wider fits

theorem State.placeOffer_lawful (o : Offer) : Lawful s (s.placeOffer o) :=
  Lawful.trans (.setPorts s _ (by exact id)) (State.chooseA_lawful _)

theorem State.withdrawOffer_lawful : Lawful s s.withdrawOffer := .setPorts s _ fun h => h

theorem State.setLatches_lawful (x : Latches) : Lawful s (s.setLatches x) := .of_frame (s.setLatches_frame x).wider

theorem State.enterForward_lawful (f : Bytes) : Lawful s (s.enterForward f) := by
  rcases s.enterForward_cases f with ⟨room, h⟩ | ⟨-, h⟩ <;> rw [h]
  · refine .trans (.setPorts s _ ?_) (State.chooseB_lawful _)
    exact fun fit => ⟨by simpa using room, fit.2⟩
  · exact s.setLatches_lawful _

theorem State.enterRelay_lawful (f : Bytes) : Lawful s (s.enterRelay f) := by
  rcases s.enterRelay_cases f with ⟨room, h⟩ | ⟨-, h⟩ <;> rw [h]
  · refine .trans (.setPorts s _ ?_) (State.chooseA_lawful _)
    exact fun fit => ⟨fit.1, by simpa using room, fit.2.2⟩
  · exact s.setLatches_lawful _

theorem State.handOver_lawful (n : NoticeBody) : Lawful s (s.handOver n) := by
  rcases s.handOver_cases n with ⟨-, h⟩ | ⟨-, -, h⟩ | ⟨-, room, h⟩ <;> rw [h]
  · exact .refl s
  · exact s.setLatches_lawful _
  · refine .trans (.setPorts s _ ?_) (State.chooseB_lawful _)
    exact fun fit => ⟨fit.1, fit.2.1, by simpa using room⟩

theorem State.answer_lawful (r : Request) (x : Result) (b : Bytes) : Lawful s (s.answer r x b) :=
  .trans (.trans (.setManagement s _ (by exact id)) (.setPorts _ _ (by exact id))) (State.chooseB_lawful _)

theorem State.refuse_lawful (r : Request) (x : Result) : Lawful s (s.refuse r x) := s.answer_lawful r x []

/-! ## Record unit -/

theorem State.moveLimit_lawful (c : ClosedBlock) (k : LimitKind) : Lawful s (s.moveLimit c k) := by
  unfold State.moveLimit
  dsimp only
  split
  · exact .setRecords s _ rfl
  · exact .trans (.setRecords s _ (by rfl)) (State.handOver_lawful _ _)

theorem State.moveLimits_lawful (c : ClosedBlock) : Lawful s (s.moveLimits c) :=
  Lawful.foldl (fun s k => s.moveLimit_lawful c k) _ s

theorem State.placeReport_lawful (r : BlockRecord) : Lawful s (s.placeReport r) := by
  unfold State.placeReport
  split
  · exact .refl s
  · exact .setRecords s _ rfl
  · split
    · exact .refl s
    · exact .trans (.trans (.setPorts s _ (by exact id)) (.setRecords _ _ (by rfl))) (State.chooseB_lawful _)

theorem State.storeRecord_orderly (r : BlockRecord) : Orderly s (s.storeRecord r) := by
  refine .setRecords s _ fun h => ?_
  rw [List.length_append, List.length_singleton, Config.ringCapacity]
  split
  · omega
  · rw [List.length_tail]
    omega

/-- A counted record in the ring keeps the blocks counted. -/
theorem State.BlocksCounted.storeRecord {s : State} (h : s.BlocksCounted) {r : BlockRecord}
    (counted : r.cycles = r.analysed + r.estimated) : (s.storeRecord r).BlocksCounted := by
  refine ⟨h.two, h.cycles, fun x hx => ?_⟩
  simp only [State.storeRecord, State.setRecords_records, List.mem_append, List.mem_singleton] at hx
  obtain hx | rfl := hx
  · split at hx
    · exact h.records x hx
    · exact h.records x (List.mem_of_mem_tail hx)
  · exact counted

theorem State.receive_orderly (c : ClosedBlock) : Orderly s (s.receive c) :=
  ((s.storeRecord_orderly _).trans (State.moveLimits_lawful _ c).orderly).trans (State.placeReport_lawful _ _).orderly

theorem State.BlocksCounted.receive {s : State} (h : s.BlocksCounted) {c : ClosedBlock} (counted : c.acc.Counted) :
    (s.receive c).BlocksCounted :=
  (State.placeReport_lawful _ _).counted ((State.moveLimits_lawful _ c).counted (h.storeRecord counted))

/-! ## Registers (R129) -/

theorem Register.addCount_inRange {g : Register} {k : Nat} (h : g.residue < k) (q : Nat) : (g.addCount q).InRange k :=
  ⟨h, Nat.le_pred_of_lt (Nat.mod_lt _ (by decide)), satAdd_le _ _ _⟩

/-- The residue left by a division at constant k is below it. -/
theorem sub_div_mul_lt {k : Nat} (h : 0 < k) (x : Nat) : x - x / k * k < k := by
  rw [Nat.mul_comm, ← Nat.mod_eq_sub_mul_div]
  exact Nat.mod_lt x h

theorem Register.addEnergy_inRange {k : Nat} (h : 0 < k) (g : Register) (x : Nat) : (g.addEnergy k x).1.InRange k :=
  Register.addCount_inRange (sub_div_mul_lt h (g.residue + x)) _

theorem Register.convert_inRange {k : Nat} (h : 0 < k) (g : Register) : (g.convert k).1.InRange k :=
  Register.addCount_inRange (sub_div_mul_lt h g.residue) _

theorem Register.restore_inRange {g : Register} {k : Nat} (h : g.InRange k) (n r : Nat) : (g.restore n r).InRange k :=
  ⟨h.residue, Nat.le_pred_of_lt (Nat.mod_lt _ (by decide)), satAdd_le _ _ _⟩

theorem addContributions_inRange {registers : Vector Register 48} {k : Nat} (positive : 0 < k)
    (h : ∀ i : Fin 48, registers[i].InRange k) (tariff : Tariff) (x : Vector Nat 12) (i : Fin 48) :
    (addContributions registers k tariff x)[i].InRange k := by
  rw [addContributions, getElem_ofFn_fin]
  split
  · exact Register.addEnergy_inRange positive _ _
  · exact h i

/-! ## Accounts -/

/-- Accounts that differ in no register, constant or restore state. -/
theorem TapAccount.Steady.of_registers {a b : TapAccount} (registers : b.registers = a.registers)
    (constant : b.constant = a.constant) (restore : b.restore = a.restore) : a.Steady b :=
  ⟨constant, restore, fun h => ⟨constant ▸ h.low, constant ▸ h.high, by rw [registers, constant]; exact h.registers⟩⟩

theorem TapAccount.accountCycle_steady (a : TapAccount) (groups : Vector GroupEntry 49) (e : EntryHead) (c : CycleInfo)
    (x : Spectrum) (h : Nat) : a.Steady (a.accountCycle groups e c x h) := by
  refine ⟨rfl, rfl, fun r => ⟨r.low, r.high, fun i => ?_⟩⟩
  dsimp only [TapAccount.accountCycle]
  split
  · exact addContributions_inRange r.low r.registers _ _ i
  · exact r.registers i

theorem TapAccount.account_steady (a : TapAccount) (groups : Vector GroupEntry 49) (estimate : Bool) (e : EntryHead)
    (c : CycleInfo) (x : Spectrum) (h : Nat) : a.Steady (a.account groups estimate e c x h) :=
  (a.accountCycle_steady groups e c x h).trans (.of_registers rfl rfl rfl)

/-- Accumulators changed on one block each keep their number, and stay counted where the change keeps them so. -/
theorem TapAccount.Counted.onBlock {a b : TapAccount} (h : a.Counted) {block : BitVec 32}
    {f : Accumulator → Accumulator} (counted : ∀ x : Accumulator, x.Counted → (f x).Counted)
    (accumulators : b.accumulators = Machine.onBlock block f a.accumulators) : b.Counted := by
  unfold TapAccount.Counted
  rw [accumulators, Machine.onBlock]
  refine ⟨(List.length_map _).trans_le h.1, fun x hx => ?_⟩
  obtain ⟨y, hy, rfl⟩ := List.mem_map.mp hx
  split
  · exact counted y (h.2 y hy)
  · exact h.2 y hy

theorem Accumulator.Counted.account {a : Accumulator} (h : a.Counted) (estimate accounting : Bool) (period : Nat)
    (q : Vector Nat 12) (x : Spectrum) : (a.account estimate accounting period q x).Counted := by
  have cycles : a.cycles = a.analysed + a.estimated := h
  cases estimate <;> simp only [Accumulator.Counted, Accumulator.account, Bool.false_eq_true, if_true, if_false] <;> omega

theorem TapAccount.Counted.account {a : TapAccount} (h : a.Counted) (groups : Vector GroupEntry 49) (estimate : Bool)
    (e : EntryHead) (c : CycleInfo) (x : Spectrum) (n : Nat) : (a.account groups estimate e c x n).Counted :=
  h.onBlock (fun _ counted => counted.account ..) rfl

/-! ## The close of a block (R134, R135) -/

theorem State.receive_accounts (c : ClosedBlock) : (s.receive c).accounts = s.accounts :=
  (s.receive_frame c).get .accounts

theorem State.closeOldest_orderly (tap : TapId) (forced : Bool) : Orderly s (s.closeOldest tap forced) := by
  unfold State.closeOldest
  split
  · exact .refl s
  · exact (Orderly.modAccount s (.of_registers rfl rfl rfl)).trans (State.receive_orderly _ _)

theorem State.BlocksCounted.closeOldest {s : State} (h : s.BlocksCounted) (tap : TapId) (forced : Bool) :
    (s.closeOldest tap forced).BlocksCounted := by
  have account := h.account tap
  unfold State.closeOldest
  split
  · exact h
  · next a rest e =>
    rw [TapAccount.Counted, e] at account
    refine State.BlocksCounted.receive (h.modAccount ?_) (account.2 a (List.mem_cons_self ..))
    exact ⟨Nat.le_of_succ_le account.1, fun x hx => account.2 x (List.mem_cons_of_mem a hx)⟩

theorem State.closeOldest_lawful (tap : TapId) (forced : Bool) : Lawful s (s.closeOldest tap forced) :=
  ⟨s.closeOldest_orderly tap forced, fun h => h.closeOldest tap forced⟩

/-- A close takes the oldest accumulator of its tap away. -/
theorem State.closeOldest_accumulators (tap : TapId) (forced : Bool) :
    (s.closeOldest tap forced).accounts[tap].accumulators = s.accounts[tap].accumulators.tail := by
  unfold State.closeOldest
  split
  · next e => rw [e, List.tail_nil]
  · next e => rw [State.receive_accounts, State.modAccount_accounts, if_pos rfl, e, List.tail_cons]

theorem State.closeTest_lawful (tap : TapId) : Lawful s (s.closeTest tap) := by
  unfold State.closeTest
  split
  · exact .refl s
  · exact .ite (s.closeOldest_lawful tap false) (.refl s)

theorem State.closeComplete_lawful (tap : TapId) : Lawful s (s.closeComplete tap) :=
  (s.closeTest_lawful tap).trans (State.closeTest_lawful _ tap)

theorem State.length_closeTest_le (tap : TapId) :
    (s.closeTest tap).accounts[tap].accumulators.length ≤ s.accounts[tap].accumulators.length := by
  unfold State.closeTest
  split
  · exact Nat.le_refl _
  · split
    · rw [State.closeOldest_accumulators, List.length_tail]
      exact Nat.sub_le _ _
    · exact Nat.le_refl _

/-! ## Registration and accounting (R132, R133, R136) -/

theorem State.openFor_lawful (e : EntryHead) : Lawful s (s.openFor e) := by
  unfold State.openFor
  refine .ite (.refl s) ?_
  dsimp only
  have opened (m : State) (hm : Lawful s m)
      (room : s.BlocksCounted → m.accounts[e.tap].accumulators.length < 2) :
      Lawful s (m.modAccount e.tap fun t =>
        { t with accumulators := t.accumulators ++ [.start e t.firstAfterReset], firstAfterReset := false }) := by
    refine ⟨hm.orderly.trans (.modAccount m (.of_registers rfl rfl rfl)), fun h => ?_⟩
    have counted := hm.counted h
    refine counted.modAccount ⟨?_, fun x hx => ?_⟩
    · simpa using room h
    · rcases List.mem_append.mp hx with hx | hx
      · exact (counted.account e.tap).2 x hx
      · rw [List.mem_singleton.mp hx]
        rfl
  split
  · next room => exact opened s (.refl s) fun _ => room
  · refine opened _ ((s.closeOldest_lawful e.tap true).trans (State.closeTest_lawful _ e.tap)) fun h => ?_
    have two := h.two e.tap
    have closed := State.length_closeTest_le (s.closeOldest e.tap true) e.tap
    rw [State.closeOldest_accumulators, List.length_tail] at closed
    omega

/-- A change of the accumulators of one block, beside fields that no law is about. -/
theorem Lawful.onBlock {tap : TapId} {f : TapAccount → TapAccount} {block : BitVec 32} {g : Accumulator → Accumulator}
    (accumulators : (f s.accounts[tap]).accumulators = Machine.onBlock block g s.accounts[tap].accumulators)
    (steady : s.accounts[tap].Steady (f s.accounts[tap])) (counted : ∀ x : Accumulator, x.Counted → (g x).Counted) :
    Lawful s (s.modAccount tap f) :=
  .modAccount s steady fun h => h.onBlock counted accumulators

theorem State.registerKind_lawful (x : Entry) : Lawful s (s.registerKind x) := by
  cases x with
  | job e c => exact .onBlock s rfl (.of_registers rfl rfl rfl) fun _ h => h
  | estimate e c copy =>
    have marked : Lawful s (s.modAccount e.tap fun t =>
        { t with accumulators := Machine.onBlock e.block (·.takeCycle c) t.accumulators }) :=
      .onBlock s rfl (.of_registers rfl rfl rfl) fun _ h => h
    exact marked.trans (.modAccount _ (TapAccount.account_steady ..) fun h => h.account ..)
  | dropped e c => exact .onBlock s rfl (.of_registers rfl rfl rfl) fun _ h => h
  | close e => exact .refl s

theorem State.register_lawful (x : Entry) : Lawful s (s.register x) := by
  refine Lawful.trans ?_ (State.closeComplete_lawful _ _)
  refine Lawful.trans ?_ (State.registerKind_lawful _ x)
  exact (s.openFor_lawful x.head).trans (.onBlock _ rfl (.of_registers rfl rfl rfl) fun _ h => h)

theorem State.accountJob_lawful (e : EntryHead) (c : CycleInfo) (x : Spectrum) : Lawful s (s.accountJob e c x) := by
  unfold State.accountJob
  dsimp only
  refine Lawful.trans ?_ (State.closeComplete_lawful _ _)
  have accounted : Lawful s (s.modAccount e.tap fun t => t.account s.tables.groups false e c x e.snapshot.hMax) :=
    .modAccount s (TapAccount.account_steady ..) fun h => h.account ..
  exact .ite (accounted.trans (.modAccount _ (.of_registers rfl rfl rfl) fun h => h)) accounted

/-! ## Engine -/

theorem Engine.length_take_le (e : Engine) : e.take.queue.length ≤ e.queue.length := by
  unfold Engine.take
  split
  · next h => simp [h]
  · exact Nat.le_refl _

theorem Engine.record_queue (e : Engine) (j : Job) (phasors : Vector (List Phasor) 6) :
    (e.record j phasors).queue = e.queue := by
  unfold Engine.record
  dsimp only
  split <;> rfl

theorem State.takeJob_lawful : Lawful s (s.setEngine s.engine.take) :=
  .setEngine s _ s.engine.length_take_le.trans

theorem State.breakSpectrum_lawful (tap : TapId) : Lawful s (s.breakSpectrum tap) := .setEngine s _ fun h => h

end Sys2Proof.Machine
end


section
/-! SUPPORT. Each operation of the trackers, the cycle former, the intake, the agreement unit and the management unit keeps
the laws, and so do the resets. -/

namespace Sys2Proof.Machine

set_option Elab.async false

open Sys2Proof

variable (s : State)

/-! ## Changes of one block -/

theorem State.modTracker_lawful (t : TrackerId) (f : Tracker → Tracker) : Lawful s (s.modTracker t f) :=
  .of_frame (s.modTracker_frame t f).wider

theorem State.setFormer_lawful (x : Former) : Lawful s (s.setFormer x) := .of_frame (s.setFormer_frame x).wider

theorem State.setIntake_lawful (x : Intake) : Lawful s (s.setIntake x) := .of_frame (s.setIntake_frame x).wider

theorem State.setAgreement_lawful (x : Agreement) : Lawful s (s.setAgreement x) := .of_frame (s.setAgreement_frame x).wider

theorem State.modSettings_lawful (t : TrackerId) (f : TrackerSettings → TrackerSettings) : Lawful s (s.modSettings t f) :=
  .setTables s _ rfl

theorem State.modTapSlot_lawful (tap : TapId) (f : TapSlot → TapSlot) : Lawful s (s.modTapSlot tap f) :=
  .setTables s _ rfl

/-! ## Trackers -/

theorem State.trackerNotice_lawful (t : TrackerId) (p : TrackerState) (c : TrackerCause) :
    Lawful s (s.trackerNotice t p c) := s.handOver_lawful _

theorem State.lose_lawful (t : TrackerId) (c : TrackerCause) : Lawful s (s.lose t c) :=
  (s.modTracker_lawful t _).trans (State.trackerNotice_lawful _ _ _ _)

theorem State.acceptCrossing_lawful (t : TrackerId) (m : Nat) : Lawful s (s.acceptCrossing t m) := by
  unfold State.acceptCrossing
  dsimp only
  split
  · refine .ite ?_ (s.modTracker_lawful t _)
    exact ((s.modTracker_lawful t _).trans (State.modTracker_lawful _ t _)).trans (State.trackerNotice_lawful _ _ _ _)
  · exact s.modTracker_lawful t _
  · exact (s.modTracker_lawful t _).trans (State.trackerNotice_lawful _ _ _ _)
  · exact (s.modTracker_lawful t _).trans (State.trackerNotice_lawful _ _ _ _)
  · exact .refl s
  · exact .refl s

theorem State.rejectCrossing_lawful (t : TrackerId) : Lawful s (s.rejectCrossing t) :=
  .ite (.ite ((s.modTracker_lawful t _).trans (State.lose_lawful _ t _)) (s.modTracker_lawful t _)) (.refl s)

theorem State.checkAge_lawful (t : TrackerId) : Lawful s (s.checkAge t) := .ite (s.lose_lawful t _) (.refl s)

theorem State.examine_lawful (t : TrackerId) (start : Bool) (v : ChannelValues) : Lawful s (s.examine t start v) := by
  unfold State.examine State.examineMain
  dsimp only
  refine .trans (.trans ?_ (State.checkAge_lawful _ t)) (State.modTracker_lawful _ t _)
  split
  · exact (s.modTracker_lawful t _).trans (State.acceptCrossing_lawful _ t _)
  · exact (s.modTracker_lawful t _).trans (State.rejectCrossing_lawful _ t)
  all_goals exact s.modTracker_lawful t _

theorem State.dipCheck_lawful (t : TrackerId) : Lawful s (s.dipCheck t) :=
  .ite ((s.modTracker_lawful t _).trans (State.lose_lawful _ t _)) (s.modTracker_lawful t _)

theorem State.commit_lawful (t : TrackerId) (h : Handover) : Lawful s (s.commit t h) := by
  unfold State.commit
  dsimp only
  have noticed := ((s.modSettings_lawful t fun x => { x with reference := h.channel }).trans
    (State.modTracker_lawful _ t fun k => k.commit h)).trans
      (State.handOver_lawful _ (.handover t .committed s.tables.settings[t].reference h.channel h.timeout h.locked
        (((s.modSettings t fun x => { x with reference := h.channel }).modTracker t fun k => k.commit h).trackers[t].state)
        h.ls))
  exact .ite noticed (noticed.trans (State.trackerNotice_lawful _ _ _ _))

theorem State.dropHandover_lawful (t : TrackerId) (o : HandoverOutcome) (h : Handover) :
    Lawful s (s.dropHandover t o h) :=
  (s.modTracker_lawful t _).trans (State.handOver_lawful _ _)

theorem State.advanceTimeout_lawful (t : TrackerId) (h : Handover) : Lawful s (s.advanceTimeout t h) :=
  .ite (s.dropHandover_lawful t _ _) (s.modTracker_lawful t _)

theorem State.handoverStep_lawful (t : TrackerId) : Lawful s (s.handoverStep t) := by
  unfold State.handoverStep
  split
  · exact .refl s
  · exact .ite (s.commit_lawful t _) (s.advanceTimeout_lawful t _)

theorem State.advanceHoldover_lawful (t : TrackerId) : Lawful s (s.advanceHoldover t) :=
  .ite ((s.modTracker_lawful t _).trans (State.trackerNotice_lawful _ _ _ _)) (s.modTracker_lawful t _)

theorem State.trackerWork_lawful (t : TrackerId) : Lawful s (s.trackerWork t).1 := by
  unfold State.trackerWork
  dsimp only
  have stepped := (s.dipCheck_lawful t).trans (State.handoverStep_lawful _ t)
  exact .trans (.ite (stepped.trans (State.advanceHoldover_lawful _ t)) stepped) (State.modTracker_lawful _ t _)

theorem State.rateChange_lawful (t : TrackerId) : Lawful s (s.rateChange t) := by
  unfold State.rateChange
  split
  · exact .refl s
  · exact s.modTracker_lawful t _
  · exact s.modTracker_lawful t _
  all_goals exact (s.modTracker_lawful t _).trans (State.trackerNotice_lawful _ _ _ _)

/-! ## Cycle former -/

theorem State.applyEntry_lawful (tap : TapId) (e : TapEntry) : Lawful s (s.applyEntry tap e) :=
  .ite (s.modTapSlot_lawful tap _) ((s.modTapSlot_lawful tap _).trans (State.breakSpectrum_lawful _ tap))

theorem State.applyInactive_lawful (tap : TapId) (e : TapEntry) : Lawful s (s.applyInactive tap e) :=
  (s.applyEntry_lawful tap e).trans (State.setFormer_lawful _ _)

theorem State.applyStaged_lawful (tap : TapId) : Lawful s (s.applyStaged tap) := by
  unfold State.applyStaged
  split
  · exact .refl s
  · split
    · exact s.applyInactive_lawful tap _
    all_goals exact (s.applyEntry_lawful tap _).trans (State.setFormer_lawful _ _)

theorem State.applyAllStaged_lawful (u : TrackerId) : Lawful s (s.applyAllStaged u) :=
  Lawful.foldl (fun s' tap => .ite (s'.applyStaged_lawful tap) (.refl s')) _ s

theorem State.buildEntry_lawful (c : EndedCycle) (tap : TapId) (f : FormerTap) (config stale : Bool) :
    Lawful s (s.buildEntry c tap f config stale) := by
  unfold State.buildEntry
  dsimp only
  split
  · next room =>
    refine .trans (.trans (s.setFormer_lawful _) (.setEngine _ _ fun _ => ?_)) (State.register_lawful _ _)
    rw [List.length_append, List.length_singleton]
    exact room
  · split <;> exact (s.setFormer_lawful _).trans (State.register_lawful _ _)

theorem State.closeEntry_lawful (u : TrackerId) (tariff : Tariff) (tap : TapId) (x : Snapshot) :
    Lawful s (s.closeEntry u tariff tap x) :=
  (s.setFormer_lawful _).trans (State.register_lawful _ _)

theorem State.advanceBlock_lawful (tap : TapId) : Lawful s (s.advanceBlock tap) :=
  .modAccount s (.of_registers rfl rfl rfl) fun h => h

theorem State.entryOf_lawful (b : State) (c : EndedCycle) (tap : TapId) : Lawful s (s.entryOf b c tap) := by
  unfold State.entryOf
  refine .ite ?_ (.refl s)
  split
  · exact s.buildEntry_lawful c tap _ _ _
  · exact .ite (s.closeEntry_lawful _ _ _ _) (.refl s)
  · exact .refl s

theorem State.buildEntries_lawful (b : State) (c : EndedCycle) : Lawful s (s.buildEntries b c) :=
  (Lawful.foldl (fun s' tap => s'.entryOf_lawful b c tap) _ s).trans
    (Lawful.foldl (fun s' tap => .ite (s'.advanceBlock_lawful tap) (.refl s')) _ _)

theorem State.formerPart_lawful (length period : Nat) (filled : Bool) (m : Marks) (u : TrackerId) :
    Lawful s (s.formerPart length period filled m u) := by
  unfold State.formerPart
  dsimp only
  refine .trans (.trans ?_ (State.applyAllStaged_lawful _ u)) (State.buildEntries_lawful _ _ _)
  exact .ite ((s.setFormer_lawful _).trans (.of_frame (State.tariffStep_frame _ u).wider)) (s.setFormer_lawful _)

theorem State.cycleEnd_lawful (t : TrackerId) (r : Resampler) (acc : Nat) : Lawful s (s.cycleEnd t r acc) := by
  unfold State.cycleEnd
  dsimp only
  refine .trans ?_ (State.setFormer_lawful _ _)
  have ended (f : FormerTracker → FormerTracker) := ((s.trackerWork_lawful t).trans (State.setFormer_lawful _
    { (s.trackerWork t).1.former with trackers := modAt (s.trackerWork t).1.former.trackers t f })).trans
      (State.formerPart_lawful _ r.samples r.period r.filled (s.trackerWork t).2 t)
  exact .ite ((ended _).trans (State.formerPart_lawful _ _ _ _ _ _)) (ended _)

theorem State.producePoint_lawful (t : TrackerId) (p v : ChannelValues) (num inc : Nat) (i : Fin 128) :
    Lawful s (s.producePoint t p v num inc i) := by
  unfold State.producePoint
  dsimp only
  have produced (x : Former) (g : Tracker → Tracker) := (s.setFormer_lawful x).trans (State.modTracker_lawful _ t g)
  exact .ite ((produced _ _).trans (State.dipCheck_lawful _ t)) (produced _ _)

theorem State.producePoints_lawful (t : TrackerId) (p v : ChannelValues) (r : Resampler) (fuel : Nat) :
    ∀ (s : State) (i : Nat), Lawful s (s.producePoints t p v r fuel i).1 := by
  induction fuel with
  | zero => intro s i; exact .refl s
  | succ n ih =>
    intro s i
    unfold State.producePoints
    split
    · split
      · exact (s.producePoint_lawful t p v _ _ _).trans (ih _ _)
      · exact .refl s
    · exact .refl s

theorem State.resample_lawful (t : TrackerId) (p v : ChannelValues) (filled : Bool) :
    Lawful s (s.resample t p v filled) := by
  unfold State.resample
  split
  · exact .refl s
  · next r _ =>
    dsimp only
    have points := State.producePoints_lawful t p v r 128 s r.point
    have ended (x : Resampler) (acc : Nat) := points.trans (State.cycleEnd_lawful _ t x acc)
    refine .ite (points.trans (State.setFormer_lawful _ _)) (.ite (ended _ _) ?_)
    exact ((ended _ _).trans (State.producePoint_lawful _ t p v _ _ _)).trans (State.setFormer_lawful _ _)

theorem State.stopTap_lawful (u : TrackerId) (tap : TapId) : Lawful s (s.stopTap u tap) := by
  unfold State.stopTap
  split
  · exact .refl s
  all_goals
    dsimp only
    refine .trans (.trans ?_ (State.advanceBlock_lawful _ tap)) (State.setFormer_lawful _ _)
    exact (s.setFormer_lawful _).trans (State.closeEntry_lawful _ _ _ _ _)

theorem State.stopCycles_lawful (w : TrackerId → Bool) : Lawful s (s.stopCycles w) := by
  unfold State.stopCycles
  dsimp only
  have closed := Lawful.foldl (f := fun s' tap => if w (s.tapTracker tap) then s'.stopTap (s.tapTracker tap) tap else s')
    fun s' tap => .ite (s'.stopTap_lawful _ tap) (.refl s')
  have cleared := Lawful.foldl (f := fun s' u => if w u then s'.clearBlockIndex u false else s')
    fun s' u => .ite (.of_frame (s'.clearBlockIndex_frame u false).wider) (.refl s')
  have applied := Lawful.foldl (f := fun s' tap => if w (s.tapTracker tap) then s'.applyStaged tap else s')
    fun s' tap => .ite (s'.applyStaged_lawful tap) (.refl s')
  exact ((closed _ s).trans (cleared _ _)).trans (applied _ _)

theorem State.breakCycles_lawful : Lawful s s.breakCycles := .of_frame s.breakCycles_frame.wider

theorem State.changeRate_lawful : Lawful s s.changeRate :=
  ((s.rateChange_lawful 0).trans (State.rateChange_lawful _ 1)).trans
    (Lawful.foldl (fun s' _ => s'.setFormer_lawful _) _ _)

/-! ## Intake -/

theorem State.countClips_lawful (x : Vector Bool 48) : Lawful s (s.countClips x) :=
  .of_frame (s.countClips_frame x).wider

theorem State.handOn_lawful (v : ChannelValues) (filled start : Bool) : Lawful s (s.handOn v filled start) := by
  unfold State.handOn
  dsimp only
  refine .trans ?_ (Lawful.foldl (fun s' t => ?_) _ _)
  · exact ((s.setIntake_lawful _).trans (State.setFormer_lawful _ _)).trans (.of_frame (State.advanceChoice_frame _).wider)
  · exact .ite ((s'.examine_lawful t start v).trans (State.resample_lawful _ t _ v filled)) (.refl s')

theorem State.fill_lawful (g : Nat) : ∀ s : State, Lawful s (State.fill g s) := by
  induction g with
  | zero => exact .refl
  | succ n ih => exact fun s => (s.handOn_lawful _ true false).trans (ih _)

theorem State.takeFrame_lawful (x : SampleSet) (start : Bool) : Lawful s (s.takeFrame x start) :=
  ((s.countClips_lawful _).trans (State.handOn_lawful _ _ false start)).trans (State.setIntake_lawful _ _)

theorem State.streamBreak_lawful (c : StreamCause) (n : BitVec 16) : Lawful s (s.streamBreak c n) :=
  ((s.handOver_lawful _).trans (State.setLatches_lawful _ _)).trans (State.breakCycles_lawful _)

theorem State.sequenceCheck_lawful (x : SampleSet) (g : Nat) : Lawful s (s.sequenceCheck x g) := by
  unfold State.sequenceCheck
  refine .ite (s.takeFrame_lawful x false) (.ite ?_ (.ite ?_ (.refl s)))
  · exact ((s.setLatches_lawful _).trans (State.fill_lawful g _)).trans (State.takeFrame_lawful _ x _)
  · exact (s.streamBreak_lawful _ _).trans (State.takeFrame_lawful _ x _)

theorem State.intakeSampleSet_lawful (x : SampleSet) : Lawful s (s.intakeSampleSet x) := by
  unfold State.intakeSampleSet
  split
  · refine .ite ?_ (s.setLatches_lawful _)
    unfold State.admitSet
    split
    · exact s.sequenceCheck_lawful x _
    all_goals exact s.takeFrame_lawful x true
  all_goals exact .refl s

theorem State.silenceExpired_lawful : Lawful s s.silenceExpired :=
  (s.streamBreak_lawful _ _).trans (State.setIntake_lawful _ _)

/-! ## Agreement unit -/

theorem State.offerAgain_lawful (a : Bool) : Lawful s (s.offerAgain a) :=
  (s.setAgreement_lawful _).trans (State.placeOffer_lawful _ _)

theorem State.enterListen_lawful : Lawful s s.enterListen :=
  (s.setAgreement_lawful _).trans (State.offerAgain_lawful _ _)

theorem State.enterAcknowledge_lawful : Lawful s s.enterAcknowledge :=
  (s.setAgreement_lawful _).trans (State.offerAgain_lawful _ _)

theorem State.stopOffering_lawful : Lawful s s.stopOffering :=
  (s.setAgreement_lawful _).trans (State.withdrawOffer_lawful _)

theorem State.agreementNotice_lawful (o : AgreementOutcome) (p : ProfileCode) (m : BitVec 8) :
    Lawful s (s.agreementNotice o p m) := s.handOver_lawful _

theorem State.enterAgreed_lawful (p : ProfileCode) (n : Option (AgreementOutcome × BitVec 8)) :
    Lawful s (s.enterAgreed p n) := by
  unfold State.enterAgreed
  dsimp only
  have entered := (s.stopOffering_lawful.trans (State.setAgreement_lawful _
    { s.stopOffering.agreement with state := .agreed p, profile := p })).trans (State.setIntake_lawful _
      { s.stopOffering.intake with stream := .waiting, expected := none, silence := .stopped })
  cases n with
  | none => exact .ite (entered.trans (State.changeRate_lawful _)) entered
  | some x =>
    have noticed := entered.trans (State.agreementNotice_lawful _ x.1 p x.2)
    exact .ite (noticed.trans (State.changeRate_lawful _)) noticed

theorem State.leaveAgreed_lawful : Lawful s s.leaveAgreed := .of_frame s.leaveAgreed_frame.wider

theorem State.matchOffer_lawful (m : BitVec 8) : Lawful s (s.matchOffer m) :=
  .ite ((s.setAgreement_lawful _).trans (State.enterAcknowledge_lawful _)) (s.setAgreement_lawful _)

theorem State.resolve_lawful : Lawful s s.resolve := by
  unfold State.resolve
  dsimp only
  split
  · exact (s.stopOffering_lawful.trans (State.setAgreement_lawful _ _)).trans (State.agreementNotice_lawful _ _ _ _)
  · exact s.enterAgreed_lawful _ _

theorem State.acknowledgeOffer_lawful (m : BitVec 8) (a : Bool) : Lawful s (s.acknowledgeOffer m a) := by
  refine .ite (.ite ?_ (.refl s)) ?_
  · exact .ite ((s.setAgreement_lawful _).trans (State.resolve_lawful _)) (s.setAgreement_lawful _)
  · exact (s.agreementNotice_lawful _ _ _).trans ((State.stopOffering_lawful _).trans (State.setAgreement_lawful _ _))

theorem State.renegotiate_lawful (p : ProfileCode) (m : BitVec 8) : Lawful s (s.renegotiate p m) :=
  (((s.agreementNotice_lawful _ _ _).trans (State.leaveAgreed_lawful _)).trans (State.enterListen_lawful _)).trans
    (State.matchOffer_lawful _ m)

theorem State.takeOffer_lawful (m : BitVec 8) (a : Bool) : Lawful s (s.takeOffer m a) := by
  unfold State.takeOffer
  split
  · exact s.matchOffer_lawful m
  · exact s.acknowledgeOffer_lawful m a
  · exact .refl s
  · exact .ite (.refl s) (s.enterListen_lawful.trans (State.matchOffer_lawful _ m))
  · split
    · exact .refl s
    · exact .ite (.refl s) (s.renegotiate_lawful _ m)

theorem State.partnerOffer_lawful (f : StreamFrame) : Lawful s (s.partnerOffer f) := by
  unfold State.partnerOffer
  refine .ite ?_ (.refl s)
  split
  · exact .refl s
  · exact s.takeOffer_lawful _ _

theorem State.sampleSet_lawful (x : SampleSet) : Lawful s (s.sampleSet x) := by
  have adopted : Lawful s (s.adopt x.code) :=
    .ite (.ite ((s.setAgreement_lawful _).trans (State.enterAgreed_lawful _ _ _)) (s.setAgreement_lawful _)) (.refl s)
  unfold State.sampleSet
  split
  · exact s.intakeSampleSet_lawful x
  all_goals exact adopted

theorem State.setAgreementFields_lawful (m : AgreementMode) (k : BitVec 8) (f : ProfileCode) :
    Lawful s (s.setAgreementFields m k f) := by
  unfold State.setAgreementFields
  dsimp only
  have restarted := (s.setAgreement_lawful (s.agreement.restart m k f)).trans (State.withdrawOffer_lawful _)
  have left := Lawful.ite (p := s.agreement.state.isAgreed = true) (restarted.trans (State.leaveAgreed_lawful _)) restarted
  cases m
  · exact left.trans (State.enterListen_lawful _)
  · exact left.trans (State.enterAgreed_lawful _ _ _)

/-! ## Management unit -/

theorem State.takeRequest_lawful : Lawful s s.takeRequest := by
  unfold State.takeRequest
  split
  · next r rest _ _ queue =>
    have taken : Lawful s (s.setManagement { s.management with requestQueue := rest }) :=
      .setManagement s _ fun h => by
        rw [queue, List.length_cons] at h
        exact Nat.le_of_succ_le h
    dsimp only
    split
    · exact taken.trans (State.refuse_lawful _ _ _)
    · exact taken.trans (.setManagement _ _ (by exact id))
  · exact .refl s

theorem State.requestArrives_lawful (r : Request) : Lawful s (s.requestArrives r) := by
  unfold State.requestArrives
  split
  · next room =>
    refine .trans (.setManagement s _ fun _ => ?_) (State.takeRequest_lawful _)
    rw [List.length_append, List.length_singleton]
    exact room
  · exact s.setLatches_lawful _

theorem State.cancelHandover_lawful (t : TrackerId) : Lawful s (s.cancelHandover t) := by
  unfold State.cancelHandover
  split
  · exact .refl s
  · exact s.dropHandover_lawful t _ _

theorem State.disable_lawful (t : TrackerId) : Lawful s (s.disable t) := by
  unfold State.disable
  dsimp only
  refine .trans (.trans ?_ (State.stopCycles_lawful _ _)) (State.setFormer_lawful _ _)
  refine .trans (.trans ?_ (State.modTracker_lawful _ t _)) (State.setFormer_lawful _ _)
  exact (s.cancelHandover_lawful t).trans (.of_frame (State.abandonOf_frame _ t _).wider)

theorem State.follow_lawful (t : TrackerId) : Lawful s (s.follow t) := by
  unfold State.follow
  dsimp only
  have followed (w : TapId → Bool) (x : Tracker) (p : TrackerState) :=
    (((Lawful.of_frame (s.abandonCycle_frame t Resampler.breakSamples w).wider).trans
      (State.modTracker_lawful _ t fun _ => x)).trans
      (.of_frame (State.discardResampler_frame _ t).wider)).trans (State.trackerNotice_lawful _ t p .follow)
  exact .ite ((followed _ _ _).trans (State.setFormer_lawful _ _)) ((followed _ _ _).trans (State.stopCycles_lawful _ _))

theorem State.unfollow_lawful (t : TrackerId) : Lawful s (s.unfollow t) := by
  unfold State.unfollow
  dsimp only
  have left (x : Tracker) (p : TrackerState) :=
    ((Lawful.of_frame (s.abandonOf_frame t Resampler.samples).wider).trans
      (State.modTracker_lawful _ t fun _ => x)).trans (State.trackerNotice_lawful _ t p .unfollow)
  refine .trans ?_ (.of_frame (State.startResampler_frame _ t).wider)
  exact .ite (left _ _) ((left _ _).trans (.of_frame (State.startCycles_frame _ t).wider))

theorem State.removeTariff_lawful : Lawful s s.removeTariff := .of_frame s.removeTariff_frame.wider

theorem State.trackerTransition_lawful (t : TrackerId) (x : TrackerSettings) :
    Lawful s (s.trackerTransition t x) := by
  unfold State.trackerTransition
  split
  · refine .ite (.ite ?_ (.of_frame (s.enableAcquiring_frame t).wider)) (s.setFormer_lawful _)
    exact (Lawful.of_frame (s.enableFollowing_frame t).wider).trans (State.removeTariff_lawful _)
  · refine .ite (.ite (s.unfollow_lawful t) (.refl s)) ?_
    exact (s.disable_lawful t).trans (State.removeTariff_lawful _)
  all_goals
    refine .ite (.ite ?_ (.refl s)) ?_
    · exact (s.follow_lawful t).trans (State.removeTariff_lawful _)
    · exact (s.disable_lawful t).trans (State.removeTariff_lawful _)

theorem State.startHandover_lawful (r : Request) (t : TrackerId) (c : Channel) : Lawful s (s.startHandover r t c) :=
  .ite (s.refuse_lawful _ _) (.ite (s.refuse_lawful _ _) ((s.modTracker_lawful t _).trans (State.answer_lawful _ _ _ _)))

/-! ## Delivery -/

theorem State.deliverStream_lawful (b : Bytes) (f : State → State) (h : ∀ s, Lawful s (f s)) :
    Lawful s (s.deliverStream b f) := by
  unfold State.deliverStream State.forwardAnd
  have chosen : Lawful s (s.setChoices (s.choices + 1)) := .of_frame (s.setChoices_frame _).wider
  refine .ite (.ite (.ite ?_ ?_) ?_) (h s)
  · exact (chosen.trans (h _)).trans (State.enterForward_lawful _ b)
  · exact (chosen.trans (State.enterForward_lawful _ b)).trans (h _)
  · exact (s.enterForward_lawful b).trans (h _)

theorem State.deliverA_lawful (b : Bytes) : Lawful s (s.deliverA b) := by
  unfold State.deliverA
  split
  · exact s.enterForward_lawful b
  · split
    · exact s.deliverStream_lawful b _ fun s => s.sampleSet_lawful _
    · exact s.deliverStream_lawful b _ fun s => .of_frame (s.intakeTimeMark_frame _).wider
    · exact s.partnerOffer_lawful _
    all_goals exact s.enterForward_lawful b

theorem State.deliverB_lawful (b : Bytes) : Lawful s (s.deliverB b) := by
  unfold State.deliverB
  split
  · exact s.enterRelay_lawful b
  · split
    · exact .ite (s.requestArrives_lawful _) (s.enterRelay_lawful b)
    all_goals exact s.enterRelay_lawful b

theorem State.receptionEnd_lawful (p : Port) (f : RxFrame) : Lawful s (s.receptionEnd p f) := by
  unfold State.receptionEnd
  refine .ite (.refl s) (.ite ?_ (s.setLatches_lawful _))
  cases p
  · exact s.deliverA_lawful _
  · exact s.deliverB_lawful _

end Sys2Proof.Machine
end


section
/-! SUPPORT. The resets, the links and transmissions, the requests and the remaining events keep the laws; then the laws
of the capacities, the registers and the blocks over every step. -/

namespace Sys2Proof.Machine

set_option Elab.async false

open Sys2Proof

variable (s : State)

/-! ## Resets -/

theorem State.emptyOut_accounts (cause : StartCause) (tap : TapId) :
    (s.emptyOut cause).accounts[tap] = s.accounts[tap].warmReset := by
  rw [State.emptyOut, getElem_mapVec]

theorem State.emptyOut_lawful (cause : StartCause) : Lawful s (s.emptyOut cause) := by
  refine ⟨⟨rfl, rfl, rfl, fun _ => ?_, fun tap => ?_, rfl⟩, fun _ => State.blocksCounted_iff.mpr ⟨fun tap => ?_, fun r hr => ?_⟩⟩
  · exact ⟨Nat.zero_le _, Nat.zero_le _, Nat.zero_le _, Nat.zero_le _, Nat.zero_le _, Nat.zero_le _⟩
  · rw [State.emptyOut_accounts]
    exact .of_registers rfl rfl rfl
  · rw [State.emptyOut_accounts]
    exact ⟨Nat.zero_le _, fun _ h => absurd h List.not_mem_nil⟩
  · exact absurd hr List.not_mem_nil

/-- The assertion asserts the line; all else it does is lawful. -/
theorem State.assertReset_lawful : Lawful (s.setResetLine true) s.assertReset :=
  ((s.setResetLine true).emptyOut_lawful .pin).trans (State.setAgreement_lawful _ _)

theorem State.advanceAllBlocks_accounts (tap : TapId) : s.advanceAllBlocks.accounts[tap] =
    { s.accounts[tap] with blockNumber := s.accounts[tap].blockNumber + 1 } := by
  rw [State.advanceAllBlocks, State.setAccounts_accounts, getElem_mapVec]

theorem State.advanceAllBlocks_lawful : Lawful s s.advanceAllBlocks := by
  refine ⟨⟨rfl, rfl, rfl, fun c => ⟨c.forward, c.relay, c.notices, c.requests, c.jobs, c.ring⟩, fun tap => ?_, rfl⟩, fun h => ?_⟩
  · rw [State.advanceAllBlocks_accounts]
    exact .of_registers rfl rfl rfl
  · rw [State.blocksCounted_iff] at h ⊢
    refine ⟨fun tap => ?_, h.2⟩
    rw [State.advanceAllBlocks_accounts]
    exact h.1 tap

theorem State.restartTrackers_lawful : Lawful s s.resetTrackers.advanceAllBlocks :=
  (Lawful.of_frame s.resetTrackers_frame.wider).trans (State.advanceAllBlocks_lawful _)

theorem State.requestReset_lawful : Lawful s s.requestReset := by
  have restarted := ((s.emptyOut_lawful .request).trans (State.setAgreement_lawful _
    (.cleared s.agreement.mode s.agreement.acceptMask s.agreement.fixedCode s.agreement.profile))).trans
      (State.restartTrackers_lawful _)
  unfold State.requestReset
  split
  · exact restarted.trans (State.enterListen_lawful _)
  · exact restarted.trans (State.enterAgreed_lawful _ _ _)

theorem State.releaseReset_eq : s.releaseReset =
    (((s.setTables (.default (mapVec (fun slot => slot.generation + 1) s.tables.taps))).setResetLine
      false).setAgreement (.cleared .negotiate 0xFF 0 0)).resetTrackers.advanceAllBlocks.enterListen := rfl

/-- The release brings the tables to their defaults and the line up; all else it does is lawful. -/
theorem State.releaseReset_lawful : ∃ x, Lawful ((s.setTables x).setResetLine false) s.releaseReset := by
  have started (m : State) : Lawful m m.resetTrackers.advanceAllBlocks.enterListen :=
    m.restartTrackers_lawful.trans (State.enterListen_lawful _)
  refine ⟨.default (mapVec (fun slot => slot.generation + 1) s.tables.taps), ?_⟩
  rw [s.releaseReset_eq]
  exact (State.setAgreement_lawful _ _).trans (started _)

/-! ## Links and transmissions -/

theorem Ports.Fits.finishA {p : Ports} (h : p.Fits) : p.finishA.Fits := by
  unfold Ports.finishA
  split
  · exact h
  · split
    · exact h
    · exact ⟨h.1, (List.length_tail ▸ Nat.sub_le ..).trans h.2.1, h.2.2⟩

theorem Ports.Fits.finishB {p : Ports} (h : p.Fits) : p.finishB.Fits := by
  unfold Ports.finishB
  split
  · exact h
  · split
    · exact h
    · exact ⟨h.1, h.2.1, (List.length_tail ▸ Nat.sub_le ..).trans h.2.2⟩
    · exact h
    · exact ⟨(List.length_tail ▸ Nat.sub_le ..).trans h.1, h.2⟩

theorem State.setWire_lawful (w : Wire) : Lawful s (s.setWire w) := .of_frame (s.setWire_frame w).wider

theorem State.endTransmissionA_lawful (e : Ending) : Lawful s (s.endTransmissionA e) :=
  .ite (.refl s) ((Lawful.trans (.setPorts s _ (·.finishA)) (State.setWire_lawful _ _)).trans (State.chooseA_lawful _))

theorem State.endTransmissionB_lawful (e : Ending) : Lawful s (s.endTransmissionB e) := by
  have finished := Lawful.trans (.setPorts s s.ports.finishB (·.finishB))
    (State.setWire_lawful _ (s.wire.ended .b s.ports.txB e))
  have chosen := finished.trans (State.chooseB_lawful _)
  exact .ite (.refl s)
    (.ite (.ite (finished.trans (State.requestReset_lawful _)) (chosen.trans (State.takeRequest_lawful _))) chosen)

theorem State.linkUp_lawful (p : Port) : Lawful s (s.linkUp p) := by
  cases p
  · exact .ite (.refl s) (.trans (.setPorts s _ (by exact id)) (State.chooseA_lawful _))
  · exact .ite (.refl s) (.trans (.setPorts s _ (by exact id)) (State.chooseB_lawful _))

theorem State.linkDown_lawful (p : Port) : Lawful s (s.linkDown p) := by
  cases p
  · exact .trans (.setPorts s _ (by exact id)) (State.endTransmissionA_lawful _ _)
  · exact .trans (.setPorts s _ (by exact id)) (State.endTransmissionB_lawful _ _)

/-! ## Requests that write no guarded table, constant or restore state -/

variable (r : Request)

theorem serveReadStatus_lawful : Lawful s (serveReadStatus s r) :=
  (s.setLatches_lawful _).trans (State.answer_lawful _ r _ _)

theorem serveWriteTap_lawful : Lawful s (serveWriteTap s r) := by
  unfold serveWriteTap
  split
  · exact s.refuse_lawful r _
  · exact .ite ((s.modTapSlot_lawful _ _).trans (State.answer_lawful _ r _ _))
      ((s.applyInactive_lawful _ _).trans (State.answer_lawful _ r _ _))

theorem serveReadTap_lawful : Lawful s (serveReadTap s r) := by
  unfold serveReadTap
  split
  · exact s.refuse_lawful r _
  · exact s.answer_lawful r _ _

theorem serveWriteTracker_lawful : Lawful s (serveWriteTracker s r) := by
  unfold serveWriteTracker
  split
  · exact s.refuse_lawful r _
  · exact .ite (s.refuse_lawful r _)
      (((s.modSettings_lawful _ _).trans (State.trackerTransition_lawful _ _ _)).trans (State.answer_lawful _ r _ _))

theorem serveHandoverStart_lawful : Lawful s (serveHandoverStart s r) := by
  unfold serveHandoverStart
  refine .ite (.refl s) (.ite ?_ (s.refuse_lawful r _))
  split
  · exact s.startHandover_lawful r _ _
  · exact s.refuse_lawful r _

theorem serveHandoverCancel_lawful : Lawful s (serveHandoverCancel s r) := by
  unfold serveHandoverCancel
  refine .ite ?_ (.refl s)
  split
  · exact s.refuse_lawful r _
  · split
    · exact s.refuse_lawful r _
    · exact (s.dropHandover_lawful _ _ _).trans (State.answer_lawful _ r _ _)

theorem serveSetTariff_lawful : Lawful s (serveSetTariff s r) := by
  unfold serveSetTariff
  split
  · exact s.refuse_lawful r _
  · exact (s.setFormer_lawful _).trans (State.answer_lawful _ r _ _)

theorem serveReadRegisters_lawful : Lawful s (serveReadRegisters s r) := by
  unfold serveReadRegisters
  split
  · exact s.refuse_lawful r _
  · exact s.answer_lawful r _ _

theorem serveReadRecord_lawful : Lawful s (serveReadRecord s r) := by
  unfold serveReadRecord
  split
  · exact s.refuse_lawful r _
  · exact s.answer_lawful r _ _

theorem serveReadSpectrum_lawful : Lawful s (serveReadSpectrum s r) := by
  unfold serveReadSpectrum
  split
  · exact s.refuse_lawful r _
  · split
    · exact s.refuse_lawful r _
    · exact s.answer_lawful r _ _

theorem serveSetAgreement_lawful : Lawful s (serveSetAgreement s r) := by
  unfold serveSetAgreement
  split
  · exact s.refuse_lawful r _
  · exact (s.setAgreementFields_lawful _ _ _).trans (State.answer_lawful _ r _ _)

theorem serveReset_lawful : Lawful s (serveReset s r) :=
  .trans (.setManagement s _ (by exact id)) (State.answer_lawful _ r _ _)

/-! ## Requests that write a table: all else they do is lawful -/

theorem serveWriteChannels_lawful :
    ∃ x, Lawful (s.setTables { s.tables with channels := x }) (serveWriteChannels s r) := by
  unfold serveWriteChannels
  split
  · exact ⟨_, s.refuse_lawful r _⟩
  · exact ⟨_, State.answer_lawful _ r _ _⟩

theorem serveWriteGroups_lawful :
    ∃ x, Lawful (s.setTables { s.tables with groups := x }) (serveWriteGroups s r) := by
  unfold serveWriteGroups
  split
  · exact ⟨_, s.refuse_lawful r _⟩
  · exact ⟨_, State.answer_lawful _ r _ _⟩

theorem serveSetStation_lawful :
    ∃ x, Lawful (s.setTables { s.tables with station := x }) (serveSetStation s r) := by
  unfold serveSetStation
  split
  · exact ⟨_, s.refuse_lawful r _⟩
  · exact ⟨_, State.answer_lawful _ r _ _⟩

theorem serveWriteCorrection_lawful :
    ∃ x, Lawful (s.setTables { s.tables with corrections := x }) (serveWriteCorrection s r) := by
  unfold serveWriteCorrection
  split
  · exact ⟨_, .refl s⟩
  · split
    · exact ⟨_, s.refuse_lawful r _⟩
    · split
      · exact ⟨_, State.answer_lawful _ r _ _⟩
      · exact ⟨_, .setEngine s _ (by exact id)⟩

theorem State.applyWaitingWindow_lawful :
    ∃ x, Lawful (s.setTables { s.tables with corrections := x }) s.applyWaitingWindow := by
  unfold State.applyWaitingWindow
  split
  · exact ⟨_, .refl s⟩
  · dsimp only
    split
    · exact ⟨_, .setEngine _ _ (by exact id)⟩
    · exact ⟨_, .trans (.setEngine _ _ (by exact id)) (State.answer_lawful _ _ _ _)⟩

/-- A completion writes the corrections of a waiting window, between two lawful parts. -/
theorem State.complete_lawful (j : Job) :
    ∃ m x, Lawful s m ∧ Lawful (m.setTables { m.tables with corrections := x }) (s.complete j) := by
  have recorded : Lawful s (s.setEngine (s.engine.record j (jobPhasors s.tables.corrections j))) :=
    .setEngine s _ (by rw [Engine.record_queue]; exact id)
  have accounted := recorded.trans (State.accountJob_lawful _ j.head j.cycle
    (spectrumOf j.head.snapshot.hMax (jobPhasors s.tables.corrections j)))
  obtain ⟨x, written⟩ := State.applyWaitingWindow_lawful
    ((s.setEngine (s.engine.record j (jobPhasors s.tables.corrections j))).accountJob j.head j.cycle
      (spectrumOf j.head.snapshot.hMax (jobPhasors s.tables.corrections j)))
  exact ⟨_, x, accounted, written.trans (State.takeJob_lawful _)⟩

/-! ## Requests that write a tap's accounts -/

theorem readConstant_bounds {b : Bytes} {tap : TapId} {k : Nat} (h : readConstant b = some (tap, k)) :
    1 ≤ k ∧ k ≤ 2 ^ 56 - 1 := by
  unfold readConstant at h
  split at h
  · cases h
  · split at h
    · next bounds =>
      cases h
      exact bounds
    · cases h

theorem TapAccount.setConstant_inRange (a : TapAccount) {k : Nat} (low : 1 ≤ k) (high : k ≤ 2 ^ 56 - 1) :
    (a.setConstant k).InRange :=
  ⟨low, high, fun i => by
    rw [TapAccount.setConstant, getElem_mapVec]
    exact Register.convert_inRange low _⟩

theorem TapAccount.Counted.setConstant {a : TapAccount} (h : a.Counted) (k : Nat) : (a.setConstant k).Counted := by
  refine ⟨(List.length_map _).trans_le h.1, fun x hx => ?_⟩
  obtain ⟨y, hy, rfl⟩ := List.mem_map.mp hx
  exact h.2 y hy

theorem TapAccount.restoreFrom_registers (a : TapAccount) (saved : List (Nat × Nat)) (i : Fin 48) :
    (a.restoreFrom saved).registers[i] =
      a.registers[i].restore (saved.getD i.val (0, 0)).1 (saved.getD i.val (0, 0)).2 := by
  rw [TapAccount.restoreFrom, getElem_ofFn_fin]

theorem TapAccount.restoreFrom_constant (a : TapAccount) (saved : List (Nat × Nat)) :
    (a.restoreFrom saved).constant = a.constant := by
  rw [TapAccount.restoreFrom]

theorem TapAccount.restoreFrom_accumulators (a : TapAccount) (saved : List (Nat × Nat)) :
    (a.restoreFrom saved).accumulators = a.accumulators := by
  rw [TapAccount.restoreFrom]

theorem TapAccount.InRange.restoreFrom {a : TapAccount} (h : a.InRange) (saved : List (Nat × Nat)) :
    (a.restoreFrom saved).InRange := by
  constructor
  · rw [TapAccount.restoreFrom_constant]
    exact h.low
  · rw [TapAccount.restoreFrom_constant]
    exact h.high
  · intro i
    rw [TapAccount.restoreFrom_registers, TapAccount.restoreFrom_constant]
    exact Register.restore_inRange (h.registers i) _ _

theorem TapAccount.Counted.restoreFrom {a : TapAccount} (h : a.Counted) (saved : List (Nat × Nat)) :
    (a.restoreFrom saved).Counted := by
  unfold TapAccount.Counted
  rw [TapAccount.restoreFrom_accumulators]
  exact h

theorem TapAccount.InRange.clearRegisters {a : TapAccount} (h : a.InRange) : a.clearRegisters.InRange :=
  ⟨h.low, h.high, fun i => by
    have zero : a.clearRegisters.registers[i] = ⟨0, 0, 0⟩ := by simp [TapAccount.clearRegisters]
    rw [zero]
    exact ⟨h.low, by decide, by decide⟩⟩

theorem serveSetConstant_lawful : Lawful s (serveSetConstant s r) ∨
    ∃ tap k, 1 ≤ k ∧ k ≤ 2 ^ 56 - 1 ∧ Lawful (s.modAccount tap fun t => t.setConstant k) (serveSetConstant s r) := by
  unfold serveSetConstant
  split
  · exact .inl (s.refuse_lawful r _)
  · next tap k read =>
    obtain ⟨low, high⟩ := readConstant_bounds read
    exact .inr ⟨tap, k, low, high, State.answer_lawful _ r _ _⟩

theorem serveRestore_lawful : Lawful s (serveRestore s r) ∨
    ∃ tap saved, s.accounts[tap].restore = .opened ∧
      Lawful (s.modAccount tap fun t => t.restoreFrom saved) (serveRestore s r) := by
  unfold serveRestore
  split
  · exact .inl (s.refuse_lawful r _)
  · next tap saved _ =>
    split
    · exact .inl (s.refuse_lawful r _)
    · next opened => exact .inr ⟨tap, saved, opened, State.answer_lawful _ r _ _⟩

theorem serveClear_lawful : Lawful s (serveClear s r) ∨
    ∃ tap, Lawful (s.modAccount tap TapAccount.clearRegisters) (serveClear s r) := by
  unfold serveClear
  split
  · exact .inl (s.refuse_lawful r _)
  · next tap _ =>
    split
    · exact .inl (s.refuse_lawful r _)
    · exact .inr ⟨tap, State.answer_lawful _ r _ _⟩

end Sys2Proof.Machine
end


section
/-! SUPPORT. The laws of the capacities, the registers and the blocks over every command and every step; and what few
commands change. -/

namespace Sys2Proof.Machine

set_option Elab.async false

open Sys2Proof

/-! ## The commands -/

/-- What holds where nothing is served, and after the serving of a request of the kind, holds after the request row. -/
theorem State.serve_of {P : State → Prop} {s : State} {k : RequestKind} {f : State → Request → State} (idle : P s)
    (served : ∀ r, Serving s k r → P (f s r)) : P (s.serve k f) := by
  obtain h | ⟨r, hr, h⟩ := s.serve_cases k f <;> rw [h]
  · exact idle
  · exact served r hr

variable (s : State)

theorem exec_offerTimerExpiry_cases :
    exec .offerTimerExpiry s = .next s ∨ ∃ a, exec .offerTimerExpiry s = .next (s.offerAgain a) := by
  unfold exec execOfferTimerExpiry
  dsimp only
  split
  · exact .inl rfl
  · split
    · exact .inr ⟨_, rfl⟩
    · exact .inr ⟨_, rfl⟩
    all_goals exact .inl rfl

theorem exec_handoverTimeout_cases (u : TrackerId) :
    exec (.handoverTimeout u) s = .next s ∨ ∃ h, s.trackers[u].handover = some h ∧
      exec (.handoverTimeout u) s = .next (s.advanceTimeout u h) := by
  unfold exec execHandoverTimeout
  dsimp only
  split
  · exact .inl rfl
  · next h pending =>
    split
    · exact .inr ⟨h, pending, rfl⟩
    · exact .inl rfl

theorem exec_jobCompletion_cases :
    exec .jobCompletion s = .next s ∨ ∃ j, exec .jobCompletion s = .next (s.complete j) := by
  unfold exec execJobCompletion
  dsimp only
  split
  · exact .inl rfl
  · split
    · exact .inl rfl
    · exact .inr ⟨_, rfl⟩

/-- The commands that write a table, a constant, a restore state or the reset line that no other command writes. -/
def writesGuarded : Instr → Bool
  | .powerOn _ _ | .pinReset | .pinResetRelease | .jobCompletion | .writeChannels | .writeGroups | .writeCorrection
  | .setStation | .setConstant | .restore | .clear => true
  | _ => false

/-- Every other command is lawful. -/
theorem exec_lawful {c : Instr} (h : writesGuarded c = false) : ∃ t, exec c s = .next t ∧ Lawful s t := by
  have serves {k : RequestKind} {f : State → Request → State} (served : ∀ s r, Lawful s (f s r)) :
      Lawful s (s.serve k f) := State.serve_of (.refl s) fun r _ => served s r
  cases c <;> simp [writesGuarded] at h
  case linkUp p => exact ⟨_, rfl, s.linkUp_lawful p⟩
  case linkDown p => exact ⟨_, rfl, s.linkDown_lawful p⟩
  case receptionEnd p f => exact ⟨_, rfl, s.receptionEnd_lawful p f⟩
  case transmissionEnd p =>
    cases p
    · exact ⟨_, rfl, s.endTransmissionA_lawful _⟩
    · exact ⟨_, rfl, s.endTransmissionB_lawful _⟩
  case offerTimerExpiry =>
    obtain e | ⟨a, e⟩ := exec_offerTimerExpiry_cases s
    · exact ⟨_, e, .refl s⟩
    · exact ⟨_, e, s.offerAgain_lawful a⟩
  case acknowledgeTimerExpiry => exact ⟨_, rfl, .ite s.enterListen_lawful (.refl s)⟩
  case pauseTimerExpiry => exact ⟨_, rfl, .ite s.enterListen_lawful (.refl s)⟩
  case silenceTimerExpiry => exact ⟨_, rfl, .ite s.silenceExpired_lawful (.refl s)⟩
  case noCrossing u => exact ⟨_, rfl, .ite ((s.modTracker_lawful u _).trans (State.lose_lawful _ u _)) (.refl s)⟩
  case handoverTimeout u =>
    obtain e | ⟨h, -, e⟩ := exec_handoverTimeout_cases s u
    · exact ⟨_, e, .refl s⟩
    · exact ⟨_, e, s.advanceTimeout_lawful u h⟩
  case holdoverLimit u => exact ⟨_, rfl, .ite (s.advanceHoldover_lawful u) (.refl s)⟩
  case engineTake => exact ⟨_, rfl, .ite (.refl s) s.takeJob_lawful⟩
  case readStatus => exact ⟨_, rfl, serves serveReadStatus_lawful⟩
  case writeTap => exact ⟨_, rfl, serves serveWriteTap_lawful⟩
  case readTap => exact ⟨_, rfl, serves serveReadTap_lawful⟩
  case writeTracker => exact ⟨_, rfl, serves serveWriteTracker_lawful⟩
  case handoverStart => exact ⟨_, rfl, serves serveHandoverStart_lawful⟩
  case handoverCancel => exact ⟨_, rfl, serves serveHandoverCancel_lawful⟩
  case setTariff => exact ⟨_, rfl, serves serveSetTariff_lawful⟩
  case readRegisters => exact ⟨_, rfl, serves serveReadRegisters_lawful⟩
  case readRecord => exact ⟨_, rfl, serves serveReadRecord_lawful⟩
  case readSpectrum => exact ⟨_, rfl, serves serveReadSpectrum_lawful⟩
  case setAgreement => exact ⟨_, rfl, serves serveSetAgreement_lawful⟩
  case reset => exact ⟨_, rfl, serves serveReset_lawful⟩

/-! ## The commands that write what few commands change: what they write, and that all else is lawful -/

theorem exec_pinReset_lawful : ∃ t b, exec .pinReset s = .next t ∧ Lawful (s.setResetLine b) t := by
  change ∃ t b, Host.Outcome.next (if s.resetLine then s else s.assertReset) = .next t ∧ _
  split
  · exact ⟨s, s.resetLine, rfl, .refl s⟩
  · exact ⟨s.assertReset, true, rfl, s.assertReset_lawful⟩

theorem exec_pinResetRelease_lawful :
    ∃ t x b, exec .pinResetRelease s = .next t ∧ Lawful ((s.setTables x).setResetLine b) t := by
  change ∃ t x b, Host.Outcome.next (if s.resetLine then s.releaseReset else s) = .next t ∧ _
  split
  · obtain ⟨x, lawful⟩ := s.releaseReset_lawful
    exact ⟨s.releaseReset, x, false, rfl, lawful⟩
  · exact ⟨s, s.tables, s.resetLine, rfl, .refl s⟩

theorem exec_writeChannels_lawful :
    ∃ t x, exec .writeChannels s = .next t ∧ Lawful (s.setTables { s.tables with channels := x }) t := by
  obtain ⟨x, h⟩ : ∃ x, Lawful (s.setTables { s.tables with channels := x })
      (s.serve .writeChannels serveWriteChannels) :=
    State.serve_of (P := fun t => ∃ x, Lawful (s.setTables { s.tables with channels := x }) t)
      ⟨s.tables.channels, .refl s⟩ fun r _ => serveWriteChannels_lawful s r
  exact ⟨_, x, rfl, h⟩

theorem exec_writeGroups_lawful :
    ∃ t x, exec .writeGroups s = .next t ∧ Lawful (s.setTables { s.tables with groups := x }) t := by
  obtain ⟨x, h⟩ : ∃ x, Lawful (s.setTables { s.tables with groups := x }) (s.serve .writeGroups serveWriteGroups) :=
    State.serve_of (P := fun t => ∃ x, Lawful (s.setTables { s.tables with groups := x }) t)
      ⟨s.tables.groups, .refl s⟩ fun r _ => serveWriteGroups_lawful s r
  exact ⟨_, x, rfl, h⟩

theorem exec_writeCorrection_lawful :
    ∃ t x, exec .writeCorrection s = .next t ∧ Lawful (s.setTables { s.tables with corrections := x }) t := by
  obtain ⟨x, h⟩ : ∃ x, Lawful (s.setTables { s.tables with corrections := x })
      (s.serve .writeCorrection serveWriteCorrection) :=
    State.serve_of (P := fun t => ∃ x, Lawful (s.setTables { s.tables with corrections := x }) t)
      ⟨s.tables.corrections, .refl s⟩ fun r _ => serveWriteCorrection_lawful s r
  exact ⟨_, x, rfl, h⟩

theorem exec_setStation_lawful :
    ∃ t x, exec .setStation s = .next t ∧ Lawful (s.setTables { s.tables with station := x }) t := by
  obtain ⟨x, h⟩ : ∃ x, Lawful (s.setTables { s.tables with station := x }) (s.serve .setStation serveSetStation) :=
    State.serve_of (P := fun t => ∃ x, Lawful (s.setTables { s.tables with station := x }) t)
      ⟨s.tables.station, .refl s⟩ fun r _ => serveSetStation_lawful s r
  exact ⟨_, x, rfl, h⟩

theorem exec_jobCompletion_lawful : ∃ t m x, exec .jobCompletion s = .next t ∧ Lawful s m ∧
    Lawful (m.setTables { m.tables with corrections := x }) t := by
  obtain e | ⟨j, e⟩ := exec_jobCompletion_cases s
  · exact ⟨s, s, s.tables.corrections, e, .refl s, .refl s⟩
  · obtain ⟨m, x, before, after⟩ := s.complete_lawful j
    exact ⟨_, m, x, e, before, after⟩

theorem exec_setConstant_lawful : ∃ t, exec .setConstant s = .next t ∧ (Lawful s t ∨
    ∃ tap k, 1 ≤ k ∧ k ≤ 2 ^ 56 - 1 ∧ Lawful (s.modAccount tap fun a => a.setConstant k) t) :=
  ⟨_, rfl, State.serve_of (P := fun t => Lawful s t ∨
    ∃ tap k, 1 ≤ k ∧ k ≤ 2 ^ 56 - 1 ∧ Lawful (s.modAccount tap fun a => a.setConstant k) t)
      (.inl (.refl s)) fun r _ => serveSetConstant_lawful s r⟩

theorem exec_restore_lawful : ∃ t, exec .restore s = .next t ∧ (Lawful s t ∨
    ∃ tap saved, s.accounts[tap].restore = .opened ∧ Lawful (s.modAccount tap fun a => a.restoreFrom saved) t) :=
  ⟨_, rfl, State.serve_of (P := fun t => Lawful s t ∨
    ∃ tap saved, s.accounts[tap].restore = .opened ∧ Lawful (s.modAccount tap fun a => a.restoreFrom saved) t)
      (.inl (.refl s)) fun r _ => serveRestore_lawful s r⟩

theorem exec_clear_lawful : ∃ t, exec .clear s = .next t ∧ (Lawful s t ∨
    ∃ tap, Lawful (s.modAccount tap TapAccount.clearRegisters) t) :=
  ⟨_, rfl, State.serve_of (P := fun t => Lawful s t ∨ ∃ tap, Lawful (s.modAccount tap TapAccount.clearRegisters) t)
      (.inl (.refl s)) fun r _ => serveClear_lawful s r⟩

/-! ## The three laws over every command -/

/-- From s to t the laws of the capacities, the registers and the blocks are kept, with the queue of commands. -/
structure LawsKept (s t : State) : Prop where
  pending : t.pending = s.pending
  capacity : s.WithinCapacity → t.WithinCapacity
  registers : s.RegistersInRange → t.RegistersInRange
  blocks : s.BlocksCounted → t.BlocksCounted

variable {s} {t u : State}

theorem Lawful.kept (h : Lawful s t) : LawsKept s t :=
  ⟨h.orderly.pending, h.orderly.capacity, fun r tap => (h.orderly.accounts tap).inRange (r tap), h.counted⟩

theorem LawsKept.trans (h : LawsKept s t) (g : LawsKept t u) : LawsKept s u :=
  ⟨g.pending.trans h.pending, g.capacity ∘ h.capacity, g.registers ∘ h.registers, g.blocks ∘ h.blocks⟩

theorem LawsKept.setTables (s : State) (x : Tables) : LawsKept s (s.setTables x) :=
  ⟨rfl, fun c => ⟨c.forward, c.relay, c.notices, c.requests, c.jobs, c.ring⟩, id,
    fun c => ⟨c.two, c.cycles, c.records⟩⟩

theorem LawsKept.setResetLine (s : State) (b : Bool) : LawsKept s (s.setResetLine b) :=
  ⟨rfl, fun c => ⟨c.forward, c.relay, c.notices, c.requests, c.jobs, c.ring⟩, id,
    fun c => ⟨c.two, c.cycles, c.records⟩⟩

/-- A change of one tap's accounts that keeps its registers in range and its accumulators counted. -/
theorem LawsKept.modAccount (s : State) {tap : TapId} {f : TapAccount → TapAccount}
    (inRange : s.accounts[tap].InRange → (f s.accounts[tap]).InRange)
    (counted : s.accounts[tap].Counted → (f s.accounts[tap]).Counted) : LawsKept s (s.modAccount tap f) := by
  refine ⟨rfl, fun c => ⟨c.forward, c.relay, c.notices, c.requests, c.jobs, c.ring⟩, fun r other => ?_,
    fun h => h.modAccount (counted (h.account tap))⟩
  rw [State.modAccount_accounts]
  split
  · next h => exact h ▸ inRange (r tap)
  · exact r other

/-! ## The three laws at power-on -/

section
variable (a : BitVec 6) (f : NominalFrequency)

theorem State.atPowerOn_accounts (tap : TapId) : (State.atPowerOn a f).accounts[tap] = .initial := by
  simp [State.atPowerOn]

theorem State.atPowerOn_withinCapacity : (State.atPowerOn a f).WithinCapacity :=
  ⟨Nat.zero_le _, Nat.zero_le _, Nat.zero_le _, Nat.zero_le _, Nat.zero_le _, Nat.zero_le _⟩

theorem TapAccount.initial_registers (i : Fin 48) : TapAccount.initial.registers[i] = ⟨0, 0, 0⟩ := by
  simp [TapAccount.initial]

theorem State.atPowerOn_registersInRange : (State.atPowerOn a f).RegistersInRange := by
  intro tap
  rw [State.atPowerOn_accounts]
  refine ⟨by decide, by decide, fun i => ?_⟩
  rw [TapAccount.initial_registers]
  exact ⟨by decide, by decide, by decide⟩

theorem State.atPowerOn_blocksCounted : (State.atPowerOn a f).BlocksCounted := by
  refine State.blocksCounted_iff.mpr ⟨fun tap => ?_, fun r hr => absurd hr List.not_mem_nil⟩
  rw [State.atPowerOn_accounts]
  exact ⟨Nat.zero_le _, fun _ h => absurd h List.not_mem_nil⟩

end

/-- The state at power-on keeps every law, whatever stood before. -/
theorem LawsKept.powerOn (s : State) (a : BitVec 6) (f : NominalFrequency) :
    LawsKept s (((State.atPowerOn a f).setChoices s.choices).setPending s.pending) := by
  refine ⟨rfl, fun _ => ?_, fun _ => State.atPowerOn_registersInRange a f, fun _ => ?_⟩
  · obtain ⟨forward, relay, notices, requests, jobs, ring⟩ := State.atPowerOn_withinCapacity a f
    exact ⟨forward, relay, notices, requests, jobs, ring⟩
  · obtain ⟨two, cycles, records⟩ := State.atPowerOn_blocksCounted a f
    exact ⟨two, cycles, records⟩

theorem exec_lawsKept (c : Instr) (s : State) : ∃ t, exec c s = .next t ∧ LawsKept s t := by
  cases hw : writesGuarded c with
  | false =>
    obtain ⟨t, ht, h⟩ := exec_lawful s hw
    exact ⟨t, ht, h.kept⟩
  | true =>
    cases c <;> simp [writesGuarded] at hw
    case powerOn a f => exact ⟨_, rfl, .powerOn s a f⟩
    case pinReset =>
      obtain ⟨t, b, ht, h⟩ := exec_pinReset_lawful s
      exact ⟨t, ht, (LawsKept.setResetLine s b).trans h.kept⟩
    case pinResetRelease =>
      obtain ⟨t, x, b, ht, h⟩ := exec_pinResetRelease_lawful s
      exact ⟨t, ht, ((LawsKept.setTables s x).trans (.setResetLine _ b)).trans h.kept⟩
    case jobCompletion =>
      obtain ⟨t, m, x, ht, before, after⟩ := exec_jobCompletion_lawful s
      exact ⟨t, ht, (before.kept.trans (.setTables m _)).trans after.kept⟩
    case writeChannels =>
      obtain ⟨t, x, ht, h⟩ := exec_writeChannels_lawful s
      exact ⟨t, ht, (LawsKept.setTables s _).trans h.kept⟩
    case writeGroups =>
      obtain ⟨t, x, ht, h⟩ := exec_writeGroups_lawful s
      exact ⟨t, ht, (LawsKept.setTables s _).trans h.kept⟩
    case writeCorrection =>
      obtain ⟨t, x, ht, h⟩ := exec_writeCorrection_lawful s
      exact ⟨t, ht, (LawsKept.setTables s _).trans h.kept⟩
    case setStation =>
      obtain ⟨t, x, ht, h⟩ := exec_setStation_lawful s
      exact ⟨t, ht, (LawsKept.setTables s _).trans h.kept⟩
    case setConstant =>
      obtain ⟨t, ht, h | ⟨tap, k, low, high, h⟩⟩ := exec_setConstant_lawful s
      · exact ⟨t, ht, h.kept⟩
      · refine ⟨t, ht, (LawsKept.modAccount s (fun _ => ?_) fun counted => ?_).trans h.kept⟩
        · exact TapAccount.setConstant_inRange _ low high
        · exact counted.setConstant k
    case restore =>
      obtain ⟨t, ht, h | ⟨tap, saved, -, h⟩⟩ := exec_restore_lawful s
      · exact ⟨t, ht, h.kept⟩
      · exact ⟨t, ht, (LawsKept.modAccount s (·.restoreFrom saved) (·.restoreFrom saved)).trans h.kept⟩
    case clear =>
      obtain ⟨t, ht, h | ⟨tap, h⟩⟩ := exec_clear_lawful s
      · exact ⟨t, ht, h.kept⟩
      · exact ⟨t, ht, (LawsKept.modAccount s (·.clearRegisters) (fun counted => counted)).trans h.kept⟩

/-- What every command keeps of every state, every step keeps, where the queue of commands has no part in it. -/
theorem step_keeps {P : State → Prop} (queue : ∀ s l, P s → P (s.setPending l))
    (kept : ∀ c s t, exec c s = .next t → P s → P t) {s t : State} (holds : P s) (h : step s = .next t) : P t := by
  unfold step at h
  split at h
  · cases h
    exact holds
  · exact kept _ _ _ h (queue _ _ holds)

theorem LawsKept.of_exec {c : Instr} (h : exec c s = .next t) : LawsKept s t := by
  obtain ⟨t', ht', kept⟩ := exec_lawsKept c s
  cases ht'.symm.trans h
  exact kept

/-- Settles O16: every command keeps the capacities, by the operations that it is composed of. -/
theorem queuesKeepTheirCapacity : Obligations.QueuesKeepTheirCapacity := by
  intro s t holds h
  refine step_keeps (P := State.WithinCapacity) (fun s l c => ?_) (fun c s t h => (LawsKept.of_exec h).capacity) holds h
  exact ⟨c.forward, c.relay, c.notices, c.requests, c.jobs, c.ring⟩

/-- Settles O50: every command keeps the registers in range; a new K converts them, and all else adds to them. -/
theorem registersStayInRange : Obligations.RegistersStayInRange := by
  intro s t holds h
  exact step_keeps (P := State.RegistersInRange) (fun _ _ r => r) (fun c s t h => (LawsKept.of_exec h).registers) holds h

/-- Settles O51: every command keeps the accumulators and the stored records counted. -/
theorem blocksStayCounted : Obligations.BlocksStayCounted := by
  intro s t holds h
  refine step_keeps (P := State.BlocksCounted) (fun s l c => ?_) (fun c s t h => (LawsKept.of_exec h).blocks) holds h
  exact ⟨c.two, c.cycles, c.records⟩

/-- Settles O2. -/
theorem commandsKeepTheQueue : Obligations.CommandsKeepTheQueue := by
  intro c s
  obtain ⟨t, ht, kept⟩ := exec_lawsKept c s
  exact ⟨t, ht, kept.pending⟩

end Sys2Proof.Machine
end


section
/-! SUPPORT. What keeps the trackers sound (R69, R82) and their resamplers placed (R91): per tracker, the periods in the
band and the resampler that fits it; which changes keep both (`Tracked`); and the operations of the trackers, none of
which starts or stops a tracker (`Guided`). -/

namespace Sys2Proof.Machine

set_option Elab.async false

open Sys2Proof

/-! ## The laws of one tracker -/

/-- Within 7/8 and 9/8 of a nominal period (R69). -/
def PeriodFits (lnom period : Nat) : Prop := 7 * lnom ≤ 8 * period ∧ 8 * period ≤ 9 * lnom

/-- The law of R69 and R82 for one tracker. -/
structure Tracker.Sound (lnom : Nat) (k : Tracker) : Prop where
  lfix : k.state ≠ .idle → PeriodFits lnom k.lfix
  shadow : ∀ h, k.handover = some h → PeriodFits lnom h.ls
  none : k.state.isRunning = false → k.handover = none

/-- The law of R91 for the resampler, if any, of one tracker, running or not. -/
structure ResamplerFits (lnom : Nat) (running : Bool) (o : Option Resampler) : Prop where
  present : o.isSome = running
  placed : ∀ r, o = some r → r.Placed
  period : ∀ r, o = some r → PeriodFits lnom r.period

/-- The law of R91 for tracker u of the part. -/
def State.ResamplerSound (s : State) (u : TrackerId) : Prop :=
  ResamplerFits s.lnom s.trackers[u].state.isRunning s.former.trackers[u].resampler

variable {s t m : State} {lnom : Nat}

theorem periodFits_self (lnom : Nat) : PeriodFits lnom lnom := by
  unfold PeriodFits
  omega

theorem State.trackersSound_iff : s.TrackersSound ↔ ∀ u : TrackerId, s.trackers[u].Sound s.lnom := by
  have reads (u : TrackerId) : s.InBand (s.lfix u) ↔ (s.trackers[u].state ≠ .idle → PeriodFits s.lnom s.trackers[u].lfix) := by
    unfold State.lfix
    split
    · next idle => exact ⟨fun _ h => absurd idle h, fun _ => periodFits_self s.lnom⟩
    · next h => exact ⟨fun fits _ => fits, fun fits => fits h⟩
  exact ⟨fun h u => ⟨(reads u).mp (h.lfix u), h.shadow u, h.none u⟩,
    fun h => ⟨fun u => (reads u).mpr (h u).lfix, fun u => (h u).shadow, fun u => (h u).none⟩⟩

theorem State.resamplersSound_iff : s.ResamplersSound ↔ ∀ u : TrackerId, s.ResamplerSound u :=
  ⟨fun h u => ⟨h.running u, h.placed u, h.period u⟩,
    fun h => ⟨fun u => (h u).present, fun u => (h u).placed, fun u => (h u).period⟩⟩

/-! ## Changes that keep the laws -/

/-- From s to t each tracker stays sound, and its resampler with it. -/
structure Tracked (s t : State) : Prop where
  sound : ∀ u : TrackerId, s.trackers[u].Sound s.lnom → t.trackers[u].Sound t.lnom
  resampler : ∀ u : TrackerId, s.trackers[u].Sound s.lnom → s.ResamplerSound u → t.ResamplerSound u

/-- From s to t each tracker stays sound under the same nominal period, running or not as before, and no resampler
changes. -/
structure Guided (s t : State) : Prop where
  lnom : t.lnom = s.lnom
  sound : ∀ u : TrackerId, s.trackers[u].Sound s.lnom → t.trackers[u].Sound s.lnom
  running : ∀ u : TrackerId, s.trackers[u].Sound s.lnom →
    t.trackers[u].state.isRunning = s.trackers[u].state.isRunning
  resampler : ∀ u : TrackerId, t.former.trackers[u].resampler = s.former.trackers[u].resampler

theorem Tracked.refl (s : State) : Tracked s s := ⟨fun _ => id, fun _ _ => id⟩

theorem Tracked.trans {u : State} (h : Tracked s t) (g : Tracked t u) : Tracked s u :=
  ⟨fun v => g.sound v ∘ h.sound v, fun v sound => g.resampler v (h.sound v sound) ∘ h.resampler v sound⟩

theorem Tracked.ite {p : Prop} [Decidable p] (ht : Tracked s t) (hu : Tracked s m) : Tracked s (if p then t else m) := by
  split <;> assumption

theorem Tracked.foldl {α : Type} {f : State → α → State} (h : ∀ s x, Tracked s (f s x)) :
    ∀ (l : List α) (s : State), Tracked s (l.foldl f s)
  | [], s => .refl s
  | x :: l, s => (h s x).trans (Tracked.foldl h l (f s x))

theorem Guided.refl (s : State) : Guided s s := ⟨rfl, fun _ => id, fun _ _ => rfl, fun _ => rfl⟩

theorem Guided.trans {u : State} (h : Guided s t) (g : Guided t u) : Guided s u :=
  ⟨g.lnom.trans h.lnom, fun v sound => h.lnom ▸ g.sound v (h.lnom.symm ▸ h.sound v sound),
    fun v sound => (g.running v (h.lnom.symm ▸ h.sound v sound)).trans (h.running v sound),
    fun v => (g.resampler v).trans (h.resampler v)⟩

theorem Guided.ite {p : Prop} [Decidable p] (ht : Guided s t) (hu : Guided s m) : Guided s (if p then t else m) := by
  split <;> assumption

theorem Guided.foldl {α : Type} {f : State → α → State} (h : ∀ s x, Guided s (f s x)) :
    ∀ (l : List α) (s : State), Guided s (l.foldl f s)
  | [], s => .refl s
  | x :: l, s => (h s x).trans (Guided.foldl h l (f s x))

theorem Guided.tracked (h : Guided s t) : Tracked s t := by
  refine ⟨fun u sound => ?_, fun u sound fits => ?_⟩
  · rw [h.lnom]
    exact h.sound u sound
  · unfold State.ResamplerSound
    rw [h.lnom, h.running u sound, h.resampler u]
    exact fits

/-- The blocks that are neither the trackers nor the resamplers nor settle the nominal period. -/
abbrev unguidedBlocks : List Block :=
  [.resetLine, .ports, .wire, .latches, .tables, .intake, .engine, .accounts, .records, .management, .choices, .pending]

theorem Guided.of_frame (h : SameOutside unguidedBlocks s t) : Guided s t := by
  have straps : t.straps = s.straps := h.get .straps
  have agreement : t.agreement = s.agreement := h.get .agreement
  have trackers : t.trackers = s.trackers := h.get .trackers
  have former : t.former = s.former := h.get .former
  refine ⟨by unfold State.lnom; rw [straps, agreement], fun u => ?_, fun u _ => ?_, fun u => ?_⟩
  · rw [trackers]
    exact id
  · rw [trackers]
  · rw [former]

/-- A change of the cycle former that keeps its resamplers. -/
theorem Guided.setFormer (s : State) (x : Former)
    (resampler : ∀ u : TrackerId, x.trackers[u].resampler = s.former.trackers[u].resampler) : Guided s (s.setFormer x) :=
  ⟨rfl, fun _ => id, fun _ _ => rfl, resampler⟩

theorem Guided.mapFormerTaps (s : State) (f : TapId → FormerTap → FormerTap) : Guided s (s.mapFormerTaps f) :=
  .setFormer s _ fun _ => rfl

theorem Guided.modFormerTap (s : State) (tap : TapId) (f : FormerTap → FormerTap) : Guided s (s.modFormerTap tap f) :=
  .setFormer s _ fun _ => rfl

theorem State.modFormerTracker_trackers (s : State) (u v : TrackerId) (f : FormerTracker → FormerTracker) :
    (s.modFormerTracker u f).former.trackers[v] =
      if u = v then f s.former.trackers[v] else s.former.trackers[v] := getElem_modAt ..

theorem State.modTracker_trackers (s : State) (u v : TrackerId) (f : Tracker → Tracker) :
    (s.modTracker u f).trackers[v] = if u = v then f s.trackers[v] else s.trackers[v] := getElem_modAt ..

/-- A change of a tracker's part of the cycle former that keeps its resampler. -/
theorem Guided.modFormerTracker (s : State) {u : TrackerId} {f : FormerTracker → FormerTracker}
    (kept : ∀ x, (f x).resampler = x.resampler) : Guided s (s.modFormerTracker u f) := by
  refine .setFormer s _ fun v => ?_
  rw [getElem_modAt]
  split
  · exact kept _
  · rfl

/-- The agreement unit may change but for the profile in force. -/
theorem Guided.setAgreement (s : State) (x : Agreement) (profile : x.profile = s.agreement.profile) :
    Guided s (s.setAgreement x) :=
  ⟨congrArg (nominalPeriod s.straps.frequency) profile, fun _ => id, fun _ _ => rfl, fun _ => rfl⟩

/-- A tracker may change where it stays sound, and running or not as before. -/
theorem Guided.modTracker (s : State) {u : TrackerId} {f : Tracker → Tracker}
    (sound : s.trackers[u].Sound s.lnom → (f s.trackers[u]).Sound s.lnom)
    (running : s.trackers[u].Sound s.lnom → (f s.trackers[u]).state.isRunning = s.trackers[u].state.isRunning) :
    Guided s (s.modTracker u f) := by
  refine ⟨rfl, fun v h => ?_, fun v h => ?_, fun _ => rfl⟩ <;> rw [State.modTracker_trackers] <;> split
  · next e => exact e ▸ sound (e ▸ h)
  · exact h
  · next e => exact e ▸ running (e ▸ h)
  · rfl

/-- Fields of a tracker that no law is about. -/
theorem Guided.modTracker_of_eq (s : State) {u : TrackerId} {f : Tracker → Tracker}
    (state : (f s.trackers[u]).state = s.trackers[u].state) (lfix : (f s.trackers[u]).lfix = s.trackers[u].lfix)
    (handover : (f s.trackers[u]).handover = s.trackers[u].handover) : Guided s (s.modTracker u f) := by
  refine .modTracker s (fun h => ⟨?_, ?_, ?_⟩) fun _ => by rw [state]
  · rw [state, lfix]
    exact h.lfix
  · rw [handover]
    exact h.shadow
  · rw [state, handover]
    exact h.none

/-- A running tracker keeps running, with its period and shadow in the band. -/
theorem Tracker.Sound.stayRunning {x : Tracker} (running : x.state.isRunning = true) (lfix : PeriodFits lnom x.lfix)
    (shadow : ∀ h, x.handover = some h → PeriodFits lnom h.ls) : x.Sound lnom :=
  ⟨fun _ => lfix, shadow, fun h => absurd (running.symm.trans h) (by decide)⟩

theorem TrackerState.ne_idle_of_running {x : TrackerState} (h : x.isRunning = true) : x ≠ .idle := by
  rintro rfl
  exact absurd h (by decide)

/-- A change of a running tracker. -/
theorem Guided.modRunning (s : State) {u : TrackerId} {f : Tracker → Tracker} (before : s.trackers[u].state.isRunning = true)
    (after : (f s.trackers[u]).state.isRunning = true)
    (lfix : PeriodFits s.lnom s.trackers[u].lfix → PeriodFits s.lnom (f s.trackers[u]).lfix)
    (shadow : s.trackers[u].Sound s.lnom → ∀ h, (f s.trackers[u]).handover = some h → PeriodFits s.lnom h.ls) :
    Guided s (s.modTracker u f) :=
  .modTracker s
    (fun h => .stayRunning after (lfix (h.lfix (TrackerState.ne_idle_of_running before))) (shadow h))
    fun _ => after.trans before.symm

/-! ## The trackers' operations -/

theorem TrackerState.isRunning_of_onBus {x : TrackerState} (h : x.onBus = true) : x.isRunning = true := by
  cases x with
  | acquiring => rfl
  | locked => rfl
  | holdover => rfl
  | freerun => rfl
  | idle => exact absurd h Bool.false_ne_true
  | following => exact absurd h Bool.false_ne_true

theorem periodFits_filterPeriod (lnom period m : Nat) : PeriodFits lnom (filterPeriod lnom period m) := by
  have low : bandLow lnom ≤ lnom := by
    unfold bandLow
    omega
  have high : lnom ≤ bandHigh lnom := by
    unfold bandHigh
    omega
  have band : (bandLow lnom : Int) ≤ bandHigh lnom := Int.ofNat_le.mpr (low.trans high)
  have bounds := clampInt_bounds band ((period : Int) + ((m : Int) - period).tdiv 8)
  unfold PeriodFits filterPeriod
  generalize clampInt _ _ _ = z at bounds ⊢
  unfold bandLow bandHigh at bounds
  omega

variable (s)

theorem State.trackerNotice_guided (u : TrackerId) (p : TrackerState) (c : TrackerCause) :
    Guided s (s.trackerNotice u p c) := .of_frame (s.trackerNotice_frame u p c).wider

theorem State.handoverNotice_guided (u : TrackerId) (o : HandoverOutcome) (c : Channel) (h : Handover) :
    Guided s (s.handoverNotice u o c h) := .of_frame (s.handoverNotice_frame u o c h).wider

variable {s} in
theorem State.lose_guided {u : TrackerId} (running : s.trackers[u].state.isRunning = true) (c : TrackerCause) :
    Guided s (s.lose u c) :=
  (Guided.modRunning s running rfl id fun h => h.shadow).trans (State.trackerNotice_guided _ _ _ _)

theorem State.acceptCrossing_guided (u : TrackerId) (n : Nat) : Guided s (s.acceptCrossing u n) := by
  unfold State.acceptCrossing
  dsimp only
  split
  · next acquiring =>
    have running : s.trackers[u].state.isRunning = true := by rw [acquiring]; rfl
    have accepted : Guided s (s.modTracker u fun k =>
        { k with
          rejections := 0
          detector := { k.detector with lockCount := nextLockCount k.detector.lockCount k.lfix n }
          lfix := filterPeriod s.lnom k.lfix n }) :=
      .modRunning s running running (fun _ => periodFits_filterPeriod ..) fun h => h.shadow
    refine .ite ?_ accepted
    refine (accepted.trans (.modRunning _ ?_ rfl id fun h => h.shadow)).trans (State.trackerNotice_guided _ _ _ _)
    rw [State.modTracker_trackers, if_pos rfl]
    exact running
  · next locked =>
    have running : s.trackers[u].state.isRunning = true := by rw [locked]; rfl
    exact .modRunning s running running (fun _ => periodFits_filterPeriod ..) fun h => h.shadow
  all_goals
    first
    | exact .refl s
    | next off =>
      have running : s.trackers[u].state.isRunning = true := by rw [off]; rfl
      exact (Guided.modRunning s running rfl id fun h => h.shadow).trans (State.trackerNotice_guided _ _ _ _)

theorem State.rejectCrossing_guided (u : TrackerId) : Guided s (s.rejectCrossing u) := by
  unfold State.rejectCrossing
  dsimp only
  split
  · next onBus =>
    have counted : Guided s (s.modTracker u fun k => { k with rejections := satAdd 3 k.rejections 1 }) :=
      .modTracker_of_eq s rfl rfl rfl
    refine .ite (counted.trans (State.lose_guided ?_ _)) counted
    rw [State.modTracker_trackers, if_pos rfl]
    exact TrackerState.isRunning_of_onBus onBus
  · exact .refl s

theorem State.checkAge_guided (u : TrackerId) : Guided s (s.checkAge u) := by
  unfold State.checkAge
  split
  · next due =>
    rw [Bool.and_eq_true] at due
    exact State.lose_guided (TrackerState.isRunning_of_onBus due.1) _
  · exact .refl s

theorem State.examineMain_guided (u : TrackerId) (start : Bool) (x : Int) : Guided s (s.examineMain u start x) := by
  unfold State.examineMain
  dsimp only
  refine .trans ?_ (State.checkAge_guided _ u)
  have moved (c : Crossing) : Guided s (s.modTracker u fun k => { k with detector := k.detector.after x c }) :=
    .modTracker_of_eq s rfl rfl rfl
  split
  · exact (moved _).trans (State.acceptCrossing_guided _ u _)
  · exact (moved _).trans (State.rejectCrossing_guided _ u)
  all_goals exact moved _

/-- The shadow period stays in the band: the filter clamps it. -/
theorem Handover.examine_ls {h : Handover} (fits : PeriodFits lnom h.ls) (start : Bool) (n : BitVec 32) (x : Int) :
    PeriodFits lnom (h.examine lnom start n x).ls := by
  unfold Handover.examine
  dsimp only
  split
  · exact periodFits_filterPeriod ..
  · exact fits

/-- A change of the pending handover alone, if there is one, that keeps its shadow period in the band. -/
theorem Guided.mapHandover (s : State) {u : TrackerId} {g : Handover → Handover}
    (shadow : ∀ h, PeriodFits s.lnom h.ls → PeriodFits s.lnom (g h).ls) :
    Guided s (s.modTracker u fun k => { k with handover := k.handover.map g }) := by
  refine .modTracker s (fun h => ⟨h.lfix, fun x hx => ?_, fun idle => ?_⟩) fun _ => rfl
  · obtain ⟨y, hy, rfl⟩ := Option.map_eq_some_iff.mp hx
    exact shadow y (h.shadow y hy)
  · exact Option.map_eq_none_iff.mpr (h.none idle)

theorem State.examine_guided (u : TrackerId) (start : Bool) (v : ChannelValues) : Guided s (s.examine u start v) :=
  (s.examineMain_guided u start _).trans (.mapHandover _ fun _ fits => Handover.examine_ls fits _ _ _)

/-- A tracker after the sum of a half-cycle is checked (R70). -/
def Tracker.halfChecked (dip : Bool) (k : Tracker) : Tracker :=
  { k with
    halfSum := 0
    marks := if dip then { k.marks with dip := true } else k.marks
    dipCount := nextDipCount k.state k.dipCount dip }

theorem State.dipCheck_eq (u : TrackerId) :
    let m := s.modTracker u (.halfChecked (isDip s.tables.settings[u].dipThreshold s.trackers[u].halfSum))
    s.dipCheck u = if m.trackers[u].state.onBus && decide (m.trackers[u].dipCount = 2) then m.lose u .dips else m := rfl

theorem State.dipCheck_guided (u : TrackerId) : Guided s (s.dipCheck u) := by
  rw [State.dipCheck_eq]
  have checked (dip : Bool) : Guided s (s.modTracker u (.halfChecked dip)) := .modTracker_of_eq s rfl rfl rfl
  split
  · next due =>
    rw [Bool.and_eq_true] at due
    exact (checked _).trans (State.lose_guided (TrackerState.isRunning_of_onBus due.1) _)
  · exact checked _

theorem State.dropHandover_guided (u : TrackerId) (o : HandoverOutcome) (h : Handover) :
    Guided s (s.dropHandover u o h) := by
  refine .trans (.modTracker s (fun k => ⟨k.lfix, fun _ h => ?_, fun _ => rfl⟩) fun _ => rfl)
    (State.handoverNotice_guided _ _ _ _ _)
  exact absurd h (by simp)

section
variable {s} {u : TrackerId} {h : Handover} (pending : s.trackers[u].handover = some h)
include pending

/-- A pending handover stands on a running tracker. -/
theorem Tracker.Sound.running_of_pending (sound : s.trackers[u].Sound s.lnom) : s.trackers[u].state.isRunning = true := by
  by_contra stopped
  rw [Bool.not_eq_true] at stopped
  rw [sound.none stopped] at pending
  exact absurd pending (by simp)

theorem State.commit_guided : Guided s (s.commit u h) := by
  unfold State.commit
  dsimp only
  have committed : Guided s ((s.modSettings u fun x => { x with reference := h.channel }).modTracker u fun k => k.commit h) := by
    refine .trans (.of_frame (s.modSettings_frame u _).wider) (.modTracker _ (fun sound => ?_) fun sound => ?_)
    · refine .stayRunning rfl (sound.shadow h pending) fun _ h => ?_
      exact absurd h (by simp [Tracker.commit])
    · exact (sound.running_of_pending (s := s) pending).symm
  have noticed := committed.trans (State.handoverNotice_guided _ u .committed s.tables.settings[u].reference h)
  exact .ite noticed (noticed.trans (State.trackerNotice_guided _ _ _ _))

theorem State.advanceTimeout_guided : Guided s (s.advanceTimeout u h) := by
  refine .ite (s.dropHandover_guided u _ _) (.modTracker s (fun sound => ⟨sound.lfix, fun x hx => ?_, fun idle => ?_⟩) fun _ => rfl)
  · cases hx
    exact sound.shadow h pending
  · rw [sound.none idle] at pending
    exact absurd pending (by simp)

end

theorem State.handoverStep_guided (u : TrackerId) : Guided s (s.handoverStep u) := by
  unfold State.handoverStep
  split
  · exact .refl s
  · next h pending => exact .ite (State.commit_guided pending) (State.advanceTimeout_guided pending)

variable {s} in
theorem State.advanceHoldover_guided {u : TrackerId} (holdover : s.trackers[u].state = .holdover) :
    Guided s (s.advanceHoldover u) := by
  have running : s.trackers[u].state.isRunning = true := by rw [holdover]; rfl
  refine .ite ?_ (.modTracker_of_eq s rfl rfl rfl)
  exact (Guided.modRunning s running rfl (fun _ => periodFits_self s.lnom) fun h => h.shadow).trans
    (State.trackerNotice_guided _ _ _ _)

theorem State.trackerWork_guided (u : TrackerId) : Guided s (s.trackerWork u).1 := by
  unfold State.trackerWork
  dsimp only
  refine .trans ?_ (.modTracker_of_eq _ rfl rfl rfl)
  have stepped := (s.dipCheck_guided u).trans (State.handoverStep_guided _ u)
  split
  · next due =>
    rw [Bool.and_eq_true, decide_eq_true_iff] at due
    exact stepped.trans (State.advanceHoldover_guided due.1)
  · exact stepped

end Sys2Proof.Machine
end


section
/-! SUPPORT. The cycle former, whose steps keep the resamplers until a cycle end or a start sets one; the resampler's step
(R92, R93), which keeps it placed; and the starts, stops and breaks of trackers. -/

namespace Sys2Proof.Machine

set_option Elab.async false

open Sys2Proof

variable (s : State)

/-! ## Operations of the cycle former that set no resampler -/

theorem State.cycleStart_guided (u : TrackerId) : Guided s (s.cycleStart u) := .mapFormerTaps s _

theorem State.abandonCycle_guided (u : TrackerId) (n : Resampler → Nat) (w : TapId → Bool) :
    Guided s (s.abandonCycle u n w) := by
  unfold State.abandonCycle
  split
  · exact .refl s
  · exact .mapFormerTaps s _

theorem State.removeTariff_guided : Guided s s.removeTariff := by
  unfold State.removeTariff
  split
  · exact .refl s
  · exact .ite (.setFormer s _ fun _ => rfl) (.refl s)

theorem State.tariffStep_guided (u : TrackerId) : Guided s (s.tariffStep u) := by
  unfold State.tariffStep
  refine .ite (.modFormerTracker s fun _ => rfl) ?_
  split
  · exact .refl s
  · refine .ite (.trans (.trans (.modFormerTracker s fun _ => ?_) (.setFormer _ _ fun _ => ?_))
      (State.removeTariff_guided _)) (.refl s)
    all_goals rfl

theorem State.applyEntry_guided (tap : TapId) (e : TapEntry) : Guided s (s.applyEntry tap e) :=
  .of_frame (s.applyEntry_frame tap e).wider

theorem State.applyInactive_guided (tap : TapId) (e : TapEntry) : Guided s (s.applyInactive tap e) :=
  (s.applyEntry_guided tap e).trans (.modFormerTap _ _ _)

theorem State.applyStaged_guided (tap : TapId) : Guided s (s.applyStaged tap) := by
  unfold State.applyStaged
  split
  · exact .refl s
  · split
    · exact s.applyInactive_guided tap _
    all_goals exact (s.applyEntry_guided tap _).trans (.modFormerTap _ _ _)

theorem State.applyAllStaged_guided (u : TrackerId) : Guided s (s.applyAllStaged u) :=
  Guided.foldl (fun s' tap => .ite (s'.applyStaged_guided tap) (.refl s')) _ s

theorem State.register_guided (x : Entry) : Guided s (s.register x) := .of_frame (s.register_frame x).wider

theorem State.buildEntry_guided (c : EndedCycle) (tap : TapId) (f : FormerTap) (config stale : Bool) :
    Guided s (s.buildEntry c tap f config stale) := by
  unfold State.buildEntry
  dsimp only
  have taken : Guided s (s.takeUnaccounted tap) := .modFormerTap s _ _
  split
  · exact (taken.trans (.of_frame (State.appendJob_frame _ _ stale).wider)).trans (State.register_guided _ _)
  · split <;> exact taken.trans (State.register_guided _ _)

theorem State.closeEntry_guided (u : TrackerId) (tariff : Tariff) (tap : TapId) (x : Snapshot) :
    Guided s (s.closeEntry u tariff tap x) :=
  (Guided.modFormerTap s _ _).trans (State.register_guided _ _)

theorem State.advanceBlock_guided (tap : TapId) : Guided s (s.advanceBlock tap) :=
  .of_frame (s.advanceBlock_frame tap).wider

theorem State.entryOf_guided (b : State) (c : EndedCycle) (tap : TapId) : Guided s (s.entryOf b c tap) := by
  unfold State.entryOf
  refine .ite ?_ (.refl s)
  split
  · exact s.buildEntry_guided c tap _ _ _
  · exact .ite (s.closeEntry_guided _ _ _ _) (.refl s)
  · exact .refl s

theorem State.buildEntries_guided (b : State) (c : EndedCycle) : Guided s (s.buildEntries b c) :=
  (Guided.foldl (fun s' tap => s'.entryOf_guided b c tap) _ s).trans
    (Guided.foldl (fun s' tap => .ite (s'.advanceBlock_guided tap) (.refl s')) _ _)

theorem State.formerPart_guided (length period : Nat) (filled : Bool) (m : Marks) (u : TrackerId) :
    Guided s (s.formerPart length period filled m u) := by
  unfold State.formerPart
  dsimp only
  refine .trans (.trans ?_ (State.applyAllStaged_guided _ u)) (State.buildEntries_guided _ _ _)
  have indexed (b : BlockSettings) : Guided s (s.modFormerTracker u fun f => f.indexStep b) :=
    .modFormerTracker s fun _ => rfl
  exact .ite ((indexed _).trans (State.tariffStep_guided _ u)) (indexed _)

theorem State.producePoint_guided (t : TrackerId) (p v : ChannelValues) (num inc : Nat) (i : Fin 128) :
    Guided s (s.producePoint t p v num inc i) := by
  unfold State.producePoint
  dsimp only
  have produced (g : TapId → FormerTap → FormerTap) (n : Nat) :
      Guided s ((s.mapFormerTaps g).modTracker t fun k => { k with halfSum := k.halfSum + n }) :=
    (Guided.mapFormerTaps s g).trans (.modTracker_of_eq _ rfl rfl rfl)
  exact .ite ((produced _ _).trans (State.dipCheck_guided _ t)) (produced _ _)

theorem State.producePoints_guided (t : TrackerId) (p v : ChannelValues) (r : Resampler) (fuel : Nat) :
    ∀ (s : State) (i : Nat), Guided s (s.producePoints t p v r fuel i).1 := by
  induction fuel with
  | zero => intro s i; exact .refl s
  | succ n ih =>
    intro s i
    unfold State.producePoints
    split
    · split
      · exact (s.producePoint_guided t p v _ _ _).trans (ih _ _)
      · exact .refl s
    · exact .refl s

theorem State.clearBlockIndex_guided (u : TrackerId) (b : Bool) : Guided s (s.clearBlockIndex u b) :=
  .modFormerTracker s fun _ => rfl

theorem State.startCycles_guided (u : TrackerId) : Guided s (s.startCycles u) :=
  (s.clearBlockIndex_guided u true).trans (.mapFormerTaps _ _)

theorem State.stopTap_guided (u : TrackerId) (tap : TapId) : Guided s (s.stopTap u tap) := by
  unfold State.stopTap
  split
  · exact .refl s
  all_goals
    dsimp only
    refine .trans (.trans ?_ (State.advanceBlock_guided _ tap)) (.modFormerTap _ _ _)
    exact (Guided.modFormerTap s _ _).trans (State.closeEntry_guided _ _ _ _ _)

theorem State.stopCycles_guided (w : TrackerId → Bool) : Guided s (s.stopCycles w) := by
  unfold State.stopCycles
  dsimp only
  have closed := Guided.foldl (f := fun s' tap => if w (s.tapTracker tap) then s'.stopTap (s.tapTracker tap) tap else s')
    fun s' tap => .ite (s'.stopTap_guided _ tap) (.refl s')
  have cleared := Guided.foldl (f := fun s' u => if w u then s'.clearBlockIndex u false else s')
    fun s' u => .ite (s'.clearBlockIndex_guided u false) (.refl s')
  have applied := Guided.foldl (f := fun s' tap => if w (s.tapTracker tap) then s'.applyStaged tap else s')
    fun s' tap => .ite (s'.applyStaged_guided tap) (.refl s')
  exact ((closed _ s).trans (cleared _ _)).trans (applied _ _)

theorem State.abandonOf_guided (u : TrackerId) (n : Resampler → Nat) : Guided s (s.abandonOf u n) := by
  unfold State.abandonOf
  split
  · exact .refl s
  · exact s.abandonCycle_guided _ _ _

theorem State.cancelHandover_guided (u : TrackerId) : Guided s (s.cancelHandover u) := by
  unfold State.cancelHandover
  split
  · exact .refl s
  · exact s.dropHandover_guided u _ _

/-! ## Resamplers that are set -/

/-- One tracker and its resampler replaced by a sound pair, every other as before. -/
theorem Tracked.replace {s t : State} {u : TrackerId} {k : Tracker} {o : Option Resampler} (lnom : t.lnom = s.lnom)
    (trackers : ∀ v : TrackerId, t.trackers[v] = if u = v then k else s.trackers[v])
    (resamplers : ∀ v : TrackerId,
      t.former.trackers[v].resampler = if u = v then o else s.former.trackers[v].resampler)
    (sound : s.trackers[u].Sound s.lnom → k.Sound s.lnom)
    (fits : s.trackers[u].Sound s.lnom → s.ResamplerSound u → ResamplerFits s.lnom k.state.isRunning o) : Tracked s t := by
  refine ⟨fun v h => ?_, fun v h g => ?_⟩
  · rw [lnom, trackers]
    split
    · next e => exact sound (e ▸ h)
    · exact h
  · unfold State.ResamplerSound at g ⊢
    rw [lnom, trackers, resamplers]
    split
    · next e => exact fits (e ▸ h) (e ▸ g)
    · exact g

/-- A resampler at its start fits a period in the band. -/
theorem resamplerFits_start {lnom lfix : Nat} (h : PeriodFits lnom lfix) :
    ResamplerFits lnom true (some (.start lfix)) := by
  refine ⟨rfl, fun r e => ?_, fun r e => ?_⟩ <;> cases e
  · exact ⟨Nat.zero_le _, (Nat.zero_div _).symm, rfl⟩
  · exact h

theorem resamplerFits_none (lnom : Nat) : ResamplerFits lnom false none := ⟨rfl, nofun, nofun⟩

theorem State.startResampler_resampler (u v : TrackerId) :
    (s.startResampler u).former.trackers[v].resampler =
      if u = v then some (.start s.trackers[u].lfix) else s.former.trackers[v].resampler := by
  rw [State.startResampler, (State.cycleStart_guided _ u).resampler v, State.modFormerTracker_trackers]
  split <;> rfl

theorem State.discardResampler_resampler (u v : TrackerId) :
    (s.discardResampler u).former.trackers[v].resampler =
      if u = v then none else s.former.trackers[v].resampler := by
  rw [State.discardResampler, State.modFormerTracker_trackers]
  split <;> rfl

section
variable {s} {m n : State} {u : TrackerId} {k : Tracker}

/-- Tracker u replaced by a running one whose resampler then starts, with steps between that change no tracker. -/
theorem Tracked.start (g : Guided (s.modTracker u fun _ => k) m) (trackers : m.trackers = (s.modTracker u fun _ => k).trackers)
    (running : k.state.isRunning = true) (sound : s.trackers[u].Sound s.lnom → k.Sound s.lnom) :
    Tracked s (m.startResampler u) := by
  have frame : SameOutside [.former] m (m.startResampler u) := m.startResampler_frame u
  have same (v : TrackerId) : (m.startResampler u).trackers[v] = if u = v then k else s.trackers[v] := by
    rw [show (m.startResampler u).trackers = m.trackers from frame.get .trackers, trackers, State.modTracker_trackers]
  refine .replace (k := k) (o := some (.start k.lfix)) ?_ same (fun v => ?_) sound fun h _ => ?_
  · exact g.lnom
  · have lfix : m.trackers[u].lfix = k.lfix := by rw [trackers, State.modTracker_trackers, if_pos rfl]
    rw [State.startResampler_resampler, lfix, g.resampler]
    rfl
  · rw [running]
    exact resamplerFits_start ((sound h).lfix (TrackerState.ne_idle_of_running running))

/-- Tracker u replaced by one that does not run, its resampler discarded. -/
theorem Tracked.stop (stopped : k.state.isRunning = false) (sound : k.Sound s.lnom) :
    Tracked s ((s.modTracker u fun _ => k).discardResampler u) := by
  refine .replace (u := u) (k := k) (o := none) rfl (fun v => ?_) (fun v => ?_) (fun _ => sound) fun _ _ => ?_
  · exact State.modTracker_trackers ..
  · rw [State.discardResampler_resampler]
    rfl
  · rw [stopped]
    exact resamplerFits_none _

end

theorem Tracker.fresh_sound (x : TrackerState) (lnom : Nat) : (Tracker.fresh x lnom).Sound lnom :=
  ⟨fun _ => periodFits_self lnom, nofun, fun _ => rfl⟩

/-! ## The starts, stops and breaks of trackers -/

theorem State.enableAcquiring_tracked (u : TrackerId) : Tracked s (s.enableAcquiring u) := by
  unfold State.enableAcquiring
  dsimp only
  have started := State.startCycles_guided (s.modTracker u fun _ => .fresh .acquiring s.lnom) u
  have frame : SameOutside [.former] (s.modTracker u fun _ => .fresh .acquiring s.lnom) _ := State.startCycles_frame _ u
  refine .start (k := .fresh .acquiring s.lnom) (.ite (started.trans (State.startCycles_guided _ 1)) started) ?_ rfl
    fun _ => Tracker.fresh_sound _ _
  exact (SameOutside.ite (frame.trans (State.startCycles_frame _ 1)) frame).get .trackers

variable {s} in
theorem State.enableFollowing_tracked {u : TrackerId} (idle : s.trackers[u].state = .idle) :
    Tracked s (s.enableFollowing u) := by
  unfold State.enableFollowing
  dsimp only
  have entered : Guided s (s.modTracker u fun _ => .fresh .following s.lnom) :=
    .modTracker s (fun _ => Tracker.fresh_sound _ _) fun _ => by rw [idle]; rfl
  exact ((entered.trans (State.clearBlockIndex_guided _ u true)).trans (.mapFormerTaps _ _)).tracked

theorem State.disable_tracked (u : TrackerId) : Tracked s (s.disable u) := by
  unfold State.disable
  dsimp only
  refine .trans ?_ ((State.stopCycles_guided _ _).trans (State.clearBlockIndex_guided _ u true)).tracked
  have abandoned := (s.cancelHandover_guided u).trans (State.abandonOf_guided _ u Resampler.breakSamples)
  refine abandoned.tracked.trans (.stop rfl ?_)
  rw [abandoned.lnom]
  exact Tracker.fresh_sound _ _

theorem State.follow_tracked (u : TrackerId) : Tracked s (s.follow u) := by
  unfold State.follow
  dsimp only
  have abandoned := s.abandonCycle_guided u Resampler.breakSamples fun tap => s.collectsFrom u tap
  have stopped : Tracked s (((s.abandonCycle u Resampler.breakSamples fun tap => s.collectsFrom u tap).modTracker u
      fun _ => .fresh .following s.lnom).discardResampler u) := by
    refine abandoned.tracked.trans (.stop rfl ?_)
    rw [abandoned.lnom]
    exact Tracker.fresh_sound _ _
  have noticed := stopped.trans (State.trackerNotice_guided _ u s.trackers[u].state .follow).tracked
  exact .ite (noticed.trans (Guided.mapFormerTaps _ _).tracked) (noticed.trans (State.stopCycles_guided _ _).tracked)

theorem State.unfollow_tracked (u : TrackerId) : Tracked s (s.unfollow u) := by
  unfold State.unfollow
  dsimp only
  have abandoned := s.abandonOf_guided u Resampler.samples
  have noticed := State.trackerNotice_guided ((s.abandonOf u Resampler.samples).modTracker u fun _ => .fresh .acquiring s.lnom)
    u s.trackers[u].state .unfollow
  have frame := (State.trackerNotice_frame ((s.abandonOf u Resampler.samples).modTracker u fun _ => .fresh .acquiring s.lnom)
    u s.trackers[u].state .unfollow).wider (m := [.former, .ports, .latches])
  refine abandoned.tracked.trans (.start (k := .fresh .acquiring s.lnom)
    (.ite noticed (noticed.trans (State.startCycles_guided _ u))) ?_ rfl fun _ => ?_)
  · exact (SameOutside.ite frame (frame.trans (State.startCycles_frame _ u).wider)).get .trackers
  · rw [abandoned.lnom]
    exact Tracker.fresh_sound _ _

theorem State.trackerTransition_tracked (u : TrackerId) (x : TrackerSettings) : Tracked s (s.trackerTransition u x) := by
  unfold State.trackerTransition
  split
  · next idle =>
    refine .ite (.ite ?_ (s.enableAcquiring_tracked u)) (s.clearBlockIndex_guided u true).tracked
    exact (State.enableFollowing_tracked idle).trans (State.removeTariff_guided _).tracked
  · refine .ite (.ite (s.unfollow_tracked u) (.refl s)) ?_
    exact (s.disable_tracked u).trans (State.removeTariff_guided _).tracked
  all_goals
    refine .ite (.ite ?_ (.refl s)) ?_
    · exact (s.follow_tracked u).trans (State.removeTariff_guided _).tracked
    · exact (s.disable_tracked u).trans (State.removeTariff_guided _).tracked

theorem Tracker.Sound.atBreak {k : Tracker} {lnom : Nat} (h : k.Sound lnom) : k.atBreak.Sound lnom := by
  refine ⟨h.lfix, fun x hx => ?_, fun idle => Option.map_eq_none_iff.mpr (h.none idle)⟩
  obtain ⟨y, hy, rfl⟩ := Option.map_eq_some_iff.mp hx
  exact h.shadow y hy

theorem State.breakTracker_tracked (u : TrackerId) : Tracked s (s.breakTracker u) := by
  unfold State.breakTracker
  split
  · next running =>
    have abandoned := s.abandonCycle_guided u Resampler.breakSamples fun tap => s.collectsFrom u tap
    have kept := (s.abandonCycle_frame u Resampler.breakSamples fun tap => s.collectsFrom u tap).get .trackers
    refine abandoned.tracked.trans (.start (k := Tracker.atBreak _) (.refl _) rfl ?_ fun h => h.atBreak)
    rw [show State.trackers _ = s.trackers from kept]
    exact running
  · exact .refl s

theorem State.breakCycles_tracked : Tracked s s.breakCycles :=
  (s.breakTracker_tracked 0).trans (State.breakTracker_tracked _ 1)

/-! ## The resampler's step (R92, R93) -/

/-- The points of a step go on from the next point, and end at the number of boundaries that it passes, 128 at most. -/
theorem State.producePoints_next (t : TrackerId) (p v : ChannelValues) (r : Resampler) (fuel : Nat) :
    ∀ (s : State) (i : Nat), r.acc < (i + 1) * 65536 → i * 65536 ≤ r.acc + r.inc → i ≤ 128 → 128 ≤ i + fuel →
      (s.producePoints t p v r fuel i).2 = min 128 ((r.acc + r.inc) / 65536) := by
  induction fuel with
  | zero =>
    intro s i _ reached _ enough
    unfold State.producePoints
    dsimp only
    omega
  | succ n ih =>
    intro s i behind reached within enough
    unfold State.producePoints
    split
    · next inside =>
      split
      · next passed =>
        have ahead : r.acc < (i + 1 + 1) * 65536 := behind.trans_le (Nat.mul_le_mul_right _ (Nat.le_succ _))
        exact ih _ (i + 1) ahead passed.2 inside (by omega)
      · dsimp only
        omega
    · dsimp only
      omega

theorem nominalPeriod_ge : ∀ (f : NominalFrequency) (p : ProfileCode), 6990506 ≤ nominalPeriod f p := by
  intro f
  cases f <;> decide

/-- The increment of a period in the band of any nominal period of R18 passes at most two boundaries. -/
theorem increment_lt_of_fits {f : NominalFrequency} {p : ProfileCode} {period : Nat}
    (h : PeriodFits (nominalPeriod f p) period) : increment period < 131072 := by
  have low := nominalPeriod_ge f p
  unfold PeriodFits at h
  have : 6116692 ≤ period := by omega
  exact (Nat.div_le_div_left this (by decide)).trans_lt (by decide)

end Sys2Proof.Machine
end


section
/-! SUPPORT. The resampler's step, the change of rate, and the units above them keep the trackers sound and their
resamplers placed; then these laws over every step. -/

namespace Sys2Proof.Machine

set_option Elab.async false

open Sys2Proof

variable (s : State)

/-! ## The resampler's step -/

/-- A tracker's resampler set to one that fits it. -/
theorem Tracked.setResampler {t : TrackerId} {f : FormerTracker → FormerTracker} {o : Option Resampler}
    (resampler : (f s.former.trackers[t]).resampler = o)
    (fits : s.trackers[t].Sound s.lnom → s.ResamplerSound t → ResamplerFits s.lnom s.trackers[t].state.isRunning o) :
    Tracked s (s.modFormerTracker t f) := by
  refine .replace (u := t) (k := s.trackers[t]) (o := o) rfl (fun v => ?_) (fun v => ?_) id fits
  · split
    · next e => exact e ▸ rfl
    · rfl
  · rw [State.modFormerTracker_trackers]
    split
    · next e => exact e ▸ resampler
    · rfl

/-- A change of a resampler by itself commutes with operations that set none. -/
theorem Guided.modResampler {s m : State} (h : Guided s m) (t : TrackerId) (g : Option Resampler → Option Resampler) :
    Guided (s.modFormerTracker t fun f => { f with resampler := g f.resampler })
      (m.modFormerTracker t fun f => { f with resampler := g f.resampler }) := by
  refine ⟨h.lnom, h.sound, h.running, fun v => ?_⟩
  rw [State.modFormerTracker_trackers, State.modFormerTracker_trackers]
  split
  · exact congrArg g (h.resampler v)
  · exact h.resampler v

/-- A cycle end sets the tracker's resampler at the reduced accumulator and at its Lfix, between steps that set none. -/
theorem State.cycleEnd_guided (t : TrackerId) (r : Resampler) (acc : Nat) : ∃ m, Guided s m ∧
    Guided (m.modFormerTracker t fun f =>
      { f with resampler := some ⟨acc, 0, increment m.trackers[t].lfix, 0, m.trackers[t].lfix, false⟩ })
      (s.cycleEnd t r acc) := by
  refine ⟨_, s.trackerWork_guided t, ?_⟩
  unfold State.cycleEnd
  dsimp only
  refine .trans ?_ (State.cycleStart_guided _ t)
  have formed := State.formerPart_guided ((s.trackerWork t).1.modFormerTracker t fun f =>
      { f with resampler := some ⟨acc, 0, increment (s.trackerWork t).1.trackers[t].lfix, 0,
        (s.trackerWork t).1.trackers[t].lfix, false⟩ }) r.samples r.period r.filled (s.trackerWork t).2 t
  exact .ite (formed.trans (State.formerPart_guided _ _ _ _ _ _)) formed

/-- The resampler that a step leaves within the cycle is placed: the next point is the number of boundaries passed. -/
theorem Resampler.Placed.advance {r x : Resampler} (h : r.Placed) (within : (r.acc + r.inc) / 65536 < 128)
    (acc : x.acc = r.acc + r.inc) (point : x.point = (r.acc + r.inc) / 65536) (inc : x.inc = r.inc)
    (period : x.period = r.period) : x.Placed :=
  ⟨by rw [acc]; omega, by rw [point, acc], by rw [inc, period]; exact h.inc⟩

theorem State.modFormerTracker_modFormerTracker (t : TrackerId) (f g : FormerTracker → FormerTracker) :
    (s.modFormerTracker t f).modFormerTracker t g = s.modFormerTracker t fun x => g (f x) := by
  have twice : modAt (modAt s.former.trackers t f) t g = modAt s.former.trackers t fun x => g (f x) := by
    refine Vector.ext fun i hi => ?_
    have at_i := getElem_modAt (modAt s.former.trackers t f) t ⟨i, hi⟩ g
    have once := getElem_modAt s.former.trackers t ⟨i, hi⟩ f
    have both := getElem_modAt s.former.trackers t ⟨i, hi⟩ fun x => g (f x)
    simp only [Fin.getElem_fin] at at_i once both
    rw [at_i, once, both]
    split <;> rfl
  simp only [State.modFormerTracker, State.setFormer_former, twice]
  rfl

theorem one_boundary {acc : Nat} (low : 65536 ≤ acc) (high : acc < 131072) : 1 = acc / 65536 := by omega

/-- The resampler of a tracker that has ended a cycle in this step, at the reduced accumulator, fits its Lfix. -/
theorem resamplerFits_afterCycle {s : State} {t : TrackerId} {r : Resampler} {point : Nat}
    (present : s.former.trackers[t].resampler = some r) (ended : 8388608 ≤ r.acc + r.inc)
    (passed : point = if r.acc + r.inc - 8388608 < 65536 then 0 else 1)
    (sound : s.trackers[t].Sound s.lnom) (fits : s.ResamplerSound t) :
    ResamplerFits s.lnom s.trackers[t].state.isRunning
      (some ⟨r.acc + r.inc - 8388608, point, increment s.trackers[t].lfix, 0, s.trackers[t].lfix, false⟩) := by
  have running : s.trackers[t].state.isRunning = true := by
    rw [← fits.present, present]
    rfl
  have placed := fits.placed r present
  have acc := placed.acc
  have step : r.inc < 131072 := by
    rw [placed.inc]
    exact increment_lt_of_fits (f := s.straps.frequency) (p := s.agreement.profile) (fits.period r present)
  refine ⟨running.symm, fun x hx => ?_, fun x hx => ?_⟩ <;> obtain rfl := Option.some.inj hx
  · refine ⟨by dsimp only; omega, ?_, rfl⟩
    have reduced := Nat.sub_lt_left_of_lt_add ended (Nat.add_lt_add_of_le_of_lt (Nat.le_succ_of_le acc) step)
    rw [passed]
    split
    · next short => exact (Nat.div_eq_of_lt short).symm
    · next long => exact one_boundary (Nat.not_lt.mp long) reduced
  · exact sound.lfix (TrackerState.ne_idle_of_running running)

theorem State.resample_tracked (t : TrackerId) (p v : ChannelValues) (filled : Bool) :
    Tracked s (s.resample t p v filled) := by
  unfold State.resample
  split
  · exact .refl s
  · next r present =>
    dsimp only
    have points := State.producePoints_guided t p v r 128 s r.point
    have next (placed : r.Placed) : (s.producePoints t p v r 128 r.point).2 = min 128 ((r.acc + r.inc) / 65536) := by
      have acc := placed.acc
      have point := placed.point
      exact State.producePoints_next t p v r 128 s r.point (by omega) (by omega) (by omega) (by omega)
    generalize s.producePoints t p v r 128 r.point = made at points next
    rw [← points.resampler t] at present
    split
    · next inside =>
      refine points.tracked.trans (.setResampler _ rfl fun _ fits => ?_)
      have placed := fits.placed r present
      have reached := next placed
      refine ⟨(congrArg Option.isSome present).symm.trans fits.present, fun x hx => ?_, fun x hx => ?_⟩ <;> cases hx
      · exact placed.advance (by omega) rfl (by dsimp only; omega) rfl rfl
      · exact fits.period r present
    · next outside =>
      obtain ⟨m, before, after⟩ := made.1.cycleEnd_guided t
        { r with acc := r.acc + r.inc, point := made.2, samples := r.samples + 1, filled := r.filled || filled }
        (r.acc + r.inc - Config.cycleUnits)
      rw [← before.resampler t] at present
      have ended (fits : m.ResamplerSound t) : 8388608 ≤ r.acc + r.inc := by
        have reached := next (fits.placed r present)
        omega
      split
      · next short =>
        refine (points.trans before).tracked.trans (.trans (.setResampler m rfl fun sound fits => ?_) after.tracked)
        exact resamplerFits_afterCycle present (ended fits) (if_pos short).symm sound fits
      · next long =>
        have pointed := (after.trans (State.producePoint_guided _ t p v (65536 + Config.cycleUnits - r.acc) r.inc
          0)).modResampler t (Option.map fun r2 => { r2 with point := 1 })
        rw [State.modFormerTracker_modFormerTracker] at pointed
        refine (points.trans before).tracked.trans (.trans (.setResampler m rfl fun sound fits => ?_) pointed.tracked)
        exact resamplerFits_afterCycle present (ended fits) (if_neg long).symm sound fits

end Sys2Proof.Machine
end


section
/-! SUPPORT. The change of rate, the intake, the agreement unit, the requests and the resets keep the trackers sound and
their resamplers placed; then these laws over every step. -/

namespace Sys2Proof.Machine

set_option Elab.async false

open Sys2Proof

variable (s : State)

/-! ## The change of rate (R30) -/

/-- A tracker after a change of rate to a nominal period. -/
def Tracker.rated (lnom : Nat) (k : Tracker) : Tracker :=
  match k.state with
  | .idle => k
  | .following => { k with lfix := lnom }
  | .acquiring | .locked | .holdover | .freerun => k.atRate lnom

theorem State.rateChange_trackers (u v : TrackerId) :
    (s.rateChange u).trackers[v] = if u = v then s.trackers[v].rated s.lnom else s.trackers[v] := by
  have noticed (m : State) (p : TrackerState) : (m.trackerNotice u p .rateChange).trackers = m.trackers :=
    (m.trackerNotice_frame u p .rateChange).get .trackers
  have rated {x : Tracker} (h : s.trackers[u].rated s.lnom = x) :
      (s.modTracker u fun _ => x).trackers[v] = if u = v then s.trackers[v].rated s.lnom else s.trackers[v] := by
    rw [State.modTracker_trackers]
    split
    · next e => exact e ▸ h.symm
    · rfl
  unfold State.rateChange
  split
  · next idle =>
    split
    · next e => rw [← e, Tracker.rated, idle]
    · rfl
  · next following => exact rated (by rw [Tracker.rated, following])
  · next acquiring => exact rated (by rw [Tracker.rated, acquiring])
  all_goals
    next running =>
      rw [noticed]
      exact rated (by rw [Tracker.rated, running])

/-- A resampler set to a new period. -/
def Resampler.rated (lfix : Nat) (r : Resampler) : Resampler := { r with inc := increment lfix, period := lfix }

theorem State.rateChange_lnom (u : TrackerId) : (s.rateChange u).lnom = s.lnom := by
  have straps := (s.rateChange_frame u).get .straps
  have agreement := (s.rateChange_frame u).get .agreement
  simp only [Block.same] at straps agreement
  unfold State.lnom
  rw [straps, agreement]

theorem State.changeRate_trackers (v : TrackerId) : s.changeRate.trackers[v] = s.trackers[v].rated s.lnom := by
  change ((s.rateChange 0).rateChange 1).trackers[v] = _
  rw [State.rateChange_trackers, State.rateChange_trackers, State.rateChange_lnom]
  revert v
  exact Fin.forall_fin_two.mpr ⟨rfl, rfl⟩

theorem State.changeRate_former (v : TrackerId) : s.changeRate.former.trackers[v] =
    { s.former.trackers[v] with
      resampler := s.former.trackers[v].resampler.map (.rated (s.trackers[v].rated s.lnom).lfix) } := by
  have former : ((s.rateChange 0).rateChange 1).former = s.former :=
    ((s.rateChange_frame 0).trans (State.rateChange_frame _ 1)).get .former
  have both (m : State) (v : TrackerId) : (([0, 1] : List TrackerId).foldl (fun s' t => s'.modFormerTracker t fun f =>
      { f with resampler := f.resampler.map (.rated s'.trackers[t].lfix) }) m).former.trackers[v] =
        { m.former.trackers[v] with resampler := m.former.trackers[v].resampler.map (.rated m.trackers[v].lfix) } := by
    simp only [List.foldl_cons, List.foldl_nil, State.modFormerTracker_trackers]
    revert v
    exact Fin.forall_fin_two.mpr ⟨rfl, rfl⟩
  refine (both _ v).trans ?_
  rw [former, ← State.changeRate_trackers]
  rfl

theorem Tracker.Sound.rated {k : Tracker} {l : Nat} (h : k.Sound l) (lnom : Nat) : (k.rated lnom).Sound lnom := by
  have running : (k.atRate lnom).Sound lnom := by
    refine .stayRunning rfl (periodFits_self lnom) fun x hx => ?_
    obtain ⟨y, -, rfl⟩ := Option.map_eq_some_iff.mp hx
    exact periodFits_self lnom
  unfold Tracker.rated
  split
  · next idle =>
    have none := h.none (by rw [idle]; rfl)
    exact ⟨fun g => absurd idle g, fun x hx => absurd (none.symm.trans hx) nofun, fun _ => none⟩
  · next following =>
    have none := h.none (by rw [following]; rfl)
    exact ⟨fun _ => periodFits_self lnom, fun x hx => absurd (none.symm.trans hx) nofun, fun _ => none⟩
  all_goals exact running

theorem Tracker.rated_isRunning (k : Tracker) (lnom : Nat) : (k.rated lnom).state.isRunning = k.state.isRunning := by
  unfold Tracker.rated
  split
  case h_1 | h_2 => rfl
  all_goals next h => rw [h]; rfl

/-- Whatever nominal period the state before had, the change of rate brings every tracker and resampler into the band
of the present one, where they were sound in form. -/
theorem State.changeRate_tracked {s m : State} (trackers : m.trackers = s.trackers) (former : m.former = s.former) :
    Tracked s m.changeRate := by
  have lnom : m.changeRate.lnom = m.lnom := by
    have straps := m.changeRate_frame.get .straps
    have agreement := m.changeRate_frame.get .agreement
    simp only [Block.same] at straps agreement
    unfold State.lnom
    rw [straps, agreement]
  refine ⟨fun u sound => ?_, fun u sound fits => ?_⟩
  · rw [lnom, State.changeRate_trackers, trackers]
    exact sound.rated m.lnom
  · have period := (sound.rated m.lnom).lfix
    unfold State.ResamplerSound
    rw [lnom, State.changeRate_trackers, State.changeRate_former, trackers, former, Tracker.rated_isRunning]
    refine ⟨Option.isSome_map.trans fits.present, fun x hx => ?_, fun x hx => ?_⟩ <;>
      obtain ⟨r, present, rfl⟩ := Option.map_eq_some_iff.mp hx
    · exact ⟨(fits.placed r present).acc, (fits.placed r present).point, rfl⟩
    · have running : s.trackers[u].state.isRunning = true := by
        rw [← fits.present, present]
        rfl
      exact period (TrackerState.ne_idle_of_running (by rw [Tracker.rated_isRunning, running]))

/-! ## Intake -/

theorem State.examine_resample_tracked (t : TrackerId) (p v : ChannelValues) (filled start : Bool) :
    Tracked s ((s.examine t start v).resample t p v filled) :=
  (s.examine_guided t start v).tracked.trans (State.resample_tracked _ t p v filled)

theorem State.handOn_tracked (v : ChannelValues) (filled start : Bool) : Tracked s (s.handOn v filled start) := by
  unfold State.handOn
  dsimp only
  refine .trans ?_ (Tracked.foldl (fun s' t => ?_) _ _)
  · have sampled (m : State) : Guided m m.sampleTaps.advanceChoice :=
      (Guided.mapFormerTaps m _).trans (.of_frame (State.advanceChoice_frame _).wider)
    exact ((Guided.of_frame (s.setIntake_frame _).wider).trans (sampled _)).tracked
  · exact .ite (s'.examine_resample_tracked t _ v filled start) (.refl s')

theorem State.fill_tracked (g : Nat) : ∀ s : State, Tracked s (State.fill g s) := by
  induction g with
  | zero => exact .refl
  | succ n ih => exact fun s => (s.handOn_tracked _ true false).trans (ih _)

theorem State.countClips_guided (x : Vector Bool 48) : Guided s (s.countClips x) := by
  unfold State.countClips
  dsimp only
  exact (Guided.ite (.of_frame (s.setLatches_frame _).wider) (.refl s)).trans (.mapFormerTaps _ _)

theorem State.takeFrame_tracked (x : SampleSet) (start : Bool) : Tracked s (s.takeFrame x start) :=
  ((s.countClips_guided _).tracked.trans (State.handOn_tracked _ _ false start)).trans
    (Guided.of_frame (State.awaitNext_frame _ _).wider).tracked

theorem State.streamBreak_tracked (c : StreamCause) (n : BitVec 16) : Tracked s (s.streamBreak c n) :=
  (Guided.trans (.of_frame (s.handOver_frame _).wider) (.of_frame (State.setLatches_frame _ _).wider)).tracked.trans
    (State.breakCycles_tracked _)

theorem State.sequenceCheck_tracked (x : SampleSet) (g : Nat) : Tracked s (s.sequenceCheck x g) := by
  unfold State.sequenceCheck
  refine .ite (s.takeFrame_tracked x false) (.ite ?_ (.ite ?_ (.refl s)))
  · exact ((Guided.of_frame (s.setLatches_frame _).wider).tracked.trans (State.fill_tracked g _)).trans
      (State.takeFrame_tracked _ x _)
  · exact (s.streamBreak_tracked _ _).trans (State.takeFrame_tracked _ x _)

theorem State.intakeSampleSet_tracked (x : SampleSet) : Tracked s (s.intakeSampleSet x) := by
  unfold State.intakeSampleSet
  split
  · refine .ite ?_ (Guided.of_frame (s.setLatches_frame _).wider).tracked
    unfold State.admitSet
    split
    · exact s.sequenceCheck_tracked x _
    all_goals exact s.takeFrame_tracked x true
  all_goals exact .refl s

theorem State.intakeTimeMark_guided (f : StreamFrame) : Guided s (s.intakeTimeMark f) := by
  refine .ite (.setFormer s _ fun u => ?_) (.refl s)
  rw [getElem_ofFn_fin]
  rfl

theorem State.silenceExpired_tracked : Tracked s s.silenceExpired :=
  (s.streamBreak_tracked _ _).trans (Guided.of_frame (State.intakeWait_frame _).wider).tracked

/-! ## Agreement unit -/

theorem State.offerAgain_guided (a : Bool) : Guided s (s.offerAgain a) :=
  (Guided.setAgreement s _ (by rfl)).trans (.of_frame (State.placeOffer_frame _ _).wider)

theorem State.enterListen_guided : Guided s s.enterListen :=
  (Guided.setAgreement s _ (by rfl)).trans (State.offerAgain_guided _ _)

theorem State.enterAcknowledge_guided : Guided s s.enterAcknowledge :=
  (Guided.setAgreement s _ (by rfl)).trans (State.offerAgain_guided _ _)

theorem State.stopOffering_guided : Guided s s.stopOffering :=
  (Guided.setAgreement s _ (by rfl)).trans (.of_frame (State.withdrawOffer_frame _).wider)

theorem State.agreementNotice_guided (o : AgreementOutcome) (p : ProfileCode) (m : BitVec 8) :
    Guided s (s.agreementNotice o p m) := .of_frame (s.agreementNotice_frame o p m).wider

theorem State.enterPause_guided : Guided s s.enterPause := s.stopOffering_guided.trans (.setAgreement _ _ rfl)

theorem State.enterNoCommon_guided : Guided s s.enterNoCommon := s.stopOffering_guided.trans (.setAgreement _ _ rfl)

/-- The entry into AGREED before its change of rate, if any, moves the profile in force and no tracker. -/
theorem State.enterAgreed_eq (p : ProfileCode) (n : Option (AgreementOutcome × BitVec 8)) :
    ∃ m, SameOutside [.agreement, .ports, .latches, .intake] s m ∧ m.agreement.profile = p ∧
      s.enterAgreed p n = if sampleRate s.agreement.profile ≠ sampleRate p then m.changeRate else m := by
  have entered : SameOutside [.agreement, .ports, .latches, .intake] s
      (s.stopOffering.setAgreement { s.stopOffering.agreement with state := .agreed p, profile := p }).intakeWait :=
    (s.stopOffering_frame.andThen (State.setAgreement_frame _ _) (n := [.agreement, .ports])).andThen
      (State.intakeWait_frame _)
  cases n with
  | none => exact ⟨_, entered, rfl, by simp [State.enterAgreed]⟩
  | some x =>
    refine ⟨_, entered.trans (State.agreementNotice_frame _ x.1 p x.2).wider, ?_, by simp [State.enterAgreed]⟩
    exact congrArg Agreement.profile ((State.agreementNotice_frame _ x.1 p x.2).get .agreement)

theorem State.enterAgreed_tracked (p : ProfileCode) (n : Option (AgreementOutcome × BitVec 8)) :
    Tracked s (s.enterAgreed p n) := by
  obtain ⟨m, frame, profile, eq⟩ := s.enterAgreed_eq p n
  have straps : m.straps = s.straps := frame.get .straps
  have trackers : m.trackers = s.trackers := frame.get .trackers
  have former : m.former = s.former := frame.get .former
  rw [eq]
  split
  · exact State.changeRate_tracked trackers former
  · next same =>
    have lnom : m.lnom = s.lnom := by
      unfold State.lnom nominalPeriod
      rw [straps, profile, Decidable.not_not.mp same]
    refine Guided.tracked ⟨lnom, fun u => ?_, fun u _ => ?_, fun u => ?_⟩
    · rw [trackers]
      exact id
    · rw [trackers]
    · rw [former]

theorem State.leaveAgreed_tracked : Tracked s s.leaveAgreed :=
  ((Guided.of_frame (s.setLatches_frame _).wider).tracked.trans (State.breakCycles_tracked _)).trans
    (Guided.of_frame (State.intakeWait_frame _).wider).tracked

theorem State.matchOffer_guided (m : BitVec 8) : Guided s (s.matchOffer m) :=
  .ite ((Guided.setAgreement s _ (by rfl)).trans (State.enterAcknowledge_guided _)) (.setAgreement s _ rfl)

theorem State.resolve_tracked : Tracked s s.resolve := by
  unfold State.resolve
  dsimp only
  split
  · exact (s.enterNoCommon_guided.trans (State.agreementNotice_guided _ _ _ _)).tracked
  · exact s.enterAgreed_tracked _ _

theorem State.acknowledgeOffer_tracked (m : BitVec 8) (a : Bool) : Tracked s (s.acknowledgeOffer m a) := by
  refine .ite (.ite ?_ (.refl s)) ((s.agreementNotice_guided _ _ _).trans (State.enterPause_guided _)).tracked
  have counted : Guided s (s.setAgreement { s.agreement with ackCount := s.agreement.ackCount + 1 }) :=
    .setAgreement s _ rfl
  exact .ite (counted.tracked.trans (State.resolve_tracked _)) counted.tracked

theorem State.renegotiate_tracked (p : ProfileCode) (m : BitVec 8) : Tracked s (s.renegotiate p m) :=
  ((s.agreementNotice_guided _ _ _).tracked.trans (State.leaveAgreed_tracked _)).trans
    ((State.enterListen_guided _).trans (State.matchOffer_guided _ m)).tracked

theorem State.takeOffer_tracked (m : BitVec 8) (a : Bool) : Tracked s (s.takeOffer m a) := by
  unfold State.takeOffer
  split
  · exact (s.matchOffer_guided m).tracked
  · exact s.acknowledgeOffer_tracked m a
  · exact .refl s
  · exact .ite (.refl s) (s.enterListen_guided.trans (State.matchOffer_guided _ m)).tracked
  · split
    · exact .refl s
    · exact .ite (.refl s) (s.renegotiate_tracked _ m)

theorem State.partnerOffer_tracked (f : StreamFrame) : Tracked s (s.partnerOffer f) := by
  unfold State.partnerOffer
  refine .ite ?_ (.refl s)
  split
  · exact .refl s
  · exact s.takeOffer_tracked _ _

theorem Agreement.countAdoption_profile (a : Agreement) (code : Nat) : (a.countAdoption code).profile = a.profile := by
  unfold Agreement.countAdoption
  split
  · split <;> rfl
  · rfl

theorem State.sampleSet_tracked (x : SampleSet) : Tracked s (s.sampleSet x) := by
  have adopted : Tracked s (s.adopt x.code) := by
    have counted : Guided s (s.setAgreement (s.agreement.countAdoption x.code)) :=
      .setAgreement s _ (s.agreement.countAdoption_profile x.code)
    exact .ite (.ite (counted.tracked.trans (State.enterAgreed_tracked _ _ _)) counted.tracked) (.refl s)
  unfold State.sampleSet
  split
  · exact s.intakeSampleSet_tracked x
  all_goals exact adopted

theorem State.setAgreementFields_tracked (m : AgreementMode) (k : BitVec 8) (f : ProfileCode) :
    Tracked s (s.setAgreementFields m k f) := by
  unfold State.setAgreementFields
  dsimp only
  have restarted : Guided s (s.setAgreement (s.agreement.restart m k f)).withdrawOffer :=
    (Guided.setAgreement s _ (by rfl)).trans (.of_frame (State.withdrawOffer_frame _).wider)
  have left := Tracked.ite (p := s.agreement.state.isAgreed = true)
    (restarted.tracked.trans (State.leaveAgreed_tracked _)) restarted.tracked
  cases m
  · exact left.trans (State.enterListen_guided _).tracked
  · exact left.trans (State.enterAgreed_tracked _ _ _)

/-! ## Delivery -/

theorem State.deliverStream_tracked (b : Bytes) (f : State → State) (h : ∀ s, Tracked s (f s)) :
    Tracked s (s.deliverStream b f) := by
  unfold State.deliverStream State.forwardAnd
  have chosen : Guided s (s.setChoices (s.choices + 1)) := .of_frame (s.setChoices_frame _).wider
  have entered (m : State) : Guided m (m.enterForward b) := .of_frame (m.enterForward_frame b).wider
  refine .ite (.ite (.ite ?_ ?_) ?_) (h s)
  · exact (chosen.tracked.trans (h _)).trans (entered _).tracked
  · exact (chosen.trans (entered _)).tracked.trans (h _)
  · exact (entered s).tracked.trans (h _)

theorem State.deliverA_tracked (b : Bytes) : Tracked s (s.deliverA b) := by
  have entered : Tracked s (s.enterForward b) := (Guided.of_frame (s.enterForward_frame b).wider).tracked
  unfold State.deliverA
  split
  · exact entered
  · split
    · exact s.deliverStream_tracked b _ fun s => s.sampleSet_tracked _
    · exact s.deliverStream_tracked b _ fun s => (s.intakeTimeMark_guided _).tracked
    · exact s.partnerOffer_tracked _
    all_goals exact entered

theorem State.receptionEnd_tracked (p : Port) (f : RxFrame) : Tracked s (s.receptionEnd p f) := by
  unfold State.receptionEnd
  refine .ite (.refl s) (.ite ?_ (Guided.of_frame (s.setLatches_frame _).wider).tracked)
  cases p
  · exact s.deliverA_tracked _
  · exact (Guided.of_frame (s.deliverB_frame _).wider).tracked

/-! ## Resets -/

theorem State.emptyOut_tracked (cause : StartCause) : Tracked s (s.emptyOut cause) := by
  have tracker (u : TrackerId) : (s.emptyOut cause).trackers[u] = { s.trackers[u] with handover := none } := by
    rw [State.emptyOut, getElem_mapVec]
  refine ⟨fun u h => ?_, fun u _ fits => ?_⟩
  · rw [tracker]
    exact ⟨h.lfix, nofun, fun _ => rfl⟩
  · unfold State.ResamplerSound
    rw [tracker]
    exact fits

/-- A tracker after a reset is sound, and the resampler that it is given fits. -/
theorem State.resetTrackers_sound (u : TrackerId) :
    s.resetTrackers.trackers[u].Sound s.resetTrackers.lnom ∧ s.resetTrackers.ResamplerSound u := by
  have tracker : s.resetTrackers.trackers[u] = resetTracker u s.tables.settings[u] s.lnom :=
    getElem_ofFn_fin (fun t => resetTracker t s.tables.settings[t] s.lnom) u
  have resampler : s.resetTrackers.former.trackers[u].resampler =
      if s.resetTrackers.trackers[u].state.isRunning then some (.start s.resetTrackers.trackers[u].lfix) else none := by
    simp [State.resetTrackers, resetFormerTracker, FormerTracker.cleared]
  have fresh : ∃ x, s.resetTrackers.trackers[u] = .fresh x s.lnom := by
    rw [tracker, resetTracker]
    split
    · split <;> exact ⟨_, rfl⟩
    · exact ⟨_, rfl⟩
  have lnom : s.resetTrackers.lnom = s.lnom := rfl
  obtain ⟨x, hx⟩ := fresh
  unfold State.ResamplerSound
  rw [resampler, hx, lnom]
  refine ⟨Tracker.fresh_sound _ _, ?_⟩
  split
  · next running =>
    rw [running]
    exact resamplerFits_start (periodFits_self _)
  · next stopped =>
    rw [Bool.not_eq_true] at stopped
    rw [stopped]
    exact resamplerFits_none _

/-- The restart of the trackers makes them sound, whatever stood before. -/
theorem State.restartTrackers_tracked (m : State) : Tracked s m.resetTrackers.advanceAllBlocks := by
  have advanced : Guided m.resetTrackers m.resetTrackers.advanceAllBlocks :=
    .of_frame (State.advanceAllBlocks_frame _).wider
  refine .trans (t := m.resetTrackers) ⟨fun u _ => (m.resetTrackers_sound u).1, fun u _ _ => ?_⟩ advanced.tracked
  exact (m.resetTrackers_sound u).2

theorem State.assertReset_tracked : Tracked s s.assertReset :=
  (s.emptyOut_tracked .pin).trans (Guided.trans (.of_frame ((s.emptyOut .pin).setResetLine_frame true).wider)
    (.setAgreement _ (.cleared s.agreement.mode s.agreement.acceptMask s.agreement.fixedCode s.agreement.profile) rfl)).tracked

theorem State.releaseReset_tracked : Tracked s s.releaseReset := by
  rw [s.releaseReset_eq]
  exact (State.restartTrackers_tracked s _).trans (State.enterListen_guided _).tracked

theorem State.requestReset_tracked : Tracked s s.requestReset := by
  unfold State.requestReset
  split
  · exact (State.restartTrackers_tracked s _).trans (State.enterListen_guided _).tracked
  · exact (State.restartTrackers_tracked s _).trans (State.enterAgreed_tracked _ _ _)

theorem State.atPowerOn_sound (a : BitVec 6) (f : NominalFrequency) :
    ∀ u : TrackerId, (State.atPowerOn a f).trackers[u].Sound (State.atPowerOn a f).lnom :=
  Fin.forall_fin_two.mpr ⟨Tracker.fresh_sound _ _, Tracker.fresh_sound _ _⟩

theorem State.atPowerOn_resamplerSound (a : BitVec 6) (f : NominalFrequency) :
    ∀ u : TrackerId, (State.atPowerOn a f).ResamplerSound u :=
  Fin.forall_fin_two.mpr ⟨resamplerFits_start (periodFits_self _), resamplerFits_none _⟩

theorem State.atPowerOn_tracked (a : BitVec 6) (f : NominalFrequency) : Tracked s (State.atPowerOn a f) :=
  ⟨fun u _ => State.atPowerOn_sound a f u, fun u _ _ => State.atPowerOn_resamplerSound a f u⟩

theorem State.endTransmissionB_tracked (e : Ending) : Tracked s (s.endTransmissionB e) := by
  have finished : Guided s ((s.setPorts s.ports.finishB).setWire (s.wire.ended .b s.ports.txB e)) :=
    (Guided.of_frame (s.setPorts_frame _).wider).trans (.of_frame (State.setWire_frame _ _).wider)
  have chosen := finished.trans (.of_frame (State.chooseB_frame _).wider)
  have taken := chosen.trans (.of_frame (State.takeRequest_frame _).wider)
  exact .ite (.refl s) (.ite (.ite (finished.tracked.trans (State.requestReset_tracked _)) taken.tracked) chosen.tracked)

theorem State.linkDown_tracked (p : Port) : Tracked s (s.linkDown p) := by
  have down (x : Ports) : Guided s (s.setPorts x) := .of_frame (s.setPorts_frame x).wider
  cases p
  · exact ((down _).trans (.of_frame (State.endTransmissionA_frame _ _).wider)).tracked
  · exact (down _).tracked.trans (State.endTransmissionB_tracked _ _)

end Sys2Proof.Machine
end


section
/-! SUPPORT. The soundness of the trackers and the places of their resamplers over every command and every step. -/

namespace Sys2Proof.Machine

set_option Elab.async false

open Sys2Proof

variable (s : State) (r : Request)

/-! ## Requests -/

theorem State.answer_guided (x : Result) (b : Bytes) : Guided s (s.answer r x b) := .of_frame (s.answer_frame r x b).wider

theorem State.refuse_tracked (x : Result) : Tracked s (s.refuse r x) :=
  (Guided.of_frame (s.refuse_frame r x).wider).tracked

/-- An operation that keeps the laws, and then an answer. -/
theorem Tracked.answer {s t : State} (h : Tracked s t) (r : Request) (x : Result) (b : Bytes) : Tracked s (t.answer r x b) :=
  h.trans (t.answer_guided r x b).tracked

theorem serveWriteTap_tracked : Tracked s (serveWriteTap s r) := by
  unfold serveWriteTap
  split
  · exact s.refuse_tracked r _
  · exact .ite ((Guided.of_frame (s.modTapSlot_frame _ _).wider).tracked.answer r _ _)
      ((s.applyInactive_guided _ _).tracked.answer r _ _)

theorem serveWriteTracker_tracked : Tracked s (serveWriteTracker s r) := by
  unfold serveWriteTracker
  split
  · exact s.refuse_tracked r _
  · refine .ite (s.refuse_tracked r _) (Tracked.answer ?_ r _ _)
    exact (Guided.of_frame (s.modSettings_frame _ _).wider).tracked.trans (State.trackerTransition_tracked _ _ _)

/-- A running tracker gets a handover at its own Lfix. -/
theorem State.startHandover_tracked (t : TrackerId) (c : Channel) : Tracked s (s.startHandover r t c) := by
  unfold State.startHandover
  split
  · exact s.refuse_tracked r _
  · next due =>
    have running : s.trackers[t].state.isRunning = true := by
      simpa using (not_or.mp due).1
    refine .ite (s.refuse_tracked r _) (Tracked.answer (Guided.tracked ?_) r _ _)
    refine .modRunning s running running id fun sound h started => ?_
    cases started
    exact sound.lfix (TrackerState.ne_idle_of_running running)

theorem serveHandoverStart_tracked : Tracked s (serveHandoverStart s r) := by
  unfold serveHandoverStart
  refine .ite (.refl s) (.ite ?_ (s.refuse_tracked r _))
  split
  · exact s.startHandover_tracked r _ _
  · exact s.refuse_tracked r _

theorem serveHandoverCancel_tracked : Tracked s (serveHandoverCancel s r) := by
  unfold serveHandoverCancel
  refine .ite ?_ (.refl s)
  split
  · exact s.refuse_tracked r _
  · split
    · exact s.refuse_tracked r _
    · exact (s.dropHandover_guided _ _ _).tracked.answer r _ _

theorem serveSetTariff_tracked : Tracked s (serveSetTariff s r) := by
  unfold serveSetTariff
  split
  · exact s.refuse_tracked r _
  · exact (Guided.setFormer s _ (by exact fun _ => rfl)).tracked.answer r _ _

theorem serveSetAgreement_tracked : Tracked s (serveSetAgreement s r) := by
  unfold serveSetAgreement
  split
  · exact s.refuse_tracked r _
  · exact (s.setAgreementFields_tracked _ _ _).answer r _ _

/-! ## Requests that serve neither the trackers nor the cycle former -/

/-- An operation within blocks, and then an answer. -/
theorem SameOutside.answer {l : List Block} {s t : State} (h : SameOutside l s t) (r : Request) (x : Result) (b : Bytes) :
    SameOutside (.ports :: .management :: l) s (t.answer r x b) :=
  (h.mono (by simpa using fun _ h => .inr (.inr h))).trans ((t.answer_frame r x b).mono (by simp))

theorem State.refuse_within (l : List Block) (x : Result) : SameOutside (.ports :: .management :: l) s (s.refuse r x) :=
  (s.refuse_frame r x).mono (by simp)

theorem serveReadStatus_frame : SameOutside [.ports, .management, .latches] s (serveReadStatus s r) :=
  (s.setLatches_frame _).answer r _ _

theorem serveReset_frame : SameOutside [.ports, .management] s (serveReset s r) :=
  ((s.setManagement_frame _).answer r _ _).wider

theorem serveReadTap_frame : SameOutside [.ports, .management] s (serveReadTap s r) := by
  unfold serveReadTap
  split
  · exact s.refuse_frame r _
  · exact s.answer_frame r _ _

theorem serveReadRegisters_frame : SameOutside [.ports, .management] s (serveReadRegisters s r) := by
  unfold serveReadRegisters
  split
  · exact s.refuse_frame r _
  · exact s.answer_frame r _ _

theorem serveReadRecord_frame : SameOutside [.ports, .management] s (serveReadRecord s r) := by
  unfold serveReadRecord
  split
  · exact s.refuse_frame r _
  · exact s.answer_frame r _ _

theorem serveReadSpectrum_frame : SameOutside [.ports, .management] s (serveReadSpectrum s r) := by
  unfold serveReadSpectrum
  split
  · exact s.refuse_frame r _
  · split
    · exact s.refuse_frame r _
    · exact s.answer_frame r _ _

theorem serveWriteChannels_frame : SameOutside [.ports, .management, .tables] s (serveWriteChannels s r) := by
  unfold serveWriteChannels
  split
  · exact s.refuse_within r _ _
  · exact (s.setTables_frame _).answer r _ _

theorem serveWriteGroups_frame : SameOutside [.ports, .management, .tables] s (serveWriteGroups s r) := by
  unfold serveWriteGroups
  split
  · exact s.refuse_within r _ _
  · exact (s.setTables_frame _).answer r _ _

theorem serveSetStation_frame : SameOutside [.ports, .management, .tables] s (serveSetStation s r) := by
  unfold serveSetStation
  split
  · exact s.refuse_within r _ _
  · exact (s.setTables_frame _).answer r _ _

theorem serveWriteCorrection_frame :
    SameOutside [.ports, .management, .tables, .engine] s (serveWriteCorrection s r) := by
  unfold serveWriteCorrection
  split
  · exact .refl _ s
  · split
    · exact s.refuse_within r _ _
    · split
      · exact ((s.applyCorrection_frame _).answer r _ _).wider
      · exact (s.setEngine_frame _).wider

theorem serveSetConstant_frame : SameOutside [.ports, .management, .accounts] s (serveSetConstant s r) := by
  unfold serveSetConstant
  split
  · exact s.refuse_within r _ _
  · exact (s.modAccount_frame _ _).answer r _ _

theorem serveRestore_frame : SameOutside [.ports, .management, .accounts] s (serveRestore s r) := by
  unfold serveRestore
  split
  · exact s.refuse_within r _ _
  · split
    · exact s.refuse_within r _ _
    · exact (s.modAccount_frame _ _).answer r _ _

theorem serveClear_frame : SameOutside [.ports, .management, .accounts] s (serveClear s r) := by
  unfold serveClear
  split
  · exact s.refuse_within r _ _
  · exact .ite (s.refuse_within r _ _) ((s.modAccount_frame _ _).answer r _ _)

/-! ## Every command -/

theorem exec_tracked (c : Instr) : ∃ t, exec c s = .next t ∧ Tracked s t := by
  have serves {k : RequestKind} {f : State → Request → State} (served : ∀ s r, Tracked s (f s r)) :
      Tracked s (s.serve k f) := State.serve_of (.refl s) fun r _ => served s r
  have serves' {k : RequestKind} {f : State → Request → State} {l : List Block}
      (served : ∀ s r, SameOutside l s (f s r)) (hl : l.all (fun b => unguidedBlocks.contains b) = true := by decide) :
      Tracked s (s.serve k f) := serves fun s r => (Guided.of_frame ((served s r).wider hl)).tracked
  have within {l : List Block} {t : State} (h : SameOutside l s t)
      (hl : l.all (fun b => unguidedBlocks.contains b) = true := by decide) : Tracked s t :=
    (Guided.of_frame (h.wider hl)).tracked
  cases c
  case powerOn a f =>
    exact ⟨_, rfl, (s.atPowerOn_tracked a f).trans (Guided.trans (.of_frame (State.setChoices_frame _ _).wider)
      (.of_frame (State.setPending_frame _ _).wider)).tracked⟩
  case pinReset => exact ⟨_, rfl, .ite (.refl s) s.assertReset_tracked⟩
  case pinResetRelease => exact ⟨_, rfl, .ite s.releaseReset_tracked (.refl s)⟩
  case linkUp p => exact ⟨_, rfl, within (s.linkUp_frame p)⟩
  case linkDown p => exact ⟨_, rfl, s.linkDown_tracked p⟩
  case receptionEnd p f => exact ⟨_, rfl, s.receptionEnd_tracked p f⟩
  case transmissionEnd p =>
    cases p
    · exact ⟨_, rfl, within (s.endTransmissionA_frame _)⟩
    · exact ⟨_, rfl, s.endTransmissionB_tracked _⟩
  case offerTimerExpiry =>
    obtain e | ⟨a, e⟩ := exec_offerTimerExpiry_cases s
    · exact ⟨_, e, .refl s⟩
    · exact ⟨_, e, (s.offerAgain_guided a).tracked⟩
  case acknowledgeTimerExpiry => exact ⟨_, rfl, .ite s.enterListen_guided.tracked (.refl s)⟩
  case pauseTimerExpiry => exact ⟨_, rfl, .ite s.enterListen_guided.tracked (.refl s)⟩
  case silenceTimerExpiry => exact ⟨_, rfl, .ite s.silenceExpired_tracked (.refl s)⟩
  case noCrossing u =>
    refine ⟨_, rfl, ?_⟩
    split
    · next due =>
      have running := TrackerState.isRunning_of_onBus due.2.1
      refine (Guided.trans (.modTracker_of_eq s rfl rfl rfl) (State.lose_guided ?_ _)).tracked
      rw [State.modTracker_trackers, if_pos rfl]
      exact running
    · exact .refl s
  case handoverTimeout u =>
    obtain e | ⟨h, pending, e⟩ := exec_handoverTimeout_cases s u
    · exact ⟨_, e, .refl s⟩
    · exact ⟨_, e, (State.advanceTimeout_guided pending).tracked⟩
  case holdoverLimit u =>
    refine ⟨_, rfl, ?_⟩
    split
    · next due => exact (State.advanceHoldover_guided due.2.1).tracked
    · exact .refl s
  case engineTake => exact ⟨_, rfl, .ite (.refl s) (within (s.setEngine_frame _))⟩
  case jobCompletion =>
    obtain e | ⟨j, e⟩ := exec_jobCompletion_cases s
    · exact ⟨_, e, .refl s⟩
    · exact ⟨_, e, within (s.complete_frame j)⟩
  case readStatus => exact ⟨_, rfl, serves' serveReadStatus_frame⟩
  case writeChannels => exact ⟨_, rfl, serves' serveWriteChannels_frame⟩
  case writeTap => exact ⟨_, rfl, serves serveWriteTap_tracked⟩
  case readTap => exact ⟨_, rfl, serves' serveReadTap_frame⟩
  case writeGroups => exact ⟨_, rfl, serves' serveWriteGroups_frame⟩
  case writeCorrection => exact ⟨_, rfl, serves' serveWriteCorrection_frame⟩
  case writeTracker => exact ⟨_, rfl, serves serveWriteTracker_tracked⟩
  case handoverStart => exact ⟨_, rfl, serves serveHandoverStart_tracked⟩
  case handoverCancel => exact ⟨_, rfl, serves serveHandoverCancel_tracked⟩
  case setTariff => exact ⟨_, rfl, serves serveSetTariff_tracked⟩
  case setConstant => exact ⟨_, rfl, serves' serveSetConstant_frame⟩
  case readRegisters => exact ⟨_, rfl, serves' serveReadRegisters_frame⟩
  case restore => exact ⟨_, rfl, serves' serveRestore_frame⟩
  case clear => exact ⟨_, rfl, serves' serveClear_frame⟩
  case readRecord => exact ⟨_, rfl, serves' serveReadRecord_frame⟩
  case readSpectrum => exact ⟨_, rfl, serves' serveReadSpectrum_frame⟩
  case setAgreement => exact ⟨_, rfl, serves serveSetAgreement_tracked⟩
  case setStation => exact ⟨_, rfl, serves' serveSetStation_frame⟩
  case reset => exact ⟨_, rfl, serves' serveReset_frame⟩

theorem Tracked.of_exec {c : Instr} {s t : State} (h : exec c s = .next t) : Tracked s t := by
  obtain ⟨t', ht', kept⟩ := exec_tracked s c
  cases ht'.symm.trans h
  exact kept

theorem State.setPending_tracked (l : List Instr) : Tracked s (s.setPending l) :=
  (Guided.of_frame (s.setPending_frame l).wider).tracked

theorem Tracked.trackersSound {s t : State} (h : Tracked s t) (sound : s.TrackersSound) : t.TrackersSound :=
  State.trackersSound_iff.mpr fun u => h.sound u (State.trackersSound_iff.mp sound u)

theorem Tracked.resamplersSound {s t : State} (h : Tracked s t) (sound : s.TrackersSound) (placed : s.ResamplersSound) :
    t.ResamplersSound :=
  State.resamplersSound_iff.mpr fun u =>
    h.resampler u (State.trackersSound_iff.mp sound u) (State.resamplersSound_iff.mp placed u)

/-- Settles O33: every command keeps each tracker sound; the filter clamps, and a change of rate brings all to Lnom. -/
theorem periodsStayInBand : Obligations.PeriodsStayInBand := by
  intro s t sound h
  exact step_keeps (P := State.TrackersSound) (fun s l => (s.setPending_tracked l).trackersSound)
    (fun c s t h => (Tracked.of_exec h).trackersSound) sound h

/-- Settles O39: every command keeps each resampler placed, where it keeps the trackers sound. -/
theorem resamplersStayPlaced : Obligations.ResamplersStayPlaced := by
  intro s t sound placed h
  refine (step_keeps (P := fun s => s.TrackersSound ∧ s.ResamplersSound) (fun s l holds => ?_) (fun c s t h holds => ?_)
    ⟨sound, placed⟩ h).2
  · have kept := s.setPending_tracked l
    exact ⟨kept.trackersSound holds.1, kept.resamplersSound holds.1 holds.2⟩
  · have kept := Tracked.of_exec h
    exact ⟨kept.trackersSound holds.1, kept.resamplersSound holds.1 holds.2⟩

end Sys2Proof.Machine
end


section
/-! SUPPORT. What few commands change. The tariffs of the trackers, which only a tariff step and a power-on write (R97), are
followed through every operation that starts, stops or breaks a tracker; the rest is read off the lawful commands. -/

namespace Sys2Proof.Machine

set_option Elab.async false

open Sys2Proof

/-- From s to t no tracker's tariff changes. -/
def TariffsKept (s t : State) : Prop := ∀ u : TrackerId, t.former.trackers[u].tariff = s.former.trackers[u].tariff

variable {s t m : State}

theorem TariffsKept.refl (s : State) : TariffsKept s s := fun _ => rfl

theorem TariffsKept.trans {u : State} (h : TariffsKept s t) (g : TariffsKept t u) : TariffsKept s u :=
  fun v => (g v).trans (h v)

theorem TariffsKept.ite {p : Prop} [Decidable p] (ht : TariffsKept s t) (hu : TariffsKept s m) :
    TariffsKept s (if p then t else m) := by
  split <;> assumption

theorem TariffsKept.foldl {α : Type} {f : State → α → State} (h : ∀ s x, TariffsKept s (f s x)) :
    ∀ (l : List α) (s : State), TariffsKept s (l.foldl f s)
  | [], s => .refl s
  | x :: l, s => (h s x).trans (TariffsKept.foldl h l (f s x))

theorem TariffsKept.of_frame {l : List Block} (h : SameOutside l s t) (hl : l.contains .former = false := by decide) :
    TariffsKept s t := fun u => by
  rw [show t.former = s.former from h.get .former hl]

theorem TariffsKept.modFormerTracker (s : State) {u : TrackerId} {f : FormerTracker → FormerTracker}
    (kept : ∀ x, (f x).tariff = x.tariff) : TariffsKept s (s.modFormerTracker u f) := fun v => by
  rw [State.modFormerTracker_trackers]
  split
  · exact kept _
  · rfl

theorem TariffsKept.setFormer (s : State) (x : Former) (kept : x.trackers = s.former.trackers) :
    TariffsKept s (s.setFormer x) := fun u => by rw [State.setFormer_former, kept]

theorem TariffsKept.mapFormerTaps (s : State) (f : TapId → FormerTap → FormerTap) : TariffsKept s (s.mapFormerTaps f) :=
  .refl s

theorem TariffsKept.modFormerTap (s : State) (tap : TapId) (f : FormerTap → FormerTap) :
    TariffsKept s (s.modFormerTap tap f) := .refl s

variable (s)

/-! ## The starts, stops and breaks of trackers -/

theorem State.abandonCycle_tariffs (u : TrackerId) (n : Resampler → Nat) (w : TapId → Bool) :
    TariffsKept s (s.abandonCycle u n w) := by
  unfold State.abandonCycle
  split
  · exact .refl s
  · exact .mapFormerTaps s _

theorem State.startResampler_tariffs (u : TrackerId) : TariffsKept s (s.startResampler u) :=
  .trans (t := s.modFormerTracker u fun f => { f with resampler := some (.start s.trackers[u].lfix) })
    (.modFormerTracker s fun _ => rfl) (.mapFormerTaps _ _)

theorem State.discardResampler_tariffs (u : TrackerId) : TariffsKept s (s.discardResampler u) :=
  .modFormerTracker s fun _ => rfl

theorem State.clearBlockIndex_tariffs (u : TrackerId) (b : Bool) : TariffsKept s (s.clearBlockIndex u b) :=
  .modFormerTracker s fun _ => rfl

theorem State.startCycles_tariffs (u : TrackerId) : TariffsKept s (s.startCycles u) :=
  (s.clearBlockIndex_tariffs u true).trans (.mapFormerTaps _ _)

theorem State.removeTariff_tariffs : TariffsKept s s.removeTariff := by
  unfold State.removeTariff
  split
  · exact .refl s
  · exact .ite (.setFormer s _ rfl) (.refl s)

theorem State.applyInactive_tariffs (tap : TapId) (e : TapEntry) : TariffsKept s (s.applyInactive tap e) :=
  (TariffsKept.of_frame (s.applyEntry_frame tap e)).trans (.modFormerTap _ _ _)

theorem State.applyStaged_tariffs (tap : TapId) : TariffsKept s (s.applyStaged tap) := by
  unfold State.applyStaged
  split
  · exact .refl s
  · split
    · exact s.applyInactive_tariffs tap _
    all_goals exact (TariffsKept.of_frame (s.applyEntry_frame tap _)).trans (.modFormerTap _ _ _)

theorem State.closeEntry_tariffs (u : TrackerId) (tariff : Tariff) (tap : TapId) (x : Snapshot) :
    TariffsKept s (s.closeEntry u tariff tap x) :=
  (TariffsKept.modFormerTap s _ _).trans (.of_frame (State.register_frame _ _))

theorem State.stopTap_tariffs (u : TrackerId) (tap : TapId) : TariffsKept s (s.stopTap u tap) := by
  unfold State.stopTap
  split
  · exact .refl s
  all_goals
    dsimp only
    refine .trans (.trans ?_ (.of_frame (State.advanceBlock_frame _ tap))) (.modFormerTap _ _ _)
    exact (TariffsKept.modFormerTap s _ _).trans (State.closeEntry_tariffs _ _ _ _ _)

theorem State.stopCycles_tariffs (w : TrackerId → Bool) : TariffsKept s (s.stopCycles w) := by
  unfold State.stopCycles
  dsimp only
  have closed := TariffsKept.foldl
    (f := fun s' tap => if w (s.tapTracker tap) then s'.stopTap (s.tapTracker tap) tap else s')
    fun s' tap => .ite (s'.stopTap_tariffs _ tap) (.refl s')
  have cleared := TariffsKept.foldl (f := fun s' u => if w u then s'.clearBlockIndex u false else s')
    fun s' u => .ite (s'.clearBlockIndex_tariffs u false) (.refl s')
  have applied := TariffsKept.foldl (f := fun s' tap => if w (s.tapTracker tap) then s'.applyStaged tap else s')
    fun s' tap => .ite (s'.applyStaged_tariffs tap) (.refl s')
  exact ((closed _ s).trans (cleared _ _)).trans (applied _ _)

theorem State.abandonOf_tariffs (u : TrackerId) (n : Resampler → Nat) : TariffsKept s (s.abandonOf u n) := by
  unfold State.abandonOf
  split
  · exact .refl s
  · exact s.abandonCycle_tariffs _ _ _

theorem State.enableAcquiring_tariffs (u : TrackerId) : TariffsKept s (s.enableAcquiring u) := by
  unfold State.enableAcquiring
  dsimp only
  have started := (TariffsKept.of_frame (s.modTracker_frame u fun _ => .fresh .acquiring s.lnom)).trans
    (State.startCycles_tariffs _ u)
  exact .trans (.ite (started.trans (State.startCycles_tariffs _ 1)) started) (State.startResampler_tariffs _ u)

theorem State.enableFollowing_tariffs (u : TrackerId) : TariffsKept s (s.enableFollowing u) :=
  ((TariffsKept.of_frame (s.modTracker_frame u _)).trans (State.clearBlockIndex_tariffs _ u true)).trans
    (.mapFormerTaps _ _)

theorem State.disable_tariffs (u : TrackerId) : TariffsKept s (s.disable u) := by
  unfold State.disable
  dsimp only
  refine .trans (.trans ?_ (State.stopCycles_tariffs _ _)) (State.clearBlockIndex_tariffs _ u true)
  refine .trans (.trans ?_ (.of_frame (State.modTracker_frame _ u _))) (State.discardResampler_tariffs _ u)
  exact (TariffsKept.of_frame (s.cancelHandover_frame u)).trans (State.abandonOf_tariffs _ u _)

theorem State.follow_tariffs (u : TrackerId) : TariffsKept s (s.follow u) := by
  unfold State.follow
  dsimp only
  have followed (w : TapId → Bool) (x : Tracker) (p : TrackerState) :=
    (((s.abandonCycle_tariffs u Resampler.breakSamples w).trans
      (.of_frame (State.modTracker_frame _ u fun _ => x))).trans (State.discardResampler_tariffs _ u)).trans
        (.of_frame (State.trackerNotice_frame _ u p .follow))
  exact .ite ((followed _ _ _).trans (.mapFormerTaps _ _)) ((followed _ _ _).trans (State.stopCycles_tariffs _ _))

theorem State.unfollow_tariffs (u : TrackerId) : TariffsKept s (s.unfollow u) := by
  unfold State.unfollow
  dsimp only
  have left (x : Tracker) (p : TrackerState) :=
    ((s.abandonOf_tariffs u Resampler.samples).trans (.of_frame (State.modTracker_frame _ u fun _ => x))).trans
      (.of_frame (State.trackerNotice_frame _ u p .unfollow))
  refine .trans ?_ (State.startResampler_tariffs _ u)
  exact .ite (left _ _) ((left _ _).trans (State.startCycles_tariffs _ u))

theorem State.trackerTransition_tariffs (u : TrackerId) (x : TrackerSettings) :
    TariffsKept s (s.trackerTransition u x) := by
  unfold State.trackerTransition
  split
  · refine .ite (.ite ?_ (s.enableAcquiring_tariffs u)) (s.clearBlockIndex_tariffs u true)
    exact (s.enableFollowing_tariffs u).trans (State.removeTariff_tariffs _)
  · refine .ite (.ite (s.unfollow_tariffs u) (.refl s)) ?_
    exact (s.disable_tariffs u).trans (State.removeTariff_tariffs _)
  all_goals
    refine .ite (.ite ?_ (.refl s)) ?_
    · exact (s.follow_tariffs u).trans (State.removeTariff_tariffs _)
    · exact (s.disable_tariffs u).trans (State.removeTariff_tariffs _)

theorem State.breakTracker_tariffs (u : TrackerId) : TariffsKept s (s.breakTracker u) := by
  refine .ite (.trans (.trans ?_ (.of_frame (State.modTracker_frame _ u _))) (State.startResampler_tariffs _ u)) (.refl s)
  exact s.abandonCycle_tariffs u _ _

theorem State.breakCycles_tariffs : TariffsKept s s.breakCycles :=
  (s.breakTracker_tariffs 0).trans (State.breakTracker_tariffs _ 1)

theorem State.changeRate_tariffs : TariffsKept s s.changeRate := fun v => by rw [State.changeRate_former]

/-! ## The agreement unit, the resets and the commands -/

theorem State.enterAgreed_tariffs (p : ProfileCode) (n : Option (AgreementOutcome × BitVec 8)) :
    TariffsKept s (s.enterAgreed p n) := by
  obtain ⟨m, frame, -, eq⟩ := s.enterAgreed_eq p n
  rw [eq]
  exact .ite ((TariffsKept.of_frame frame).trans m.changeRate_tariffs) (.of_frame frame)

theorem State.leaveAgreed_tariffs : TariffsKept s s.leaveAgreed :=
  ((TariffsKept.of_frame (s.setLatches_frame _)).trans (State.breakCycles_tariffs _)).trans
    (.of_frame (State.intakeWait_frame _))

theorem State.setAgreementFields_tariffs (m : AgreementMode) (k : BitVec 8) (f : ProfileCode) :
    TariffsKept s (s.setAgreementFields m k f) := by
  unfold State.setAgreementFields
  dsimp only
  have restarted := (TariffsKept.of_frame (s.setAgreement_frame (s.agreement.restart m k f))).trans
    (.of_frame (State.withdrawOffer_frame _))
  have left := TariffsKept.ite (p := s.agreement.state.isAgreed = true)
    (restarted.trans (State.leaveAgreed_tariffs _)) restarted
  cases m
  · exact left.trans (.of_frame (State.enterListen_frame _))
  · exact left.trans (State.enterAgreed_tariffs _ _ _)

theorem State.silenceExpired_tariffs : TariffsKept s s.silenceExpired :=
  (((TariffsKept.of_frame (s.handOver_frame _)).trans (.of_frame (State.setLatches_frame _ _))).trans
    (State.breakCycles_tariffs _)).trans (.of_frame (State.intakeWait_frame _))

theorem State.restartTrackers_tariffs : TariffsKept s s.resetTrackers.advanceAllBlocks := by
  refine .trans (fun u => ?_) (.of_frame (State.advanceAllBlocks_frame _))
  simp [State.resetTrackers, resetFormerTracker, FormerTracker.cleared]

theorem State.requestReset_tariffs : TariffsKept s s.requestReset := by
  have restarted (a : Agreement) : TariffsKept s
      (((s.emptyOut .request).setAgreement a).resetTrackers.advanceAllBlocks) :=
    .trans (t := (s.emptyOut .request).setAgreement a) (.refl s) (State.restartTrackers_tariffs _)
  unfold State.requestReset
  split
  · exact (restarted _).trans (.of_frame (State.enterListen_frame _))
  · exact (restarted _).trans (State.enterAgreed_tariffs _ _ _)

theorem State.releaseReset_tariffs : TariffsKept s s.releaseReset := by
  rw [s.releaseReset_eq]
  refine TariffsKept.trans (t := State.advanceAllBlocks _) ?_ (.of_frame (State.enterListen_frame _))
  exact State.restartTrackers_tariffs (((s.setTables _).setResetLine false).setAgreement _)

theorem State.endTransmissionB_tariffs (e : Ending) : TariffsKept s (s.endTransmissionB e) := by
  have finished : TariffsKept s ((s.setPorts s.ports.finishB).setWire (s.wire.ended .b s.ports.txB e)) := .refl s
  have chosen := finished.trans (.of_frame (State.chooseB_frame _))
  have taken := chosen.trans (.of_frame (State.takeRequest_frame _))
  exact .ite (.refl s) (.ite (.ite (finished.trans (State.requestReset_tariffs _)) taken) chosen)

variable (r : Request)

theorem serveWriteTap_tariffs : TariffsKept s (serveWriteTap s r) := by
  have answered (m : State) (b : Bytes) : TariffsKept m (m.answer r .done b) := .of_frame (m.answer_frame r _ b)
  unfold serveWriteTap
  split
  · exact .of_frame (s.refuse_frame r _)
  · exact .ite ((TariffsKept.of_frame (s.modTapSlot_frame _ _)).trans (answered _ _))
      ((s.applyInactive_tariffs _ _).trans (answered _ _))

theorem serveWriteTracker_tariffs : TariffsKept s (serveWriteTracker s r) := by
  have refused (x : Result) : TariffsKept s (s.refuse r x) := .of_frame (s.refuse_frame r x)
  unfold serveWriteTracker
  split
  · exact refused _
  · exact .ite (refused _) (((TariffsKept.of_frame (s.modSettings_frame _ _)).trans
      (State.trackerTransition_tariffs _ _ _)).trans (.of_frame (State.answer_frame _ r _ _)))

theorem serveHandoverStart_tariffs : TariffsKept s (serveHandoverStart s r) := by
  have refused (x : Result) : TariffsKept s (s.refuse r x) := .of_frame (s.refuse_frame r x)
  unfold serveHandoverStart
  refine .ite (.refl s) (.ite ?_ (refused _))
  split
  · exact .of_frame (s.startHandover_frame r _ _)
  · exact refused _

theorem serveHandoverCancel_tariffs : TariffsKept s (serveHandoverCancel s r) := by
  have refused (x : Result) : TariffsKept s (s.refuse r x) := .of_frame (s.refuse_frame r x)
  unfold serveHandoverCancel
  refine .ite ?_ (.refl s)
  split
  · exact refused _
  · split
    · exact refused _
    · exact (TariffsKept.of_frame (s.dropHandover_frame _ _ _)).trans (.of_frame (State.answer_frame _ r _ _))

theorem serveSetTariff_tariffs : TariffsKept s (serveSetTariff s r) := by
  unfold serveSetTariff
  split
  · exact .of_frame (s.refuse_frame r _)
  · exact (TariffsKept.setFormer s _ (by rfl)).trans (.of_frame (State.answer_frame _ r _ _))

theorem serveSetAgreement_tariffs : TariffsKept s (serveSetAgreement s r) := by
  unfold serveSetAgreement
  split
  · exact .of_frame (s.refuse_frame r _)
  · exact (s.setAgreementFields_tariffs _ _ _).trans (.of_frame (State.answer_frame _ r _ _))

/-- Power-on and a reception end on port A apart, no command changes a tariff. -/
theorem exec_tariffs {c : Instr} (off : ∀ a f, c ≠ .powerOn a f) (quiet : ∀ f, c ≠ .receptionEnd .a f) :
    ∃ t, exec c s = .next t ∧ TariffsKept s t := by
  have serves {k : RequestKind} {f : State → Request → State} (served : ∀ s r, TariffsKept s (f s r)) :
      TariffsKept s (s.serve k f) := State.serve_of (.refl s) fun r _ => served s r
  have serves' {k : RequestKind} {f : State → Request → State} {l : List Block}
      (served : ∀ s r, SameOutside l s (f s r)) (hl : l.contains .former = false := by decide) :
      TariffsKept s (s.serve k f) := serves fun s r => .of_frame (served s r) hl
  cases c
  case powerOn a f => exact absurd rfl (off a f)
  case pinReset => exact ⟨_, rfl, .ite (.refl s) (.refl s)⟩
  case pinResetRelease => exact ⟨_, rfl, .ite s.releaseReset_tariffs (.refl s)⟩
  case linkUp p => exact ⟨_, rfl, .of_frame (s.linkUp_frame p)⟩
  case linkDown p =>
    cases p
    · exact ⟨_, rfl, (TariffsKept.of_frame (s.setPorts_frame _)).trans (.of_frame (State.endTransmissionA_frame _ _))⟩
    · exact ⟨_, rfl, (TariffsKept.of_frame (s.setPorts_frame _)).trans (State.endTransmissionB_tariffs _ _)⟩
  case receptionEnd p f =>
    cases p
    · exact absurd rfl (quiet f)
    · refine ⟨_, rfl, .ite (.refl s) (.ite (.of_frame (s.deliverB_frame _)) (.of_frame (s.setLatches_frame _)))⟩
  case transmissionEnd p =>
    cases p
    · exact ⟨_, rfl, .of_frame (s.endTransmissionA_frame _)⟩
    · exact ⟨_, rfl, s.endTransmissionB_tariffs _⟩
  case offerTimerExpiry =>
    obtain e | ⟨a, e⟩ := exec_offerTimerExpiry_cases s
    · exact ⟨_, e, .refl s⟩
    · exact ⟨_, e, .of_frame (s.offerAgain_frame a)⟩
  case acknowledgeTimerExpiry => exact ⟨_, rfl, .ite (.of_frame s.enterListen_frame) (.refl s)⟩
  case pauseTimerExpiry => exact ⟨_, rfl, .ite (.of_frame s.enterListen_frame) (.refl s)⟩
  case silenceTimerExpiry => exact ⟨_, rfl, .ite s.silenceExpired_tariffs (.refl s)⟩
  case noCrossing u =>
    exact ⟨_, rfl, .ite ((TariffsKept.of_frame (s.modTracker_frame u _)).trans (.of_frame (State.lose_frame _ u _)))
      (.refl s)⟩
  case handoverTimeout u =>
    obtain e | ⟨h, -, e⟩ := exec_handoverTimeout_cases s u
    · exact ⟨_, e, .refl s⟩
    · exact ⟨_, e, .of_frame (s.advanceTimeout_frame u h)⟩
  case holdoverLimit u => exact ⟨_, rfl, .ite (.of_frame (s.advanceHoldover_frame u)) (.refl s)⟩
  case engineTake => exact ⟨_, rfl, .ite (.refl s) (.of_frame (s.setEngine_frame _))⟩
  case jobCompletion =>
    obtain e | ⟨j, e⟩ := exec_jobCompletion_cases s
    · exact ⟨_, e, .refl s⟩
    · exact ⟨_, e, .of_frame (s.complete_frame j)⟩
  case readStatus => exact ⟨_, rfl, serves' serveReadStatus_frame⟩
  case writeChannels => exact ⟨_, rfl, serves' serveWriteChannels_frame⟩
  case writeTap => exact ⟨_, rfl, serves serveWriteTap_tariffs⟩
  case readTap => exact ⟨_, rfl, serves' serveReadTap_frame⟩
  case writeGroups => exact ⟨_, rfl, serves' serveWriteGroups_frame⟩
  case writeCorrection => exact ⟨_, rfl, serves' serveWriteCorrection_frame⟩
  case writeTracker => exact ⟨_, rfl, serves serveWriteTracker_tariffs⟩
  case handoverStart => exact ⟨_, rfl, serves serveHandoverStart_tariffs⟩
  case handoverCancel => exact ⟨_, rfl, serves serveHandoverCancel_tariffs⟩
  case setTariff => exact ⟨_, rfl, serves serveSetTariff_tariffs⟩
  case setConstant => exact ⟨_, rfl, serves' serveSetConstant_frame⟩
  case readRegisters => exact ⟨_, rfl, serves' serveReadRegisters_frame⟩
  case restore => exact ⟨_, rfl, serves' serveRestore_frame⟩
  case clear => exact ⟨_, rfl, serves' serveClear_frame⟩
  case readRecord => exact ⟨_, rfl, serves' serveReadRecord_frame⟩
  case readSpectrum => exact ⟨_, rfl, serves' serveReadSpectrum_frame⟩
  case setAgreement => exact ⟨_, rfl, serves serveSetAgreement_tariffs⟩
  case setStation => exact ⟨_, rfl, serves' serveSetStation_frame⟩
  case reset => exact ⟨_, rfl, serves' serveReset_frame⟩

/-! ## What few commands change -/

/-- From s to t nothing changes but what the command may write, of the blocks that few commands write. -/
structure FewChanged (c : Instr) (s t : State) : Prop where
  straps : t.straps = s.straps
  resetLine : c ≠ .pinReset → c ≠ .pinResetRelease → t.resetLine = s.resetLine
  constant : c ≠ .setConstant → ∀ tap : TapId, t.accounts[tap].constant = s.accounts[tap].constant
  restore : ∀ tap : TapId, t.accounts[tap].restore = s.accounts[tap].restore ∨
    (s.accounts[tap].restore = .opened ∧ t.accounts[tap].restore = .closed ∧ (c = .restore ∨ c = .clear))
  tables : c ≠ .pinResetRelease →
    (c ≠ .writeChannels → t.tables.channels = s.tables.channels) ∧
    (c ≠ .writeGroups → t.tables.groups = s.tables.groups) ∧
    (c ≠ .writeCorrection → c ≠ .jobCompletion → t.tables.corrections = s.tables.corrections) ∧
    (c ≠ .setStation → t.tables.station = s.tables.station)

variable {s}

theorem FewChanged.refl (c : Instr) (s : State) : FewChanged c s s :=
  ⟨rfl, fun _ _ => rfl, fun _ _ => rfl, fun _ => .inl rfl, fun _ => ⟨fun _ => rfl, fun _ => rfl, fun _ _ => rfl, fun _ => rfl⟩⟩

/-- Lawful steps write none of these blocks. -/
theorem FewChanged.andLawful {c : Instr} (h : FewChanged c s m) (g : Lawful m t) : FewChanged c s t := by
  have orderly := g.orderly
  have same (tap : TapId) := (orderly.accounts tap).restore
  refine ⟨orderly.straps.trans h.straps, fun a b => orderly.resetLine.trans (h.resetLine a b),
    fun a tap => (orderly.accounts tap).constant.trans (h.constant a tap), fun tap => ?_, fun a => ?_⟩
  · rw [same tap]
    exact h.restore tap
  · rw [orderly.tables]
    exact h.tables a

theorem FewChanged.setTables {c : Instr} {x : Tables} (h : c ≠ .pinResetRelease →
    (c ≠ .writeChannels → x.channels = s.tables.channels) ∧ (c ≠ .writeGroups → x.groups = s.tables.groups) ∧
    (c ≠ .writeCorrection → c ≠ .jobCompletion → x.corrections = s.tables.corrections) ∧
    (c ≠ .setStation → x.station = s.tables.station)) : FewChanged c s (s.setTables x) :=
  ⟨rfl, fun _ _ => rfl, fun _ _ => rfl, fun _ => .inl rfl, h⟩

theorem FewChanged.modAccount {c : Instr} {tap : TapId} {f : TapAccount → TapAccount}
    (constant : c ≠ .setConstant → (f s.accounts[tap]).constant = s.accounts[tap].constant)
    (restore : (f s.accounts[tap]).restore = s.accounts[tap].restore ∨
      ((f s.accounts[tap]).restore = .closed ∧ (c = .restore ∨ c = .clear))) :
    FewChanged c s (s.modAccount tap f) := by
  refine ⟨rfl, fun _ _ => rfl, fun h other => ?_, fun other => ?_,
    fun _ => ⟨fun _ => rfl, fun _ => rfl, fun _ _ => rfl, fun _ => rfl⟩⟩ <;> rw [State.modAccount_accounts] <;> split
  · next e => exact e ▸ constant h
  · rfl
  · next e =>
    subst e
    obtain same | ⟨closed, command⟩ := restore
    · exact .inl same
    · cases before : s.accounts[tap].restore with
      | opened => exact .inr ⟨rfl, closed, command⟩
      | closed => exact .inl closed
  · exact .inl rfl

theorem exec_fewChanged {c : Instr} (off : ∀ a f, c ≠ .powerOn a f) : ∃ t, exec c s = .next t ∧ FewChanged c s t := by
  cases hw : writesGuarded c with
  | false =>
    obtain ⟨t, ht, h⟩ := exec_lawful s hw
    exact ⟨t, ht, (FewChanged.refl c s).andLawful h⟩
  | true =>
    cases c <;> simp [writesGuarded] at hw
    case powerOn a f => exact absurd rfl (off a f)
    case pinReset =>
      obtain ⟨t, b, ht, h⟩ := exec_pinReset_lawful s
      refine ⟨t, ht, .andLawful ?_ h⟩
      exact ⟨rfl, fun a => absurd rfl a, fun _ _ => rfl, fun _ => .inl rfl,
        fun _ => ⟨fun _ => rfl, fun _ => rfl, fun _ _ => rfl, fun _ => rfl⟩⟩
    case pinResetRelease =>
      obtain ⟨t, x, b, ht, h⟩ := exec_pinResetRelease_lawful s
      refine ⟨t, ht, .andLawful ?_ h⟩
      exact ⟨rfl, fun _ a => absurd rfl a, fun _ _ => rfl, fun _ => .inl rfl, fun a => absurd rfl a⟩
    case jobCompletion =>
      obtain ⟨t, m, x, ht, before, after⟩ := exec_jobCompletion_lawful s
      have first := (FewChanged.refl .jobCompletion s).andLawful before
      refine ⟨t, ht, .andLawful ?_ after⟩
      refine ⟨first.straps, first.resetLine, first.constant, first.restore, fun a => ?_⟩
      obtain ⟨channels, groups, -, station⟩ := first.tables a
      exact ⟨channels, groups, fun _ b => absurd rfl b, station⟩
    case writeChannels =>
      obtain ⟨t, x, ht, h⟩ := exec_writeChannels_lawful s
      refine ⟨t, ht, .andLawful ?_ h⟩
      exact .setTables fun _ => ⟨fun a => absurd rfl a, fun _ => rfl, fun _ _ => rfl, fun _ => rfl⟩
    case writeGroups =>
      obtain ⟨t, x, ht, h⟩ := exec_writeGroups_lawful s
      refine ⟨t, ht, .andLawful ?_ h⟩
      exact .setTables fun _ => ⟨fun _ => rfl, fun a => absurd rfl a, fun _ _ => rfl, fun _ => rfl⟩
    case writeCorrection =>
      obtain ⟨t, x, ht, h⟩ := exec_writeCorrection_lawful s
      refine ⟨t, ht, .andLawful ?_ h⟩
      exact .setTables fun _ => ⟨fun _ => rfl, fun _ => rfl, fun a => absurd rfl a, fun _ => rfl⟩
    case setStation =>
      obtain ⟨t, x, ht, h⟩ := exec_setStation_lawful s
      refine ⟨t, ht, .andLawful ?_ h⟩
      exact .setTables fun _ => ⟨fun _ => rfl, fun _ => rfl, fun _ _ => rfl, fun a => absurd rfl a⟩
    case setConstant =>
      obtain ⟨t, ht, h | ⟨tap, k, -, -, h⟩⟩ := exec_setConstant_lawful s
      · exact ⟨t, ht, (FewChanged.refl _ s).andLawful h⟩
      · refine ⟨t, ht, .andLawful (.modAccount (fun a => absurd rfl a) (.inl ?_)) h⟩
        rw [TapAccount.setConstant]
    case restore =>
      obtain ⟨t, ht, h | ⟨tap, saved, -, h⟩⟩ := exec_restore_lawful s
      · exact ⟨t, ht, (FewChanged.refl _ s).andLawful h⟩
      · refine ⟨t, ht, .andLawful (.modAccount (fun _ => TapAccount.restoreFrom_constant ..) (.inr ⟨?_, .inl rfl⟩)) h⟩
        rw [TapAccount.restoreFrom]
    case clear =>
      obtain ⟨t, ht, h | ⟨tap, h⟩⟩ := exec_clear_lawful s
      · exact ⟨t, ht, (FewChanged.refl _ s).andLawful h⟩
      · refine ⟨t, ht, .andLawful (.modAccount (fun _ => ?_) (.inr ⟨?_, .inr rfl⟩)) h⟩ <;> rw [TapAccount.clearRegisters]

/-- Settles O3: what the lawful commands keep, and what the others write. -/
theorem whatFewCommandsChange : Obligations.WhatFewCommandsChange := by
  intro c s t ht off
  obtain ⟨m, hm, few⟩ := exec_fewChanged (s := s) off
  cases hm.symm.trans ht
  refine ⟨few.straps, few.resetLine, fun quiet => ?_, few.constant, few.restore, few.tables⟩
  obtain ⟨m, hm, kept⟩ := exec_tariffs s off quiet
  cases hm.symm.trans ht
  exact kept

end Sys2Proof.Machine
end


section
/-! SUPPORT. The interface of the machine: a step, power-on, and the events that are not due. -/

namespace Sys2Proof.Machine

set_option Elab.async false

open Sys2Proof

/-- Settles O1. -/
theorem stepRunsTheFrontCommand : Obligations.StepRunsTheFrontCommand := fun _ _ _ => rfl

/-- Settles O60: the laws of power-on, which no step breaks. -/
theorem lawsHoldAtReset : Obligations.LawsHoldAtReset :=
  ⟨State.atPowerOn_withinCapacity _ _, State.atPowerOn_registersInRange _ _, State.atPowerOn_blocksCounted _ _,
    State.trackersSound_iff.mpr (State.atPowerOn_sound _ _),
    State.resamplersSound_iff.mpr (State.atPowerOn_resamplerSound _ _), fun _ => rfl⟩

/-! ## Power-on -/

section
variable (a : BitVec 6) (f : NominalFrequency)

theorem State.atPowerOn_tracker (u : TrackerId) : (State.atPowerOn a f).trackers[u] =
    .fresh (if u = 0 then .acquiring else .idle) (nominalPeriod f 0) := by
  revert u
  exact Fin.forall_fin_two.mpr ⟨rfl, rfl⟩

theorem State.atPowerOn_formerTracker (u : TrackerId) : (State.atPowerOn a f).former.trackers[u] =
    .cleared (if u = 0 then some (.start (nominalPeriod f 0)) else none) .default 0 := by
  revert u
  exact Fin.forall_fin_two.mpr ⟨rfl, rfl⟩

theorem State.atPowerOn_settings (u : TrackerId) : (State.atPowerOn a f).tables.settings[u] =
    .default (decide (u = 0)) := by
  revert u
  exact Fin.forall_fin_two.mpr ⟨rfl, rfl⟩

theorem nominalPeriod_zero : nominalPeriod f 0 = 6400 * 65536 / hertz f := by
  unfold nominalPeriod
  congr

theorem Marks.ofState_atPowerOn (u : TrackerId) :
    Marks.ofState (if u = 0 then .acquiring else .idle) = ⟨decide (u = 0), false, false, false, false⟩ := by
  split
  · next h => rw [h]; rfl
  · next h => rw [decide_eq_false h]; rfl

end

theorem Latches.bits_cleared : Latches.cleared.bits = 0 := by decide

/-- Settles O7: each block's reset table, read off the state at power-on. -/
theorem powerOnValues : Obligations.PowerOnValues := by
  intro a f s
  refine ⟨_, rfl, rfl, rfl, rfl, rfl, Latches.bits_cleared, rfl, ?channels, ?groups, ?corrections, ?taps, ?settings, rfl, ?current, rfl, rfl,
    rfl, rfl, ?trackers, ?former, ?collect, rfl, rfl, rfl, ?accounts, rfl, rfl, ?limits, rfl⟩
  case channels => intro c; simp [State.atPowerOn, Tables.default, ChannelEntry.default]
  case groups => intro k; simp [State.atPowerOn, Tables.default, GroupEntry.default]
  case corrections => intro x k; simp [State.atPowerOn, Tables.default, CorrectionEntry.default]
  case taps => intro tap; simp [State.atPowerOn, Tables.default, TapEntry.default]; rfl
  case settings => exact State.atPowerOn_settings a f
  case current => intro c; simp [State.atPowerOn, Intake.cleared]
  case trackers =>
    intro u
    rw [← nominalPeriod_zero, ← Marks.ofState_atPowerOn]
    exact State.atPowerOn_tracker a f u
  case former =>
    intro u
    rw [← nominalPeriod_zero]
    exact State.atPowerOn_formerTracker a f u
  case collect => intro tap; simp [State.atPowerOn]; rfl
  case accounts =>
    intro tap
    have account : (((State.atPowerOn a f).setChoices s.choices).setPending s.pending).accounts[tap] = .initial :=
      State.atPowerOn_accounts a f tap
    rw [account]
    exact ⟨TapAccount.initial_registers, rfl, rfl, rfl, rfl, rfl, rfl, rfl⟩
  case limits =>
    intro tap k
    cases k <;> simp [State.atPowerOn, Records.cleared, TapLimits.get, LimitState.normal]

end Sys2Proof.Machine
end


section
/-! SUPPORT. The events that are not due, and the asserted reset line (notes/assumptions/2.md, 3.md, 6.md and 7.md). -/

namespace Sys2Proof.Machine

set_option Elab.async false

open Sys2Proof

variable {s : State}

theorem next_congr {s t : State} (h : s = t) : (Host.Outcome.next s : StepResult) = .next t := by rw [h]

/-! ## Requests that are not in service -/

theorem State.serve_of_asserted (h : s.resetLine = true) (k : RequestKind) (f : State → Request → State) :
    s.serve k f = s := if_pos h

theorem State.serve_of_not_serving {k : RequestKind} (h : ∀ r, ¬Serving s k r) (f : State → Request → State) :
    s.serve k f = s := by
  obtain same | ⟨r, serving, -⟩ := s.serve_cases k f
  · exact same
  · exact absurd serving (h r)

/-- A request row serves the requests of its kind. -/
theorem exec_requestKindOf {c : Instr} {k : RequestKind} (h : requestKindOf c = some k) :
    ∃ f : State → Request → State, ∀ s, exec c s = .next (s.serve k f) := by
  cases c <;> simp only [requestKindOf, Option.some.injEq, reduceCtorEq] at h <;> subst h <;> exact ⟨_, fun _ => rfl⟩

/-! ## The asserted reset line (R16, R170) -/

theorem State.linkUp_a (s : State) :
    s.linkUp .a = if s.ports.linkA = .up then s else (s.setPorts { s.ports with linkA := .up }).chooseA := rfl

theorem State.linkUp_b (s : State) :
    s.linkUp .b = if s.ports.linkB = .up then s else (s.setPorts { s.ports with linkB := .up }).chooseB := rfl

section
variable (h : s.resetLine = true)
include h

theorem State.chooseA_of_asserted : s.chooseA = s := if_pos h

theorem State.chooseB_of_asserted : s.chooseB = s := if_pos h

theorem State.linkUp_of_asserted (p : Port) : s.linkUp p = s.setPorts (s.ports.withLink p .up) := by
  cases p
  · rw [State.linkUp_a]
    split
    · next up => rw [Ports.withLink, ← up]; rfl
    · exact State.chooseA_of_asserted (s := s.setPorts _) h
  · rw [State.linkUp_b]
    split
    · next up => rw [Ports.withLink, ← up]; rfl
    · exact State.chooseB_of_asserted (s := s.setPorts _) h

theorem State.linkDown_of_asserted (p : Port) : s.linkDown p = s.setPorts (s.ports.withLink p .down) := by
  cases p <;> exact if_pos (.inl h)

theorem exec_of_asserted {c : Instr} (power : ∀ a f, c ≠ .powerOn a f) (release : c ≠ .pinResetRelease)
    (up : ∀ p, c ≠ .linkUp p) (down : ∀ p, c ≠ .linkDown p) : exec c s = .next s := by
  cases kind : requestKindOf c with
  | some k =>
    obtain ⟨f, exec_eq⟩ := exec_requestKindOf kind
    rw [exec_eq, State.serve_of_asserted h]
  | none =>
    have stays {p : Prop} [Decidable p] {t : State} (hp : p → s.resetLine = false) : (if p then t else s) = s :=
      if_neg fun x => absurd ((hp x).symm.trans h) (by decide)
    cases c <;> simp only [requestKindOf, reduceCtorEq] at kind
    case powerOn a f => exact absurd rfl (power a f)
    case pinReset => exact next_congr (if_pos h)
    case pinResetRelease => exact absurd rfl release
    case linkUp p => exact absurd rfl (up p)
    case linkDown p => exact absurd rfl (down p)
    case receptionEnd p f => exact next_congr (if_pos (.inl h))
    case transmissionEnd p => cases p <;> exact next_congr (if_pos (.inl h))
    case offerTimerExpiry => exact if_pos (.inl h)
    case acknowledgeTimerExpiry => exact next_congr (stays fun x => x.1)
    case pauseTimerExpiry => exact next_congr (stays fun x => x.1)
    case silenceTimerExpiry => exact next_congr (stays fun x => x.1)
    case noCrossing u => exact next_congr (stays fun x => x.1)
    case handoverTimeout u =>
      unfold exec execHandoverTimeout
      dsimp only
      split
      · rfl
      · exact next_congr (stays fun x => x.1)
    case holdoverLimit u => exact next_congr (stays fun x => x.1)
    case engineTake => exact next_congr (if_pos h)
    case jobCompletion =>
      unfold exec execJobCompletion
      dsimp only
      split
      · rfl
      · exact next_congr (if_pos h)

end

/-- Settles O4: an asserted line keeps every event off but those that change the line or a link. -/
theorem assertedResetHoldsThePart : Obligations.AssertedResetHoldsThePart := fun _ h =>
  ⟨fun p => next_congr (State.linkUp_of_asserted h p), fun p => next_congr (State.linkDown_of_asserted h p),
    fun _ power release up down => exec_of_asserted h power release up down⟩

/-! ## Counts, takes and transmissions that are not due -/

theorem ageReached_false {lnom age : Nat} (h : (age + 1) * 65536 < 2 * lnom) : ageReached lnom (satAdd 65535 age 1) = false := by
  have counted : satAdd 65535 age 1 ≤ age + 1 := Nat.min_le_right _ _
  rw [ageReached, decide_eq_false_iff_not]
  omega

theorem Engine.take_of_waiting {e : Engine} (h : e.flight.isSome ∨ e.queue = []) : e.take = e := by
  unfold Engine.take
  split
  · next idle waiting => simp [idle, waiting] at h
  · rfl

/-- Settles O5: each row's own guard. -/
theorem eventsNotDue : Obligations.EventsNotDue := by
  intro s
  refine ⟨?empty, ?request, ?offer, ?ack, ?pause, ?silence, ?age, ?offBus, ?noHandover, ?timeout, ?holdoverCount,
    ?notHoldover, ?action, ?take, ?completion, ?endA, ?endB, ?link, ?asserted, ?released⟩
  case empty =>
    intro h
    rw [step, h]
  case request =>
    intro c k kind idle
    obtain ⟨f, exec_eq⟩ := exec_requestKindOf kind
    rw [exec_eq, State.serve_of_not_serving idle]
  case offer => exact fun h => if_pos (.inr h)
  case ack => exact fun h => next_congr (if_neg fun due => due.2.1 h)
  case pause => exact fun h => next_congr (if_neg fun due => due.2.1 h)
  case silence => exact fun h => next_congr (if_neg fun due => due.2.1 h)
  case age =>
    intro u h
    refine next_congr (if_neg fun due => ?_)
    have reached := due.2.2
    rw [ageReached_false h] at reached
    exact absurd reached (by decide)
  case offBus =>
    intro u acquiring locked
    refine next_congr (if_neg fun due => ?_)
    have onBus := due.2.1
    cases state : s.trackers[u].state <;> simp_all [TrackerState.onBus]
  case noHandover =>
    intro u h
    unfold exec execHandoverTimeout
    dsimp only
    rw [h]
  case timeout =>
    intro u h pending early
    unfold exec execHandoverTimeout
    dsimp only
    rw [pending]
    refine next_congr (if_neg fun due => ?_)
    obtain ⟨-, unlocked, reached⟩ := due
    obtain locked | count := early
    · exact absurd (unlocked.symm.trans locked) (by decide)
    · unfold Config.handoverTimeoutCount at reached
      omega
  case holdoverCount => exact fun u h => next_congr (if_neg fun due => absurd due.2.2 (by omega))
  case notHoldover => exact fun u h => next_congr (if_neg fun due => h due.2.1)
  case action =>
    intro r serving
    refine ⟨fun cancel => ?_, fun other => ?_⟩
    · refine next_congr ((State.serve_of_serving s serving).trans ?_)
      exact if_pos cancel
    · refine next_congr ((State.serve_of_serving s serving).trans ?_)
      exact if_neg other
  case take =>
    intro h
    refine next_congr ?_
    split
    · rfl
    · rw [Engine.take_of_waiting h]
      rfl
  case completion =>
    intro h
    unfold exec execJobCompletion
    dsimp only
    rw [h]
  case endA => exact fun h => next_congr (if_pos (.inr h))
  case endB => exact fun h => next_congr (if_pos (.inr h))
  case link => intro p h; cases p <;> exact next_congr (if_pos h)
  case asserted => exact fun h => next_congr (if_pos h)
  case released => exact fun h => next_congr (if_neg (by rw [h]; decide))

/-! ## Receptions (R1, R2) -/

theorem frameGood_iff (f : RxFrame) :
    frameGood f = true ↔ f.fcsGood = true ∧ 64 ≤ f.bytes.length ∧ f.bytes.length ≤ 1522 := by
  simp only [frameGood, Bool.and_eq_true, decide_eq_true_eq, and_assoc]
  rfl

theorem State.receptionEnd_of_down {p : Port} (h : s.ports.link p = .down) (f : RxFrame) : s.receptionEnd p f = s :=
  if_pos (.inr h)

/-- Where a reception counts, a bad frame sets BAD_CHECK and a good one is delivered. -/
theorem State.receptionEnd_of_bad {p : Port} (running : s.resetLine = false) (up : s.ports.link p = .up) {f : RxFrame}
    (bad : frameGood f = false) : s.receptionEnd p f = s.setLatches { s.latches with badCheck := true } := by
  unfold State.receptionEnd
  rw [if_neg (by simp [running, up]), if_neg (by simp [bad])]

theorem Arrives.good {p : Port} {f : RxFrame} (h : Arrives s p f) : frameGood f = true :=
  (frameGood_iff f).mpr ⟨h.fcs, h.long, h.short⟩

theorem State.receptionEnd_a {f : RxFrame} (h : Arrives s .a f) : s.receptionEnd .a f = s.deliverA f.bytes := by
  rw [State.receptionEnd, if_neg (by simp [h.running, h.up]), if_pos h.good]

theorem State.receptionEnd_b {f : RxFrame} (h : Arrives s .b f) : s.receptionEnd .b f = s.deliverB f.bytes := by
  rw [State.receptionEnd, if_neg (by simp [h.running, h.up]), if_pos h.good]

/-- Settles O17. -/
theorem badFramesDiscarded : Obligations.BadFramesDiscarded := by
  intro s port f running
  refine ⟨fun up bad => next_congr (State.receptionEnd_of_bad running up ?_),
    fun down => next_congr (State.receptionEnd_of_down down f), by cases port <;> rfl⟩
  rw [Bool.eq_false_iff, Ne, frameGood_iff]
  rintro ⟨good, long, short⟩
  obtain fcs | length | length := bad
  · exact absurd (fcs.symm.trans good) (by decide)
  · omega
  · omega

end Sys2Proof.Machine
end


section
/-! SUPPORT. The ports (chapter 1): what each transmit choice starts, the end and the loss of a transmission, and a link
established or lost. -/

namespace Sys2Proof.Machine

set_option Elab.async false

open Sys2Proof

/-! ## The choices, by what waits (R11, R13, R14) -/

section
variable {p : Ports} (station : BitVec 6)

theorem Ports.freeA_iff : p.freeA = true ↔ p.linkA = .up ∧ p.txA = none := by
  simp [Ports.freeA]

theorem Ports.freeB_iff : p.freeB = true ↔ p.linkB = .up ∧ p.txB = none := by
  simp [Ports.freeB]

theorem Ports.chooseA_offers (free : p.freeA = true) {o : Offer} (waits : p.offer = .waiting o) :
    p.chooseA station =
      { p with offer := .sending o, txA := some (.own .offer (ownFrame station broadcast .offer o.encode)) } := by
  rw [Ports.chooseA, if_pos free, waits]

theorem Ports.chooseA_relays (free : p.freeA = true) {f : Bytes} {rest : List Bytes} (offer : p.offer = .empty)
    (queue : p.relayQueue = f :: rest) : p.chooseA station = { p with txA := some (.passed .relay f) } := by
  rw [Ports.chooseA, if_pos free, offer, queue]

theorem Ports.chooseA_nothing (offer : p.offer = .empty) (queue : p.relayQueue = []) : p.chooseA station = p := by
  unfold Ports.chooseA
  rw [offer, queue]
  split <;> rfl

theorem Ports.chooseB_passes (free : p.freeB = true) {f : Bytes} {rest : List Bytes} (queue : p.forwardQueue = f :: rest)
    (turn : p.ownItem station = none ∨ p.turn = .pass) :
    p.chooseB station = { p with txB := some (.passed .forward f), turn := .own } := by
  rw [Ports.chooseB, if_pos free, Ports.passItem, queue]
  cases own : p.ownItem station with
  | none => rfl
  | some y =>
    obtain none | pass := turn
    · rw [own] at none
      exact absurd none nofun
    · simp only [pass]

theorem Ports.chooseB_sends (free : p.freeB = true) {y : Transmission} (own : p.ownItem station = some y)
    (turn : p.forwardQueue = [] ∨ p.turn = .own) : p.chooseB station = { p with txB := some y, turn := .pass } := by
  rw [Ports.chooseB, if_pos free, Ports.passItem, own]
  cases queue : p.forwardQueue with
  | nil => rfl
  | cons f rest =>
    obtain empty | turn := turn
    · rw [queue] at empty
      exact absurd empty nofun
    · simp only [turn]

theorem Ports.chooseB_nothing (own : p.ownItem station = none) (queue : p.forwardQueue = []) : p.chooseB station = p := by
  rw [Ports.chooseB, Ports.passItem, own, queue]
  split <;> rfl

theorem Ports.nextReport_eq_none : p.nextReport = none ↔ p.reportSlots[0] = none ∧ p.reportSlots[1] = none := by
  unfold Ports.nextReport
  split <;> simp_all

/-- The own class is empty where no answer, notice or report waits. -/
theorem Ports.ownItem_eq_none : p.ownItem station = none ↔
    p.answerSlot = none ∧ p.noticeQueue = [] ∧ p.reportSlots[0] = none ∧ p.reportSlots[1] = none := by
  rw [← Ports.nextReport_eq_none]
  unfold Ports.ownItem
  split <;> simp_all

theorem Ports.ownItem_of_answer {a : Answer} (slot : p.answerSlot = some a) :
    p.ownItem station = some (.own .answer (ownFrame station a.dest .answer a.encode)) := by
  rw [Ports.ownItem, slot]

theorem Ports.ownItem_of_notice {n : Notice} {rest : List Notice} (slot : p.answerSlot = none)
    (queue : p.noticeQueue = n :: rest) :
    p.ownItem station = some (.own .notice (ownFrame station n.dest .notice n.body.encode)) := by
  rw [Ports.ownItem, slot, queue]

theorem Ports.ownItem_of_report {k : Fin 2} {r : Report} (slot : p.answerSlot = none) (queue : p.noticeQueue = [])
    (next : p.nextReport = some (k, r)) :
    p.ownItem station = some (.own (.report k) (ownFrame station r.dest .blockReport r.encode)) := by
  rw [Ports.ownItem, slot, queue, next]

end

variable {s : State}

theorem State.chooseA_of_running (h : s.resetLine = false) : s.chooseA = s.setPorts (s.ports.chooseA s.straps.station) :=
  if_neg (by simp [h])

theorem State.chooseB_of_running (h : s.resetLine = false) : s.chooseB = s.setPorts (s.ports.chooseB s.straps.station) :=
  if_neg (by simp [h])

/-! ## A link established (R2, R11) -/

theorem State.linkUp_a_of_down (h : s.ports.linkA = .down) :
    s.linkUp .a = (s.setPorts { s.ports with linkA := .up }).chooseA := by
  rw [State.linkUp_a, if_neg (by simp [h])]

theorem State.linkUp_b_of_down (h : s.ports.linkB = .down) :
    s.linkUp .b = (s.setPorts { s.ports with linkB := .up }).chooseB := by
  rw [State.linkUp_b, if_neg (by simp [h])]

/-- Settles O12: the port is UP and makes its choice. -/
theorem linkEstablished : Obligations.LinkEstablished := by
  refine ⟨fun s down => ?portA, fun s down => ?portB⟩
  case portA =>
    let p : Ports := { s.ports with linkA := .up }
    have ports := (s.setPorts p).chooseA_ports
    refine ⟨(s.setPorts p).chooseA, next_congr (State.linkUp_a_of_down down), s.linkUp_a_of_down down ▸ s.linkUp_frame .a,
      ?_, ?_, ?_, ?_, ?_, ?_, ?_, ?_, ?_, fun running => ?_, fun running idle => ?_⟩
    iterate 9 rw [ports]; rfl
    · rw [State.chooseA_of_running (s := s.setPorts p) running]
      rfl
    · have free : p.freeA = true := Ports.freeA_iff.mpr ⟨rfl, idle⟩
      rw [State.chooseA_of_running (s := s.setPorts p) running]
      refine ⟨fun o waits => ?_, fun f rest empty queue => ?_, fun empty queue => ?_⟩
      · exact ⟨congrArg Ports.offer (Ports.chooseA_offers (p := p) _ free waits),
          congrArg (fun q => q.txA.map (·.source)) (Ports.chooseA_offers (p := p) _ free waits)⟩
      · have relays := Ports.chooseA_relays (p := p) s.straps.station free empty queue
        exact ⟨(congrArg Ports.offer relays).trans empty, congrArg Ports.txA relays⟩
      · have nothing := Ports.chooseA_nothing (p := p) s.straps.station empty queue
        exact ⟨(congrArg Ports.offer nothing).trans empty, (congrArg Ports.txA nothing).trans idle⟩
  case portB =>
    let p : Ports := { s.ports with linkB := .up }
    have ports := (s.setPorts p).chooseB_ports
    refine ⟨(s.setPorts p).chooseB, next_congr (State.linkUp_b_of_down down), s.linkUp_b_of_down down ▸ s.linkUp_frame .b,
      ?_, ?_, ?_, ?_, ?_, ?_, ?_, ?_, ?_, fun running => ?_, fun running idle => ?_⟩
    iterate 9 rw [ports]; rfl
    · rw [State.chooseB_of_running (s := s.setPorts p) running]
      rfl
    · have free : p.freeB = true := Ports.freeB_iff.mpr ⟨rfl, idle⟩
      rw [State.chooseB_of_running (s := s.setPorts p) running]
      refine ⟨fun f rest queue slot notices reports => ?_, fun a queue slot => ?_⟩
      · have own : p.ownItem s.straps.station = none :=
          (Ports.ownItem_eq_none _).mpr ⟨slot, notices, by simp [p, reports], by simp [p, reports]⟩
        have passes := Ports.chooseB_passes (p := p) s.straps.station free queue (.inl own)
        exact ⟨congrArg Ports.turn passes, congrArg Ports.txB passes⟩
      · have sends := Ports.chooseB_sends (p := p) s.straps.station free (Ports.ownItem_of_answer _ slot) (.inl queue)
        exact ⟨congrArg Ports.turn sends, congrArg (fun q => q.txB.map (·.source)) sends⟩

/-! ## The end of a transmission (R3, R15) -/

section
variable {p : Ports}

/-- What the end of port A's transmission keeps. -/
theorem Ports.finishA_eq : p.finishA = { p with
    txA := none, offer := p.finishA.offer, relayQueue := p.finishA.relayQueue } := by
  unfold Ports.finishA
  split
  · next h => rw [← h]
  · split <;> rfl

/-- What the end of port B's transmission keeps. -/
theorem Ports.finishB_eq : p.finishB = { p with
    txB := none, answerSlot := p.finishB.answerSlot, noticeQueue := p.finishB.noticeQueue
    reportSlots := p.finishB.reportSlots, forwardQueue := p.finishB.forwardQueue } := by
  unfold Ports.finishB
  split
  · next h => rw [← h]
  · split <;> rfl

theorem Ports.finishA_idle (h : p.txA = none) : p.finishA = p := by
  rw [Ports.finishA, h]

theorem Ports.finishB_idle (h : p.txB = none) : p.finishB = p := by
  rw [Ports.finishB, h]

variable {x : Transmission}

theorem Ports.finishA_relay (h : p.txA = some x) (source : x.source = .relay) :
    p.finishA = { p with txA := none, relayQueue := p.relayQueue.tail } := by
  simp only [Ports.finishA, h, source]

theorem Ports.finishA_offer (h : p.txA = some x) (source : x.source = .offer) :
    p.finishA = { p with txA := none, offer := p.offer.finish } := by
  simp only [Ports.finishA, h, source]

theorem Ports.finishB_answer (h : p.txB = some x) (source : x.source = .answer) :
    p.finishB = { p with txB := none, answerSlot := none } := by
  simp only [Ports.finishB, h, source]

theorem Ports.finishB_notice (h : p.txB = some x) (source : x.source = .notice) :
    p.finishB = { p with txB := none, noticeQueue := p.noticeQueue.tail } := by
  simp only [Ports.finishB, h, source]

theorem Ports.finishB_report {k : Fin 2} (h : p.txB = some x) (source : x.source = .report k) :
    p.finishB = { p with txB := none, reportSlots := upd p.reportSlots k none } := by
  simp only [Ports.finishB, h, source]

theorem Ports.finishB_forward (h : p.txB = some x) (source : x.source = .forward) :
    p.finishB = { p with txB := none, forwardQueue := p.forwardQueue.tail } := by
  simp only [Ports.finishB, h, source]

/-- Only an answer leaves the answer slot, and only a notice the notice queue. -/
theorem Ports.finishB_answerSlot (h : p.txB = some x) (source : x.source ≠ .answer) :
    p.finishB.answerSlot = p.answerSlot := by
  cases e : x.source with
  | answer => exact absurd e source
  | notice => rw [Ports.finishB_notice h e]
  | report k => rw [Ports.finishB_report h e]
  | _ => simp only [Ports.finishB, h, e]

/-- The other report slot stays. -/
theorem Ports.finishB_reportSlots {k : Fin 2} (h : p.txB = some x) (source : x.source = .report k) :
    p.finishB.reportSlots[k] = none ∧ p.finishB.reportSlots[1 - k] = p.reportSlots[1 - k] := by
  rw [Ports.finishB_report h source]
  have other : ∀ k : Fin 2, k ≠ 1 - k := by decide
  exact ⟨by rw [getElem_upd, if_pos rfl], by rw [getElem_upd, if_neg (other k)]⟩

end

theorem Wire.ended_endedAs_a (w : Wire) (x : Option Transmission) (e : Ending) :
    w.ended .a x e = { w with a := endedAs x e w.a } := by
  cases x <;> rfl

theorem Wire.ended_endedAs_b (w : Wire) (x : Option Transmission) (e : Ending) :
    w.ended .b x e = { w with b := endedAs x e w.b } := by
  cases x <;> rfl

/-- The end of a transmission on port A, where one is in progress. -/
theorem State.endTransmissionA_of_sending (running : s.resetLine = false) {x : Transmission} (h : s.ports.txA = some x)
    (e : Ending) : s.endTransmissionA e =
      (s.setPorts (s.ports.finishA.chooseA s.straps.station)).setWire { s.wire with a := some ⟨x, e⟩ } := by
  rw [State.endTransmissionA, if_neg (by simp [running, h]), State.chooseA_of_running (by simp [running]), h]
  rfl

theorem State.endTransmissionA_of_idle (h : s.ports.txA = none) (e : Ending) : s.endTransmissionA e = s :=
  if_pos (.inr h)

theorem State.endTransmissionB_of_idle (h : s.ports.txB = none) (e : Ending) : s.endTransmissionB e = s :=
  if_pos (.inr h)

/-- The end of a transmission on port B that is not an answer's. -/
theorem State.endTransmissionB_of_sending (running : s.resetLine = false) {x : Transmission} (h : s.ports.txB = some x)
    (source : x.source ≠ .answer) (e : Ending) : s.endTransmissionB e =
      (s.setPorts (s.ports.finishB.chooseB s.straps.station)).setWire { s.wire with b := some ⟨x, e⟩ } := by
  have other : s.ports.sendsAnswer = false := by
    rw [Ports.sendsAnswer, h]
    exact decide_eq_false source
  rw [State.endTransmissionB, if_neg (by simp [running, h]), if_neg (by simp [other]),
    State.chooseB_of_running (by simp [running]), h]
  rfl

/-! ## A link lost (R2, R3, R12) -/

theorem State.linkDown_a (s : State) :
    s.linkDown .a = (s.setPorts { s.ports with linkA := .down }).endTransmissionA .cutOff := rfl

theorem State.linkDown_b (s : State) :
    s.linkDown .b = (s.setPorts { s.ports with linkB := .down }).endTransmissionB .cutOff := rfl

theorem Ports.finishA_linkDown (p : Ports) :
    Ports.finishA { p with linkA := .down } = { p.finishA with linkA := .down } := by
  simp only [Ports.finishA]
  split
  · rfl
  · split <;> rfl

/-- The loss of port A's link: what was in transmission has ended, and nothing starts. -/
theorem State.linkDown_a_eq (running : s.resetLine = false) : s.linkDown .a =
    (s.setPorts { s.ports.finishA with linkA := .down }).setWire
      { s.wire with a := endedAs s.ports.txA .cutOff s.wire.a } := by
  let p : Ports := { s.ports with linkA := .down }
  rw [State.linkDown_a, ← Ports.finishA_linkDown]
  change _ = (s.setPorts p.finishA).setWire { s.wire with a := endedAs s.ports.txA .cutOff s.wire.a }
  cases h : s.ports.txA with
  | none =>
    rw [State.endTransmissionA_of_idle (s := s.setPorts p) h, Ports.finishA_idle (p := p) h]
    rfl
  | some x =>
    rw [State.endTransmissionA_of_sending (s := s.setPorts p) running h, State.setPorts_ports, Ports.chooseA_busy]
    · rfl
    · rw [Ports.finishA_linkDown]
      rfl

theorem Ports.finishB_linkDown (p : Ports) :
    Ports.finishB { p with linkB := .down } = { p.finishB with linkB := .down } := by
  simp only [Ports.finishB]
  split
  · rfl
  · split <;> rfl

/-- The loss of port B's link, with no answer in transmission. -/
theorem State.linkDown_b_eq (running : s.resetLine = false) (source : ∀ x, s.ports.txB = some x → x.source ≠ .answer) :
    s.linkDown .b = (s.setPorts { s.ports.finishB with linkB := .down }).setWire
      { s.wire with b := endedAs s.ports.txB .cutOff s.wire.b } := by
  let p : Ports := { s.ports with linkB := .down }
  rw [State.linkDown_b, ← Ports.finishB_linkDown]
  change _ = (s.setPorts p.finishB).setWire { s.wire with b := endedAs s.ports.txB .cutOff s.wire.b }
  cases h : s.ports.txB with
  | none =>
    rw [State.endTransmissionB_of_idle (s := s.setPorts p) h, Ports.finishB_idle (p := p) h]
    rfl
  | some x =>
    rw [State.endTransmissionB_of_sending (s := s.setPorts p) running h (source x h), State.setPorts_ports, Ports.chooseB_busy]
    · rfl
    · rw [Ports.finishB_linkDown]
      rfl

/-- Settles O13: the transmission in progress has ended, and its item is removed. -/
theorem linkLost : Obligations.LinkLost := by
  refine ⟨fun s running => ?portA, fun s running source => ?portB⟩
  case portA =>
    refine ⟨_, next_congr (State.linkDown_a_eq running), ?_, rfl, ?_⟩
    · exact (s.setPorts_frame _).andThen (State.setWire_frame _ _)
    · have kept := s.ports.finishA_eq
      refine ⟨(congrArg Ports.linkB kept :), (congrArg Ports.txA kept :), (congrArg Ports.txB kept :), (congrArg Ports.forwardQueue kept :),
        (congrArg Ports.answerSlot kept :), (congrArg Ports.noticeQueue kept :), (congrArg Ports.reportSlots kept :),
        (congrArg Ports.turn kept :), (congrArg Ports.firstReport kept :), rfl, fun idle => ?_, fun x sending source => ?_,
        fun x o sending source => ?_⟩
      · exact ⟨(congrArg Ports.relayQueue (Ports.finishA_idle idle) :), (congrArg Ports.offer (Ports.finishA_idle idle) :)⟩
      · have finished := Ports.finishA_relay sending source
        exact ⟨(congrArg Ports.relayQueue finished :), (congrArg Ports.offer finished :)⟩
      · have finished := Ports.finishA_offer sending source
        refine ⟨(congrArg Ports.relayQueue finished :), fun place => ?_, fun n place => ?_⟩ <;>
          refine (congrArg Ports.offer finished).trans ?_ <;> simp only [place] <;> rfl
  case portB =>
    refine ⟨_, next_congr (State.linkDown_b_eq running source), ?_, rfl, ?_⟩
    · exact (s.setPorts_frame _).andThen (State.setWire_frame _ _)
    · have kept := s.ports.finishB_eq
      have slot : s.ports.finishB.answerSlot = s.ports.answerSlot := by
        cases h : s.ports.txB with
        | none => rw [Ports.finishB_idle h]
        | some x => exact Ports.finishB_answerSlot h (source x h)
      refine ⟨(congrArg Ports.linkA kept :), (congrArg Ports.txB kept :), (congrArg Ports.txA kept :), (congrArg Ports.offer kept :),
        (congrArg Ports.relayQueue kept :), slot, (congrArg Ports.turn kept :), (congrArg Ports.firstReport kept :), rfl,
        fun idle => ?_, fun x sending source => ?_, fun x sending source => ?_, fun x k sending source => ?_⟩
      · have finished := Ports.finishB_idle idle
        exact ⟨(congrArg Ports.forwardQueue finished :), (congrArg Ports.noticeQueue finished :), (congrArg Ports.reportSlots finished :)⟩
      · have finished := Ports.finishB_forward sending source
        exact ⟨(congrArg Ports.forwardQueue finished :), (congrArg Ports.noticeQueue finished :), (congrArg Ports.reportSlots finished :)⟩
      · have finished := Ports.finishB_notice sending source
        exact ⟨(congrArg Ports.forwardQueue finished :), (congrArg Ports.noticeQueue finished :), (congrArg Ports.reportSlots finished :)⟩
      · have finished := Ports.finishB_report sending source
        exact ⟨(congrArg Ports.forwardQueue finished :), (congrArg Ports.noticeQueue finished :),
          Ports.finishB_reportSlots sending source⟩

end Sys2Proof.Machine
end


section
/-! SUPPORT. Transmission ends and the take of a request (R3, R15, R158), frames that pass, and the arrival of a
REQUEST. -/

namespace Sys2Proof.Machine

set_option Elab.async false

open Sys2Proof

variable {s : State}

/-! ## The take of a request (R158, R159) -/

theorem State.answer_management (s : State) (r : Request) (x : Result) (b : Bytes) :
    (s.answer r x b).management = { s.management with inService := none } :=
  (State.chooseB_frame _).get .management

/-- The answer to a request that fails the validation. -/
def Request.malformed (r : Request) : Answer := ⟨r.source, r.tag, r.kind, .malformed, []⟩

/-- What the take makes of a part whose unit is IDLE with the answer slot empty: the oldest request enters service, or
is answered MALFORMED, and port B chooses. -/
structure RequestTaken (s t : State) : Prop where
  frame : SameOutside [.ports, .management] s t
  management : t.management = { s.management with
    requestQueue := s.management.requestQueue.tail, inService := t.management.inService }
  notices : t.ports.noticeQueue = s.ports.noticeQueue
  forward : t.ports.forwardQueue = s.ports.forwardQueue
  reports : t.ports.reportSlots = s.ports.reportSlots
  none : s.management.requestQueue = [] → t = s
  valid : ∀ r rest, s.management.requestQueue = r :: rest → r.validKind.isSome = true →
    t.ports = s.ports ∧ t.management.inService = some r
  malformed : ∀ r rest, s.management.requestQueue = r :: rest → r.validKind = Option.none →
    t.management.inService = Option.none ∧
      t.ports = Ports.chooseB s.straps.station { s.ports with answerSlot := some r.malformed }

theorem RequestTaken.of_eq {t u : State} (h : RequestTaken s t) (e : u = t) : RequestTaken s u := e ▸ h

theorem State.takeRequest_of_taken (h : s.management.inService.isSome ∨ s.ports.answerSlot.isSome) :
    s.takeRequest = s := by
  unfold State.takeRequest
  split
  · next service slot _ => simp [service, slot] at h
  · rfl

theorem State.takeRequest_of_empty (h : s.management.requestQueue = []) : s.takeRequest = s := by
  unfold State.takeRequest
  split
  · next queue => exact absurd (h.symm.trans queue) nofun
  · rfl

section
variable {r : Request} {rest : List Request} (idle : s.management.inService = none) (slot : s.ports.answerSlot = none)
  (queue : s.management.requestQueue = r :: rest)
include idle slot queue

theorem State.takeRequest_of_valid (valid : r.validKind.isSome = true) : s.takeRequest =
    s.setManagement { s.management with requestQueue := rest, inService := some r } := by
  obtain ⟨k, valid⟩ := Option.isSome_iff_exists.mp valid
  simp only [State.takeRequest, idle, slot, queue, valid]
  rfl

theorem State.takeRequest_of_malformed (valid : r.validKind = none) : s.takeRequest =
    (s.setManagement { s.management with requestQueue := rest }).refuse r .malformed := by
  simp only [State.takeRequest, idle, slot, queue, valid]

end

/-- The take with the unit IDLE and the answer slot empty. -/
theorem State.takeRequest_taken (running : s.resetLine = false) (idle : s.management.inService = none)
    (slot : s.ports.answerSlot = none) : RequestTaken s s.takeRequest := by
  cases queue : s.management.requestQueue with
  | nil =>
    rw [State.takeRequest_of_empty queue]
    exact ⟨.refl _ _, by rw [queue]; exact congrArg (fun q => { s.management with requestQueue := q }) queue, rfl, rfl,
      rfl, fun _ => rfl, fun r rest h => absurd (queue.symm.trans h) nofun, fun r rest h => absurd (queue.symm.trans h) nofun⟩
  | cons r rest =>
    cases valid : r.validKind with
    | some k =>
      rw [State.takeRequest_of_valid idle slot queue (by rw [valid]; rfl)]
      refine ⟨(s.setManagement_frame _).wider, by rw [queue]; rfl, rfl, rfl, rfl,
        fun h => absurd (queue.symm.trans h) nofun, fun r' rest' h _ => ?_, fun r' rest' h v => ?_⟩
      all_goals obtain ⟨rfl, rfl⟩ := List.cons.inj (queue.symm.trans h)
      · exact ⟨rfl, rfl⟩
      · rw [valid] at v
        exact absurd v nofun
    | none =>
      rw [State.takeRequest_of_malformed idle slot queue valid]
      have answered := (s.setManagement { s.management with requestQueue := rest }).answer_answered r .malformed []
      have ports := answered.choice running
      refine ⟨((s.setManagement_frame _).answer r .malformed []).wider, ?_, ?_, ?_, ?_,
        fun h => absurd (queue.symm.trans h) nofun, fun r' rest' h v => ?_, fun r' rest' h _ => ?_⟩
      · have none : (State.refuse _ r .malformed).management.inService = Option.none := answered.idle
        rw [queue, none]
        exact State.answer_management _ r .malformed []
      · exact answered.notices
      · exact answered.kept.forwardQueue
      · exact answered.reports
      all_goals obtain ⟨rfl, rfl⟩ := List.cons.inj (queue.symm.trans h)
      · rw [valid] at v
        exact absurd v nofun
      · exact ⟨answered.idle, ports⟩

/-! ## The end of a transmission -/

theorem Ports.chooseA_offer_of_empty {p : Ports} (station : BitVec 6) (h : p.offer = .empty) :
    (p.chooseA station).offer = .empty := by
  unfold Ports.chooseA
  split
  · split
    · next o waits => exact absurd (h.symm.trans waits) nofun
    · exact h
    · exact h
  · exact h

/-- Only the end of a notice leaves the notice queue. -/
theorem Ports.finishB_noticeQueue {p : Ports} {x : Transmission} (h : p.txB = some x) :
    p.finishB.noticeQueue = if x.source = .notice then p.noticeQueue.tail else p.noticeQueue := by
  cases e : x.source with
  | answer => rw [Ports.finishB_answer h e, if_neg nofun]
  | notice => rw [Ports.finishB_notice h e, if_pos rfl]
  | report k => rw [Ports.finishB_report h e, if_neg nofun]
  | _ =>
    simp only [Ports.finishB, h, e]
    exact (if_neg nofun).symm

/-- The end of an answer that no reset waits for: port B's choice, and then the take. -/
theorem State.endTransmissionB_of_answer (running : s.resetLine = false) {x : Transmission} (h : s.ports.txB = some x)
    (source : x.source = .answer) (waits : s.management.resetWaiting = false) (e : Ending) : s.endTransmissionB e =
      ((s.setPorts (s.ports.finishB.chooseB s.straps.station)).setWire { s.wire with b := some ⟨x, e⟩ }).takeRequest := by
  have sends : s.ports.sendsAnswer = true := by
    rw [Ports.sendsAnswer, h]
    exact decide_eq_true source
  rw [State.endTransmissionB, if_neg (by simp [running, h]), if_pos sends, if_neg (by simp [waits]),
    State.chooseB_of_running (by simp [running]), h]
  rfl

/-- What the end of an answer leaves for the take. -/
theorem Ports.sent_answerSlot {p : Ports} {x : Transmission} (h : p.txB = some x) (source : x.source = .answer)
    (station : BitVec 6) : (p.finishB.chooseB station).answerSlot = none := by
  rw [Ports.chooseB_answerSlot, Ports.finishB_answer h source]

/-- The end of an answer on ports `sent`, whose items are those of s: the choice without the answer, and the take. -/
theorem Ports.answerEnded_of (sent : Ports) (notices : sent.noticeQueue = s.ports.noticeQueue)
    (forward : sent.forwardQueue = s.ports.forwardQueue) (reports : sent.reportSlots = s.ports.reportSlots)
    (running : s.resetLine = false) {x : Transmission} (h : sent.txB = some x) (source : x.source = .answer)
    (waits : s.management.resetWaiting = false) (idle : s.management.inService = none) (e : Ending) :
    let chosen := Ports.chooseB s.straps.station sent.finishB
    let t := (s.setPorts sent).endTransmissionB e
    SameOutside [.ports, .wire, .management] s t ∧ t.wire = { s.wire with b := some ⟨x, e⟩ } ∧
      t.management = { s.management with
        requestQueue := t.management.requestQueue, inService := t.management.inService } ∧
      t.ports.noticeQueue = s.ports.noticeQueue ∧ t.ports.forwardQueue = s.ports.forwardQueue ∧
      t.ports.reportSlots = s.ports.reportSlots ∧ t.management.requestQueue = s.management.requestQueue.tail ∧
      (s.management.requestQueue = [] → t.ports = chosen ∧ t.ports.answerSlot = none ∧ t.management.inService = none) ∧
      (∀ r rest, s.management.requestQueue = r :: rest →
        (r.validKind.isSome → t.ports = chosen ∧ t.ports.answerSlot = none ∧ t.management.inService = some r) ∧
        (r.validKind = none → t.management.inService = none ∧ t.ports.answerSlot = some r.malformed ∧
          t.ports = Ports.chooseB s.straps.station { chosen with answerSlot := some r.malformed })) := by
  intro chosen t
  have slot : chosen.answerSlot = none := Ports.sent_answerSlot h source _
  let sentOff := (s.setPorts chosen).setWire { s.wire with b := some ⟨x, e⟩ }
  have taken : RequestTaken sentOff t :=
    (State.takeRequest_taken (s := sentOff) running idle slot).of_eq
      (State.endTransmissionB_of_answer (s := s.setPorts sent) running h source waits e)
  have finished := Ports.finishB_answer h source
  have frame : SameOutside [.ports, .wire] s _ :=
    (s.setPorts_frame chosen).andThen (State.setWire_frame _ { s.wire with b := some ⟨x, e⟩ })
  refine ⟨frame.andThen taken.frame, taken.frame.get .wire, ?_,
    ?_, ?_, ?_, ?_, fun empty => ?_, fun r rest queue => ⟨fun valid => ?_, fun valid => ?_⟩⟩
  · rw [taken.management]
    rfl
  · exact taken.notices.trans ((Ports.chooseB_noticeQueue _ _).trans ((congrArg Ports.noticeQueue finished :).trans notices))
  · exact taken.forward.trans ((Ports.chooseB_forwardQueue _ _).trans ((congrArg Ports.forwardQueue finished :).trans forward))
  · exact taken.reports.trans ((Ports.chooseB_reportSlots _ _).trans ((congrArg Ports.reportSlots finished :).trans reports))
  · exact congrArg Management.requestQueue taken.management
  · have same := taken.none empty
    exact ⟨congrArg State.ports same, (congrArg (fun u => u.ports.answerSlot) same).trans slot,
      (congrArg (fun u => u.management.inService) same).trans idle⟩
  · obtain ⟨ports, service⟩ := taken.valid r rest queue valid
    exact ⟨ports, (congrArg Ports.answerSlot ports).trans slot, service⟩
  · obtain ⟨service, ports⟩ := taken.malformed r rest queue valid
    exact ⟨service, (congrArg Ports.answerSlot ports).trans (Ports.chooseB_answerSlot _ _), ports⟩

/-- Settles O15: the item leaves its place, the port chooses, and after an answer the oldest request is taken. -/
theorem transmissionEndRemovesItem : Obligations.TransmissionEndRemovesItem := by
  refine ⟨fun s x running sending => ?portA, fun s x running sending source => ?portB,
    fun s x running sending source waits idle c which => ?answer⟩
  case portA =>
    have kept := s.ports.finishA_eq
    refine ⟨_, next_congr (State.endTransmissionA_of_sending running sending .normal),
      (s.setPorts_frame _).andThen (State.setWire_frame _ _), rfl, rfl, ?_, ?_, ?_, ?_, fun source => ?_,
      fun source => ⟨?_, fun o place => ?_, fun o n place up => ?_⟩⟩
    · exact (Ports.chooseA_forwardQueue _ _).trans (congrArg Ports.forwardQueue kept :)
    · exact (Ports.chooseA_answerSlot _ _).trans (congrArg Ports.answerSlot kept :)
    · exact (Ports.chooseA_noticeQueue _ _).trans (congrArg Ports.noticeQueue kept :)
    · exact (Ports.chooseA_reportSlots _ _).trans (congrArg Ports.reportSlots kept :)
    · exact (Ports.chooseA_relayQueue _ _).trans (congrArg Ports.relayQueue (Ports.finishA_relay sending source) :)
    · exact (Ports.chooseA_relayQueue _ _).trans (congrArg Ports.relayQueue (Ports.finishA_offer sending source) :)
    · have finished : s.ports.finishA.offer = .empty := by
        rw [Ports.finishA_offer sending source, place]
        rfl
      exact Ports.chooseA_offer_of_empty _ finished
    · have finished : s.ports.finishA.offer = .waiting n := by
        rw [Ports.finishA_offer sending source, place]
        rfl
      have free : s.ports.finishA.freeA = true := by
        rw [Ports.freeA_iff, Ports.finishA_offer sending source]
        exact ⟨up, rfl⟩
      have offers := Ports.chooseA_offers s.straps.station free finished
      exact ⟨(congrArg Ports.offer offers :), (congrArg (fun p => p.txA.map (·.source)) offers :)⟩
  case portB =>
    have kept := s.ports.finishB_eq
    refine ⟨_, next_congr (State.endTransmissionB_of_sending running sending source .normal),
      (s.setPorts_frame _).andThen (State.setWire_frame _ _), rfl, rfl, ?_, ?_, fun source => ⟨?_, ?_⟩,
      fun k source => ?_⟩
    · exact (Ports.chooseB_answerSlot _ _).trans (Ports.finishB_answerSlot sending source)
    · exact (Ports.chooseB_noticeQueue _ _).trans (Ports.finishB_noticeQueue sending)
    · exact (Ports.chooseB_forwardQueue _ _).trans (congrArg Ports.forwardQueue (Ports.finishB_forward sending source) :)
    · exact (Ports.chooseB_reportSlots _ _).trans (congrArg Ports.reportSlots (Ports.finishB_forward sending source) :)
    · obtain ⟨own, other⟩ := Ports.finishB_reportSlots sending source
      have slots := Ports.chooseB_reportSlots s.ports.finishB s.straps.station
      exact ⟨(congrArg (·[k]) slots).trans own, (congrArg (·[1 - k]) slots).trans other,
        (Ports.chooseB_forwardQueue _ _).trans (congrArg Ports.forwardQueue (Ports.finishB_report sending source) :)⟩
  case answer =>
    obtain rfl | rfl := which
    · obtain ⟨frame, rest⟩ := s.ports.answerEnded_of rfl rfl rfl running sending source waits idle .normal
      exact ⟨_, rfl, frame, rest⟩
    · obtain ⟨frame, rest⟩ :=
        Ports.answerEnded_of { s.ports with linkB := .down } rfl rfl rfl running sending source waits idle .cutOff
      exact ⟨_, rfl, frame, rest⟩

end Sys2Proof.Machine
end


section
/-! SUPPORT. What the trackers, the cycle former and the record unit leave of the ports and latches: they hand over notices
and place reports, and touch no other queue, slot or latch (`Notifying`). -/

namespace Sys2Proof.Machine

set_option Elab.async false

open Sys2Proof

/-- From s to t nothing has changed of the ports and latches but the notice queue and the report slots, what port B's
choice moves, and NOTICE_DROPPED; the notices that wait stay at the front. -/
structure Notifying (s t : State) : Prop where
  ports : s.ports.Kept t.ports
  answerSlot : t.ports.answerSlot = s.ports.answerSlot
  latches : t.latches = { s.latches with noticeDropped := t.latches.noticeDropped }
  notices : s.ports.noticeQueue <+: t.ports.noticeQueue

/-- The blocks of which `Notifying` does not speak. -/
abbrev silentBlocks : List Block :=
  [.straps, .resetLine, .wire, .agreement, .tables, .intake, .trackers, .former, .engine, .accounts, .records, .management,
    .choices, .pending]

variable {s t u : State}

theorem Ports.Kept.refl (p : Ports) : p.Kept p := ⟨rfl, rfl, rfl, rfl, rfl, rfl⟩

theorem Ports.Kept.trans {p q r : Ports} (h : p.Kept q) (g : q.Kept r) : p.Kept r :=
  ⟨g.linkA.trans h.linkA, g.linkB.trans h.linkB, g.txA.trans h.txA, g.relayQueue.trans h.relayQueue,
    g.offer.trans h.offer, g.forwardQueue.trans h.forwardQueue⟩

theorem Notifying.refl (s : State) : Notifying s s := ⟨.refl _, rfl, rfl, List.prefix_rfl⟩

theorem Notifying.trans (h : Notifying s t) (g : Notifying t u) : Notifying s u :=
  ⟨h.ports.trans g.ports, g.answerSlot.trans h.answerSlot, by rw [g.latches, h.latches],
    h.notices.trans g.notices⟩

theorem Notifying.ite {p : Prop} [Decidable p] (ht : Notifying s t) (hu : Notifying s u) :
    Notifying s (if p then t else u) := by
  split <;> assumption

theorem Notifying.foldl {α : Type} {f : State → α → State} (h : ∀ s x, Notifying s (f s x)) :
    ∀ (l : List α) (s : State), Notifying s (l.foldl f s)
  | [], s => .refl s
  | x :: l, s => (h s x).trans (Notifying.foldl h l (f s x))

theorem Notifying.of_frame (h : SameOutside silentBlocks s t) : Notifying s t := by
  have ports : t.ports = s.ports := h.get .ports
  have latches : t.latches = s.latches := h.get .latches
  exact ⟨ports ▸ .refl _, ports ▸ rfl, latches ▸ rfl, ports ▸ List.prefix_rfl⟩

theorem Ports.Kept.chooseB {p q : Ports} (h : p.Kept q) (station : BitVec 6) : p.Kept (q.chooseB station) := by
  obtain ⟨linkA, linkB, txA, relayQueue, offer, forwardQueue⟩ := h
  constructor <;> simpa

/-- Placing an item for port B and making its choice. -/
theorem Notifying.chooseB (h : Notifying s t) : Notifying s t.chooseB := by
  refine ⟨?_, ?_, ?_, ?_⟩
  · rw [t.chooseB_ports]
    exact ⟨h.ports.linkA, h.ports.linkB, h.ports.txA, h.ports.relayQueue, h.ports.offer, h.ports.forwardQueue⟩
  · rw [t.chooseB_ports]
    exact h.answerSlot
  · rw [t.chooseB_frame.get .latches]
    exact h.latches
  · rw [t.chooseB_ports]
    exact h.notices

variable (s)

theorem State.handOver_notifying (n : NoticeBody) : Notifying s (s.handOver n) := by
  obtain ⟨-, same⟩ | ⟨-, -, full⟩ | ⟨-, -, placed⟩ := s.handOver_cases n
  · rw [same]
    exact .refl s
  · rw [full]
    exact ⟨.refl _, rfl, rfl, List.prefix_rfl⟩
  · rw [placed]
    exact Notifying.chooseB (t := s.setPorts _) ⟨⟨rfl, rfl, rfl, rfl, rfl, rfl⟩, rfl, rfl, List.prefix_append _ _⟩

/-! ## Record unit -/

theorem State.moveLimits_notifying (c : ClosedBlock) : Notifying s (s.moveLimits c) := by
  refine Notifying.foldl (fun s k => ?_) _ s
  unfold State.moveLimit
  dsimp only
  split
  · exact .of_frame (s.setRecords_frame _).wider
  · exact .trans (.of_frame (s.setRecords_frame _).wider) (State.handOver_notifying _ _)

theorem State.placeReport_notifying (r : BlockRecord) : Notifying s (s.placeReport r) := by
  unfold State.placeReport
  split
  · exact .refl s
  · exact .of_frame (s.setRecords_frame _).wider
  · split
    · exact .refl s
    · exact Notifying.chooseB (t := (s.setPorts _).setRecords _)
        ⟨⟨rfl, rfl, rfl, rfl, rfl, rfl⟩, rfl, rfl, List.prefix_rfl⟩

theorem State.receive_notifying (c : ClosedBlock) : Notifying s (s.receive c) :=
  .trans (.trans (.of_frame (s.storeRecord_frame _).wider) (State.moveLimits_notifying _ c))
    (State.placeReport_notifying _ _)

theorem State.modAccount_notifying (tap : TapId) (f : TapAccount → TapAccount) : Notifying s (s.modAccount tap f) :=
  .of_frame (s.modAccount_frame tap f).wider

theorem State.closeOldest_notifying (tap : TapId) (forced : Bool) : Notifying s (s.closeOldest tap forced) := by
  unfold State.closeOldest
  split
  · exact .refl s
  · exact (s.modAccount_notifying tap _).trans (State.receive_notifying _ _)

theorem State.closeTest_notifying (tap : TapId) : Notifying s (s.closeTest tap) := by
  unfold State.closeTest
  split
  · exact .refl s
  · exact .ite (s.closeOldest_notifying tap false) (.refl s)

theorem State.closeComplete_notifying (tap : TapId) : Notifying s (s.closeComplete tap) :=
  (s.closeTest_notifying tap).trans (State.closeTest_notifying _ tap)

theorem State.openFor_notifying (e : EntryHead) : Notifying s (s.openFor e) := by
  unfold State.openFor
  refine .ite (.refl s) (.trans (.ite (.refl s) ?_) (State.modAccount_notifying _ _ _))
  exact (s.closeOldest_notifying _ true).trans (State.closeTest_notifying _ _)

theorem State.register_notifying (x : Entry) : Notifying s (s.register x) :=
  .trans (.trans (.trans (s.openFor_notifying x.head) (State.modAccount_notifying _ _ _))
    (.of_frame (State.registerKind_frame _ x).wider)) (State.closeComplete_notifying _ _)

/-! ## Trackers -/

variable (v : TrackerId)

theorem State.modTracker_notifying (f : Tracker → Tracker) : Notifying s (s.modTracker v f) :=
  .of_frame (s.modTracker_frame v f).wider

theorem State.trackerNotice_notifying (p : TrackerState) (c : TrackerCause) : Notifying s (s.trackerNotice v p c) :=
  s.handOver_notifying _

theorem State.lose_notifying (c : TrackerCause) : Notifying s (s.lose v c) :=
  (s.modTracker_notifying v _).trans (State.trackerNotice_notifying _ v _ _)

theorem State.acceptCrossing_notifying (m : Nat) : Notifying s (s.acceptCrossing v m) := by
  unfold State.acceptCrossing
  dsimp only
  split
  · refine .ite ?_ (s.modTracker_notifying v _)
    exact ((s.modTracker_notifying v _).trans (State.modTracker_notifying _ v _)).trans
      (State.trackerNotice_notifying _ v _ _)
  · exact s.modTracker_notifying v _
  · exact (s.modTracker_notifying v _).trans (State.trackerNotice_notifying _ v _ _)
  · exact (s.modTracker_notifying v _).trans (State.trackerNotice_notifying _ v _ _)
  · exact .refl s
  · exact .refl s

theorem State.rejectCrossing_notifying : Notifying s (s.rejectCrossing v) :=
  .ite (.ite ((s.modTracker_notifying v _).trans (State.lose_notifying _ v _)) (s.modTracker_notifying v _)) (.refl s)

theorem State.examine_notifying (start : Bool) (x : ChannelValues) : Notifying s (s.examine v start x) := by
  unfold State.examine State.examineMain
  dsimp only
  refine .trans (.trans ?_ (.ite (State.lose_notifying _ v _) (.refl _))) (State.modTracker_notifying _ v _)
  split
  · exact (s.modTracker_notifying v _).trans (State.acceptCrossing_notifying _ v _)
  · exact (s.modTracker_notifying v _).trans (State.rejectCrossing_notifying _ v)
  all_goals exact s.modTracker_notifying v _

theorem State.dipCheck_notifying : Notifying s (s.dipCheck v) :=
  .ite ((s.modTracker_notifying v _).trans (State.lose_notifying _ v _)) (s.modTracker_notifying v _)

theorem State.commit_notifying (h : Handover) : Notifying s (s.commit v h) := by
  unfold State.commit
  dsimp only
  have noticed := ((Notifying.of_frame (s.modSettings_frame v fun x => { x with reference := h.channel }).wider).trans
    (State.modTracker_notifying _ v fun k => k.commit h)).trans
      (State.handOver_notifying _ (.handover v .committed s.tables.settings[v].reference h.channel h.timeout h.locked
        (((s.modSettings v fun x => { x with reference := h.channel }).modTracker v fun k => k.commit h).trackers[v].state)
        h.ls))
  exact .ite noticed (noticed.trans (State.trackerNotice_notifying _ v _ _))

theorem State.dropHandover_notifying (o : HandoverOutcome) (h : Handover) : Notifying s (s.dropHandover v o h) :=
  (s.modTracker_notifying v _).trans (State.handOver_notifying _ _)

theorem State.handoverStep_notifying : Notifying s (s.handoverStep v) := by
  unfold State.handoverStep
  split
  · exact .refl s
  · exact .ite (s.commit_notifying v _) (.ite (s.dropHandover_notifying v _ _) (s.modTracker_notifying v _))

theorem State.trackerWork_notifying : Notifying s (s.trackerWork v).1 := by
  unfold State.trackerWork
  dsimp only
  have stepped := (s.dipCheck_notifying v).trans (State.handoverStep_notifying _ v)
  refine .trans (.ite (stepped.trans ?_) stepped) (State.modTracker_notifying _ v _)
  exact .ite ((State.modTracker_notifying _ v _).trans (State.trackerNotice_notifying _ v _ _))
    (State.modTracker_notifying _ v _)

theorem State.rateChange_notifying : Notifying s (s.rateChange v) := by
  unfold State.rateChange
  split
  · exact .refl s
  · exact s.modTracker_notifying v _
  · exact s.modTracker_notifying v _
  all_goals exact (s.modTracker_notifying v _).trans (State.trackerNotice_notifying _ v _ _)

/-! ## Cycle former -/

theorem State.setFormer_notifying (x : Former) : Notifying s (s.setFormer x) := .of_frame (s.setFormer_frame x).wider

theorem State.buildEntry_notifying (c : EndedCycle) (tap : TapId) (f : FormerTap) (config stale : Bool) :
    Notifying s (s.buildEntry c tap f config stale) := by
  unfold State.buildEntry
  dsimp only
  split
  · exact .trans (.trans (s.setFormer_notifying _) (.of_frame (State.setEngine_frame _ _).wider))
      (State.register_notifying _ _)
  · split <;> exact (s.setFormer_notifying _).trans (State.register_notifying _ _)

theorem State.closeEntry_notifying (tariff : Tariff) (tap : TapId) (x : Snapshot) :
    Notifying s (s.closeEntry v tariff tap x) :=
  (s.setFormer_notifying _).trans (State.register_notifying _ _)

theorem State.buildEntries_notifying (b : State) (c : EndedCycle) : Notifying s (s.buildEntries b c) := by
  refine .trans (Notifying.foldl (fun s tap => ?_) _ s)
    (Notifying.foldl (fun s tap => .ite (s.modAccount_notifying tap _) (.refl s)) _ _)
  unfold State.entryOf
  refine .ite ?_ (.refl s)
  split
  · exact s.buildEntry_notifying c tap _ _ _
  · exact .ite (s.closeEntry_notifying _ _ _ _) (.refl s)
  · exact .refl s

theorem State.formerPart_notifying (length period : Nat) (filled : Bool) (m : Marks) :
    Notifying s (s.formerPart length period filled m v) := by
  unfold State.formerPart
  dsimp only
  refine .trans (.trans ?_ (.of_frame (State.applyAllStaged_frame _ v).wider)) (State.buildEntries_notifying _ _ _)
  exact .ite ((s.setFormer_notifying _).trans (.of_frame (State.tariffStep_frame _ v).wider)) (s.setFormer_notifying _)

theorem State.cycleEnd_notifying (r : Resampler) (acc : Nat) : Notifying s (s.cycleEnd v r acc) := by
  unfold State.cycleEnd
  dsimp only
  refine .trans ?_ (State.setFormer_notifying _ _)
  have ended (f : FormerTracker → FormerTracker) := ((s.trackerWork_notifying v).trans (State.setFormer_notifying _
    { (s.trackerWork v).1.former with trackers := modAt (s.trackerWork v).1.former.trackers v f })).trans
      (State.formerPart_notifying _ v r.samples r.period r.filled (s.trackerWork v).2)
  exact .ite ((ended _).trans (State.formerPart_notifying _ _ _ _ _ _)) (ended _)

theorem State.producePoint_notifying (p x : ChannelValues) (num inc : Nat) (i : Fin 128) :
    Notifying s (s.producePoint v p x num inc i) := by
  unfold State.producePoint
  dsimp only
  have produced (y : Former) (g : Tracker → Tracker) := (s.setFormer_notifying y).trans (State.modTracker_notifying _ v g)
  exact .ite ((produced _ _).trans (State.dipCheck_notifying _ v)) (produced _ _)

theorem State.producePoints_notifying (p x : ChannelValues) (r : Resampler) (fuel : Nat) :
    ∀ (s : State) (i : Nat), Notifying s (s.producePoints v p x r fuel i).1 := by
  induction fuel with
  | zero => intro s i; exact .refl s
  | succ n ih =>
    intro s i
    unfold State.producePoints
    split
    · split
      · exact (s.producePoint_notifying v p x _ _ _).trans (ih _ _)
      · exact .refl s
    · exact .refl s

theorem State.resample_notifying (p x : ChannelValues) (filled : Bool) : Notifying s (s.resample v p x filled) := by
  unfold State.resample
  split
  · exact .refl s
  · next r _ =>
    dsimp only
    have points := State.producePoints_notifying v p x r 128 s r.point
    have ended (y : Resampler) (acc : Nat) := points.trans (State.cycleEnd_notifying _ v y acc)
    refine .ite (points.trans (State.setFormer_notifying _ _)) (.ite (ended _ _) ?_)
    exact ((ended _ _).trans (State.producePoint_notifying _ v p x _ _ _)).trans (State.setFormer_notifying _ _)

theorem State.handOn_notifying (x : ChannelValues) (filled start : Bool) : Notifying s (s.handOn x filled start) := by
  unfold State.handOn
  dsimp only
  refine .trans ?_ (Notifying.foldl (fun s v => ?_) _ _)
  · exact .trans (.trans (.of_frame (s.setIntake_frame _).wider) (State.setFormer_notifying _ _))
      (.of_frame (State.advanceChoice_frame _).wider)
  · exact .ite ((s.examine_notifying v start x).trans (State.resample_notifying _ v _ x filled)) (.refl s)

theorem State.fill_notifying (g : Nat) : ∀ s : State, Notifying s (State.fill g s) := by
  induction g with
  | zero => exact .refl
  | succ n ih => exact fun s => (s.handOn_notifying _ true false).trans (ih _)

theorem State.changeRate_notifying : Notifying s s.changeRate :=
  ((s.rateChange_notifying 0).trans (State.rateChange_notifying _ 1)).trans
    (Notifying.foldl (fun s _ => s.setFormer_notifying _) _ _)

/-! ## Stops -/

theorem State.stopTap_notifying (tap : TapId) : Notifying s (s.stopTap v tap) := by
  unfold State.stopTap
  split
  · exact .refl s
  all_goals
    dsimp only
    refine .trans (.trans ?_ (State.modAccount_notifying _ tap _)) (State.setFormer_notifying _ _)
    exact (s.setFormer_notifying _).trans (State.closeEntry_notifying _ _ _ _ _)

theorem State.stopCycles_notifying (w : TrackerId → Bool) : Notifying s (s.stopCycles w) := by
  unfold State.stopCycles
  dsimp only
  have closed := Notifying.foldl (f := fun s' tap => if w (s.tapTracker tap) then s'.stopTap (s.tapTracker tap) tap else s')
    fun s' tap => .ite (s'.stopTap_notifying _ tap) (.refl s')
  have cleared := Notifying.foldl (f := fun s' u => if w u then s'.clearBlockIndex u false else s')
    fun s' u => .ite (.of_frame (s'.clearBlockIndex_frame u false).wider) (.refl s')
  have applied := Notifying.foldl (f := fun s' tap => if w (s.tapTracker tap) then s'.applyStaged tap else s')
    fun s' tap => .ite (.of_frame (s'.applyStaged_frame tap).wider) (.refl s')
  exact ((closed _ s).trans (cleared _ _)).trans (applied _ _)

end Sys2Proof.Machine
end


section
/-! SUPPORT. The delivery of received frames (R5 to R9): frames that pass through, the arrival of a REQUEST, and the
delivery of a stream frame beside its place in the forward queue. -/

namespace Sys2Proof.Machine

set_option Elab.async false

open Sys2Proof

variable {s t u : State}

/-! ## Frames that pass through (R8, R9) -/

theorem State.enterForward_entered (running : s.resetLine = false) (b : Bytes) : Entered s (s.enterForward b) b := by
  obtain ⟨room, entered⟩ | ⟨full, lost⟩ := s.enterForward_cases b
  · exact ⟨fun _ => entered.trans (State.chooseB_of_running (by exact running)), fun full => absurd room (Nat.not_lt.mpr full)⟩
  · exact ⟨fun room => absurd room (Nat.not_lt.mpr full), fun _ => lost⟩

theorem State.deliverA_other {b : Bytes} (other : ∀ x, recognise b = some x →
    x.kind = .request ∨ x.kind = .answer ∨ x.kind = .blockReport ∨ x.kind = .notice) :
    s.deliverA b = s.enterForward b := by
  unfold State.deliverA
  split
  · rfl
  · next x recognised =>
    obtain kind | kind | kind | kind := other x recognised <;> simp only [kind]

theorem State.deliverB_other {b : Bytes} (other : ∀ x, recognise b = some x → x.kind = .request →
    byteAt x.carried 0 ≠ s.straps.station.toNat) : s.deliverB b = s.enterRelay b := by
  unfold State.deliverB
  split
  · rfl
  · next x recognised =>
    split
    · next kind => exact if_neg (other x recognised kind)
    all_goals rfl

/-- Settles O19: the frame enters its queue as it is, or is lost with the queue's latch. -/
theorem otherFramesPass : Obligations.OtherFramesPass := by
  refine ⟨fun s f arrives other => ?_, fun s f arrives other => ?_⟩
  · refine ⟨_, next_congr (s.receptionEnd_a arrives), ?_⟩
    rw [State.deliverA_other other]
    exact State.enterForward_entered arrives.running _
  · refine ⟨_, next_congr (s.receptionEnd_b arrives), ?_⟩
    rw [State.deliverB_other other]
    obtain ⟨room, entered⟩ | ⟨full, lost⟩ := s.enterRelay_cases f.bytes
    · exact ⟨fun _ => entered.trans (State.chooseA_of_running (by exact arrives.running)),
        fun full => absurd room (Nat.not_lt.mpr full)⟩
    · exact ⟨fun room => absurd room (Nat.not_lt.mpr full), fun _ => lost⟩

/-! ## The arrival of a REQUEST (R157 to R159) -/

theorem State.deliverB_request {f : RxFrame} {x : StreamFrame} (arrives : StreamArrives s .b f .request x)
    (own : byteAt x.carried 0 = s.straps.station.toNat) :
    s.deliverB f.bytes = s.requestArrives (readRequest f.bytes x) := by
  simp only [State.deliverB, arrives.recognised, arrives.kind, own, if_true]

theorem State.requestArrives_full (full : 4 ≤ s.management.requestQueue.length) (r : Request) :
    s.requestArrives r = s.setLatches { s.latches with requestDropped := true } :=
  if_neg (Nat.not_lt.mpr full)

theorem State.requestArrives_room (room : s.management.requestQueue.length < 4) (r : Request) : s.requestArrives r =
    (s.setManagement { s.management with requestQueue := s.management.requestQueue ++ [r] }).takeRequest :=
  if_pos room

/-- A request is never relayed. -/
theorem State.requestArrives_relayQueue (r : Request) : (s.requestArrives r).ports.relayQueue = s.ports.relayQueue := by
  unfold State.requestArrives State.takeRequest
  split
  · split
    · dsimp only
      split
      · exact (State.answer_answered _ _ _ _).kept.relayQueue
      · rfl
    · rfl
  · rfl

theorem readRequestKind_eq_some (n : Nat) (k : RequestKind) : readRequestKind n = some k ↔ n = kindNumber k := by
  constructor
  · intro h
    unfold readRequestKind at h
    split at h <;> cases h <;> rfl
  · rintro rfl
    cases k <;> rfl

theorem lengthFits_iff (k : RequestKind) (body : Bytes) : lengthFits k body = true ↔ body.length ∈ bodyLengths body k := by
  cases k <;> simp [lengthFits, bodyLengths] <;> omega

theorem Request.validKind_eq_some (r : Request) (k : RequestKind) : r.validKind = some k ↔
    r.kind.toNat = kindNumber k ∧ 4 ≤ r.stated ∧ r.body.length ∈ bodyLengths r.body k := by
  rw [← readRequestKind_eq_some, ← lengthFits_iff]
  unfold Request.validKind
  cases read : readRequestKind r.kind.toNat with
  | none => simp
  | some j =>
    by_cases fits : 4 ≤ r.stated ∧ lengthFits j r.body = true
    · dsimp only
      rw [if_pos fits]
      exact ⟨fun h => ⟨h, fits.1, Option.some.inj h ▸ fits.2⟩, fun h => h.1⟩
    · dsimp only
      rw [if_neg fits]
      exact ⟨nofun, fun ⟨same, long, length⟩ => absurd ⟨long, Option.some.inj same ▸ length⟩ fits⟩

/-- Settles O20: lost at 4, otherwise the newest of the queue, which is taken at once where the unit is free for it. -/
theorem requestArrival : Obligations.RequestArrival := by
  refine ⟨fun s f x arrives own => ?_, fun b x => ⟨rfl, rfl⟩, Request.validKind_eq_some⟩
  have running := arrives.arrives.running
  refine ⟨_, next_congr (s.receptionEnd_b arrives.arrives), ?_⟩
  rw [State.deliverB_request arrives own]
  let r := readRequest f.bytes x
  let m := s.setManagement { s.management with requestQueue := s.management.requestQueue ++ [r] }
  refine ⟨State.requestArrives_relayQueue r, fun full => State.requestArrives_full (by omega) r,
    fun room taken => ?_, fun empty idle slot => ?_⟩
  · rw [State.requestArrives_room room r]
    exact State.takeRequest_of_taken (s := m) taken
  · rw [State.requestArrives_room (by rw [empty]; exact Nat.zero_lt_succ 3) r]
    have queue : m.management.requestQueue = [r] := by
      rw [State.setManagement_management, empty]
      rfl
    have taken := State.takeRequest_taken (s := m) running idle slot
    refine ⟨(s.setManagement_frame _).andThen taken.frame, ?_, fun valid => ?_, fun valid => ?_⟩
    · exact (congrArg Management.requestQueue taken.management).trans (congrArg List.tail queue)
    · exact (taken.valid r [] queue valid).symm
    · exact taken.malformed r [] queue valid

/-! ## A stream frame delivered beside its place in the forward queue (R5, R7) -/

/-- Nothing of what a frame's forwarding reads or writes has changed. -/
structure Passing (s t : State) : Prop where
  forwardQueue : t.ports.forwardQueue = s.ports.forwardQueue
  relayQueue : t.ports.relayQueue = s.ports.relayQueue
  forwardDropped : t.latches.forwardDropped = s.latches.forwardDropped

theorem Passing.refl (s : State) : Passing s s := ⟨rfl, rfl, rfl⟩

theorem Passing.trans (h : Passing s t) (g : Passing t u) : Passing s u :=
  ⟨g.forwardQueue.trans h.forwardQueue, g.relayQueue.trans h.relayQueue, g.forwardDropped.trans h.forwardDropped⟩

theorem Passing.ite {p : Prop} [Decidable p] (ht : Passing s t) (hu : Passing s u) : Passing s (if p then t else u) := by
  split <;> assumption

theorem Notifying.passing (h : Notifying s t) : Passing s t :=
  ⟨h.ports.forwardQueue, h.ports.relayQueue, by rw [h.latches]⟩

theorem Passing.of_frame (h : SameOutside silentBlocks s t) : Passing s t := (Notifying.of_frame h).passing

theorem Passing.setLatches {x : Latches} (same : x.forwardDropped = s.latches.forwardDropped) :
    Passing s (s.setLatches x) :=
  ⟨rfl, rfl, same⟩

variable (s)

theorem State.countClips_passing (x : Vector Bool 48) : Passing s (s.countClips x) := by
  unfold State.countClips
  dsimp only
  exact .trans (.ite (.setLatches (by rfl)) (.refl s)) (.of_frame (State.mapFormerTaps_frame _ _).wider)

theorem State.takeFrame_passing (x : SampleSet) (start : Bool) : Passing s (s.takeFrame x start) :=
  .trans ((s.countClips_passing _).trans (State.handOn_notifying _ _ false start).passing)
    (.of_frame (State.awaitNext_frame _ _).wider)

theorem State.streamBreak_passing (c : StreamCause) (n : BitVec 16) : Passing s (s.streamBreak c n) := by
  unfold State.streamBreak
  dsimp only
  exact .trans ((s.handOver_notifying _).passing.trans (.setLatches (by rfl))) (.of_frame (State.breakCycles_frame _).wider)

theorem State.sequenceCheck_passing (x : SampleSet) (g : Nat) : Passing s (s.sequenceCheck x g) := by
  refine .ite (s.takeFrame_passing x false) (.ite ?_ (.ite ?_ (.refl s)))
  · exact .trans (.trans (.setLatches (by rfl)) (State.fill_notifying g _).passing) (State.takeFrame_passing _ x _)
  · exact (s.streamBreak_passing _ _).trans (State.takeFrame_passing _ x _)

theorem State.intakeSampleSet_passing (x : SampleSet) : Passing s (s.intakeSampleSet x) := by
  unfold State.intakeSampleSet
  split
  · refine .ite ?_ (.setLatches rfl)
    unfold State.admitSet
    split
    · exact s.sequenceCheck_passing x _
    all_goals exact s.takeFrame_passing x true
  all_goals exact .refl s

theorem State.withdrawOffer_passing : Passing s s.withdrawOffer := ⟨rfl, rfl, rfl⟩

theorem State.enterAgreed_passing (p : ProfileCode) (n : Option (AgreementOutcome × BitVec 8)) :
    Passing s (s.enterAgreed p n) := by
  unfold State.enterAgreed
  dsimp only
  have entered : Passing s (s.stopOffering.setAgreement
      { s.stopOffering.agreement with state := .agreed p, profile := p }).intakeWait := ⟨rfl, rfl, rfl⟩
  cases n with
  | none => exact .ite (entered.trans (State.changeRate_notifying _).passing) entered
  | some x =>
    have noticed := entered.trans (State.handOver_notifying _ (.agreement p x.1 s.agreement.acceptMask x.2)).passing
    exact .ite (noticed.trans (State.changeRate_notifying _).passing) noticed

theorem State.sampleSet_passing (x : SampleSet) : Passing s (s.sampleSet x) := by
  have adopted : Passing s (s.adopt x.code) :=
    .ite (.ite (.trans (.of_frame (s.setAgreement_frame _).wider) (State.enterAgreed_passing _ _ _))
      (.of_frame (s.setAgreement_frame _).wider)) (.refl s)
  unfold State.sampleSet
  split
  · exact s.intakeSampleSet_passing x
  all_goals exact adopted

variable {s}

/-- Either order of a delivery and the frame's entry, and neither with forwarding OFF (R5). -/
theorem State.deliverStream_forwarded (running : s.resetLine = false) (b : Bytes) {f : State → State}
    (line : ∀ s, (f s).resetLine = s.resetLine) : ∃ a, Forwarded s a (f a) (s.deliverStream b f) b := by
  unfold State.deliverStream
  split
  · next forwarding =>
    have queued (a t : State) (n : Nat) (h : (a = s.setChoices n ∧ Entered (f a) t b) ∨
        (Entered (s.setChoices n) a b ∧ t = f a)) : Forwarded s a (f a) t b :=
      ⟨fun off => absurd (off.symm.trans forwarding) nofun, fun _ => ⟨n, h⟩⟩
    unfold State.forwardAnd
    split
    · dsimp only
      split
      · exact ⟨_, queued (s.setChoices (s.choices + 1)) _ (s.choices + 1)
          (.inl ⟨rfl, State.enterForward_entered ((line (s.setChoices (s.choices + 1))).trans running) b⟩)⟩
      · exact ⟨_, queued _ _ _ (.inr ⟨State.enterForward_entered (by exact running) b, rfl⟩)⟩
    · exact ⟨_, queued _ _ s.choices (.inr ⟨State.enterForward_entered running b, rfl⟩)⟩
  · next off => exact ⟨s, fun _ => ⟨rfl, rfl⟩, fun forwarding => absurd forwarding off⟩

/-- The forward queue and its latch after an entry. -/
theorem Entered.forwardQueue {b : Bytes} (h : Entered s t b) :
    t.ports.forwardQueue = (if s.ports.forwardQueue.length < 32 then s.ports.forwardQueue ++ [b]
      else s.ports.forwardQueue) ∧
    t.latches.forwardDropped = (s.latches.forwardDropped || decide (32 ≤ s.ports.forwardQueue.length)) ∧
    t.ports.relayQueue = s.ports.relayQueue := by
  by_cases room : s.ports.forwardQueue.length < 32
  · rw [h.room room, if_pos room, decide_eq_false (Nat.not_le.mpr room), Bool.or_false]
    exact ⟨Ports.chooseB_forwardQueue _ _, rfl, Ports.chooseB_relayQueue _ _⟩
  · rw [h.full (Nat.not_lt.mp room), if_neg room, decide_eq_true (Nat.not_lt.mp room), Bool.or_true]
    exact ⟨rfl, rfl, rfl⟩

theorem Forwarded.forwardQueue {a c : State} {b : Bytes} (h : Forwarded s a c t b) (passing : Passing a c) :
    t.ports.forwardQueue = (if s.tables.station.forwarding = true ∧ s.ports.forwardQueue.length < 32
      then s.ports.forwardQueue ++ [b] else s.ports.forwardQueue) ∧
    t.latches.forwardDropped = (s.latches.forwardDropped ||
      (s.tables.station.forwarding && decide (32 ≤ s.ports.forwardQueue.length))) ∧
    t.ports.relayQueue = s.ports.relayQueue := by
  cases forwarding : s.tables.station.forwarding with
  | false =>
    obtain ⟨rfl, rfl⟩ := h.off forwarding
    simpa using ⟨passing.forwardQueue, passing.forwardDropped, passing.relayQueue⟩
  | true =>
    simp only [true_and, Bool.true_and]
    obtain ⟨n, ⟨rfl, entered⟩ | ⟨entered, rfl⟩⟩ := h.on forwarding
    · obtain ⟨queue, latch, relay⟩ := entered.forwardQueue
      rw [queue, latch, relay, passing.forwardQueue, passing.forwardDropped, passing.relayQueue]
      exact ⟨rfl, rfl, rfl⟩
    · obtain ⟨queue, latch, relay⟩ := entered.forwardQueue
      rw [passing.forwardQueue, passing.forwardDropped, passing.relayQueue]
      exact ⟨queue, latch, relay⟩

theorem State.deliverA_sampleSet {f : RxFrame} {x : StreamFrame} (arrives : StreamArrives s .a f .sampleSet x) :
    s.deliverA f.bytes = s.deliverStream f.bytes fun s => s.sampleSet (readSampleSet x) := by
  simp only [State.deliverA, arrives.recognised, arrives.kind]

theorem State.deliverA_timeMark {f : RxFrame} {x : StreamFrame} (arrives : StreamArrives s .a f .timeMark x) :
    s.deliverA f.bytes = s.deliverStream f.bytes fun s => s.intakeTimeMark x := by
  simp only [State.deliverA, arrives.recognised, arrives.kind]

/-- Settles O28: the blocks that take the frame touch neither the queue nor its latch. -/
theorem streamFramesForwarded : Obligations.StreamFramesForwarded := by
  intro s f k x kind arrives
  refine ⟨_, next_congr (s.receptionEnd_a arrives.arrives), ?_⟩
  have running := arrives.arrives.running
  have queued : ∃ a c, Forwarded s a c (s.deliverA f.bytes) f.bytes ∧ Passing a c ∧
      SameOutside (.agreement :: sampleBlocks) s (s.deliverA f.bytes) := by
    obtain rfl | rfl := kind
    · obtain ⟨a, forwarded⟩ := State.deliverStream_forwarded running f.bytes
        (f := fun s => s.sampleSet (readSampleSet x)) fun s => (s.sampleSet_frame _).get .resetLine
      rw [State.deliverA_sampleSet arrives]
      exact ⟨a, _, forwarded, a.sampleSet_passing _, (s.deliverStream_frame f.bytes _ fun s => s.sampleSet_frame _).wider⟩
    · obtain ⟨a, forwarded⟩ := State.deliverStream_forwarded running f.bytes
        (f := fun s => s.intakeTimeMark x) fun s => (s.intakeTimeMark_frame _).get .resetLine
      rw [State.deliverA_timeMark arrives]
      exact ⟨a, _, forwarded, .of_frame (a.intakeTimeMark_frame x).wider,
        (s.deliverStream_frame f.bytes _ fun s => s.intakeTimeMark_frame x).wider⟩
  obtain ⟨a, c, forwarded, passing, frame⟩ := queued
  obtain ⟨queue, latch, relay⟩ := forwarded.forwardQueue passing
  exact ⟨queue, latch, relay, frame.get .management, frame.get .straps⟩

/-! ## TIME MARK frames (R64, R95) -/

theorem State.intakeTimeMark_short {x : StreamFrame} (short : x.stated < 4) : s.intakeTimeMark x = s :=
  if_neg (Nat.not_le.mpr short)

theorem State.intakeTimeMark_whole {x : StreamFrame} (whole : 4 ≤ x.stated) :
    s.intakeTimeMark x = s.markArrival (BitVec.ofNat 32 (beNat x.carried 0 4)) :=
  if_pos whole

/-- The cycle former's part of a delivery does not see the frame's entry. -/
theorem Forwarded.former {a c : State} {b : Bytes} (h : Forwarded s a c t b) :
    a.former = s.former ∧ a.trackers = s.trackers ∧ t.former = c.former := by
  have entered {u v : State} (h : Entered u v b) : v.former = u.former ∧ v.trackers = u.trackers := by
    by_cases room : u.ports.forwardQueue.length < 32
    · rw [h.room room]
      exact ⟨rfl, rfl⟩
    · rw [h.full (Nat.not_lt.mp room)]
      exact ⟨rfl, rfl⟩
  cases forwarding : s.tables.station.forwarding with
  | false =>
    obtain ⟨rfl, rfl⟩ := h.off forwarding
    exact ⟨rfl, rfl, rfl⟩
  | true =>
    obtain ⟨n, ⟨rfl, queued⟩ | ⟨queued, rfl⟩⟩ := h.on forwarding
    · exact ⟨rfl, rfl, (entered queued).1⟩
    · exact ⟨(entered queued).1, (entered queued).2, rfl⟩

theorem State.markArrival_congr (former : t.former = s.former) (trackers : t.trackers = s.trackers) (n : BitVec 32) :
    (t.markArrival n).former = (s.markArrival n).former := by
  simp only [State.markArrival, State.setFormer_former, State.makesCycles, State.cycleSource, former, trackers]

/-- Settles O31: a whole mark is an arrival on both trackers, a short one is ignored. -/
theorem timeMarkArrival : Obligations.TimeMarkArrival := by
  intro s f x arrives
  refine ⟨_, next_congr ((s.receptionEnd_a arrives.arrives).trans (State.deliverA_timeMark arrives)), ?_⟩
  obtain ⟨a, forwarded⟩ := State.deliverStream_forwarded arrives.arrives.running f.bytes
    (f := fun s => s.intakeTimeMark x) fun s => (s.intakeTimeMark_frame _).get .resetLine
  obtain ⟨before, trackers, after⟩ := forwarded.former
  refine ⟨(s.deliverStream_frame f.bytes _ fun s => s.intakeTimeMark_frame x).wider, fun short => ?_, fun whole => ?_⟩
  · rw [after, State.intakeTimeMark_short short, before]
  · have marked : (s.deliverStream f.bytes fun s => s.intakeTimeMark x).former =
        (s.markArrival (BitVec.ofNat 32 (beNat x.carried 0 4))).former := by
      rw [after, State.intakeTimeMark_whole whole, State.markArrival_congr before trackers]
    rw [marked]
    refine ⟨?_, rfl, rfl, fun u => ?_⟩
    · change some (BitVec.ofNat 32 (beNat x.carried 0 4)) = _
      simp only [beNat, byteAt, Nat.zero_mul, Nat.zero_add]
    · simp [State.markArrival, FormerTracker.markArrival, and_assoc]

end Sys2Proof.Machine
end


section
/-! SUPPORT. The arithmetic of the part: rounding, the integer square root, registers (R129), limit states (R151) and the
index step of a cycle end (R94, R96). -/

namespace Sys2Proof.Machine

set_option Elab.async false

open Sys2Proof

/-! ## Rounding and the integer square root -/

/-- A rounded quotient of a number that is not negative lies half a divisor below it at most, and less above. -/
theorem roundDiv_of_nonneg {z : Int} {d : Nat} (positive : 0 < d) (h : 0 ≤ z) :
    0 ≤ roundDiv z d ∧ -(d : Int) ≤ 2 * (z - roundDiv z d * d) ∧ 2 * (z - roundDiv z d * d) < d := by
  rw [roundDiv, if_pos h]
  have whole := Int.emod_add_mul_ediv (2 * z + d) (2 * d)
  have least := Int.emod_nonneg (2 * z + d) (show (2 * d : Int) ≠ 0 by omega)
  have most := Int.emod_lt_of_pos (2 * z + d) (show (0 : Int) < 2 * d by omega)
  rw [Int.mul_comm (2 * _ : Int), ← Int.mul_assoc, Int.mul_right_comm] at whole
  refine ⟨Int.ediv_nonneg (by omega) (by omega), ?_⟩
  omega

theorem roundDiv_neg {z : Int} (d : Nat) (h : z < 0) : roundDiv z d = -roundDiv (-z) d := by
  rw [roundDiv, roundDiv, if_neg (by omega), if_pos (by omega)]

theorem roundDiv_nearest (z : Int) {d : Nat} (positive : 0 < d) : 2 * (z - roundDiv z d * d).natAbs ≤ d ∧
    (2 * (z - roundDiv z d * d).natAbs = d → z.natAbs ≤ (roundDiv z d).natAbs * d) := by
  have size (q : Int) (nonneg : 0 ≤ q) : ((q.natAbs * d : Nat) : Int) = q * d := by
    rw [Nat.cast_mul, Int.natAbs_of_nonneg nonneg]
  obtain h | h := lt_or_ge z 0
  · obtain ⟨nonneg, low, high⟩ := roundDiv_of_nonneg positive (show 0 ≤ -z by omega)
    rw [roundDiv_neg d h, Int.natAbs_neg, Int.neg_mul]
    have := size _ nonneg
    omega
  · obtain ⟨nonneg, low, high⟩ := roundDiv_of_nonneg positive h
    have := size _ nonneg
    omega

theorem isqrtBits_spec (x : Nat) : ∀ b r : Nat, r * r ≤ x → x < (r + 2 ^ b) * (r + 2 ^ b) →
    isqrtBits b r x * isqrtBits b r x ≤ x ∧ x < (isqrtBits b r x + 1) * (isqrtBits b r x + 1)
  | 0, _, low, high => ⟨low, high⟩
  | b + 1, r, low, high => by
    unfold isqrtBits
    split
    · next fits =>
      refine isqrtBits_spec x b _ fits ?_
      rwa [Nat.add_assoc, ← Nat.two_mul, ← Nat.pow_succ']
    · next small => exact isqrtBits_spec x b r low (Nat.not_le.mp small)

theorem lt_square_of_log2 (x : Nat) : x < 2 ^ (x.log2 / 2 + 1) * 2 ^ (x.log2 / 2 + 1) := by
  rw [← Nat.pow_add]
  exact Nat.lt_of_lt_of_le Nat.lt_log2_self (Nat.pow_le_pow_right (by omega) (by omega))

/-- Settles O27: by the remainder of the rounding, and bit by bit for the square root. -/
theorem integerArithmetic : Obligations.IntegerArithmetic :=
  ⟨fun z _ positive => roundDiv_nearest z positive, fun x =>
    isqrtBits_spec x _ 0 (Nat.zero_le x) (by rw [Nat.zero_add]; exact lt_square_of_log2 x)⟩

/-! ## Registers (R129) -/

theorem sub_div_mul (x k : Nat) : x - x / k * k = x % k := by
  rw [Nat.mul_comm, ← Nat.mod_eq_sub_mul_div]

/-- The register after a contribution. -/
theorem Register.addEnergy_eq (g : Register) (k x : Nat) : g.addEnergy k x =
    (⟨(g.count + (g.residue + x) / k) % 10 ^ 12, (g.residue + x) % k,
      min 15 (g.rollover + (g.count + (g.residue + x) / k) / 10 ^ 12)⟩, (g.residue + x) / k) := by
  unfold Register.addEnergy
  dsimp only
  rw [sub_div_mul]
  rfl

/-- A value of count, rollover and residue, where the rollover does not saturate. -/
theorem energy_conserved (count rollover residue x k m : Nat) :
    ((rollover + (count + (residue + x) / k) / m) * m + (count + (residue + x) / k) % m) * k + (residue + x) % k =
      (rollover * m + count) * k + residue + x := by
  have quanta := Nat.div_add_mod (count + (residue + x) / k) m
  have energy := Nat.div_add_mod (residue + x) k
  calc _ = (rollover * m + (m * ((count + (residue + x) / k) / m) + (count + (residue + x) / k) % m)) * k +
        (residue + x) % k := by ring
    _ = (rollover * m + count) * k + (k * ((residue + x) / k) + (residue + x) % k) := by
        rw [quanta]
        ring
    _ = _ := by rw [energy, Nat.add_assoc]

/-- Settles O49: by the division of the residue with the contribution. -/
theorem energyIsConserved : Obligations.EnergyIsConserved := by
  intro g k x inRange
  have positive : 0 < k := Nat.zero_lt_of_lt inRange.residue
  have kept := Register.addEnergy_inRange positive g x
  dsimp only
  rw [Register.addEnergy_eq] at kept ⊢
  refine ⟨rfl, rfl, rfl, rfl, kept, fun bounded => ?_⟩
  dsimp only
  rw [Nat.min_eq_right bounded]
  exact energy_conserved g.count g.rollover g.residue x k (10 ^ 12)

/-! ## The index step (R94, R96) -/

section
variable {f : FormerTracker}

theorem FormerTracker.indexDecision_none (align : f.align = .none) :
    f.indexDecision = ⟨if f.index + 1 = f.inForce.length then some .natural else none, false, false⟩ := by
  simp only [FormerTracker.indexDecision, align]

theorem FormerTracker.indexDecision_hard (align : f.align = .due) (mode : f.inForce.align = .hard) :
    f.indexDecision = ⟨some (if f.index + 1 = f.inForce.length then .natural else .aligned), true, false⟩ := by
  simp only [FormerTracker.indexDecision, align, mode]

theorem FormerTracker.indexDecision_soft (align : f.align = .due) (mode : f.inForce.align = .soft) :
    f.indexDecision = if f.index + 1 = f.inForce.length then ⟨some .natural, true, false⟩
      else if f.reindexed then ⟨none, false, true⟩ else ⟨none, true, false⟩ := by
  simp only [FormerTracker.indexDecision, align, mode]

theorem FormerTracker.indexDecision_held (align : f.align = .held) : f.indexDecision =
    ⟨if f.index + 1 = f.inForce.length then some .natural else none, f.index + 1 = f.inForce.length, false⟩ := by
  simp only [FormerTracker.indexDecision, align]

end

/-- REALIGNED marks an index other than the one that would follow. -/
theorem FormerTracker.indexStep_realigned (f : FormerTracker) (written : BlockSettings) :
    (f.indexStep written).realigned =
      decide ((f.indexStep written).index ≠ if f.indexDecision.close.isSome then 0 else f.index + 1) := by
  unfold FormerTracker.indexStep
  cases taken : f.indexDecision.taken <;> simp [bne, Bool.beq_eq_decide_eq]

/-- Settles O40: by what waits for an alignment, its mode, and whether the close is natural. -/
theorem indexAndAlignment : Obligations.IndexAndAlignment := by
  intro f written
  dsimp only
  refine ⟨fun align => ?_, fun due hard => ?_, fun due soft natural => ?_, fun due soft natural first => ?_,
    fun due soft natural again => ?_, fun held natural => ?_, fun held natural => ?_, fun closes => ?_, fun closes => ?_,
    rfl, f.indexStep_realigned written, rfl, rfl⟩
  · rw [FormerTracker.indexStep, FormerTracker.indexDecision_none align]
    by_cases natural : f.index + 1 = f.inForce.length <;> simp [natural, align]
  · simp [FormerTracker.indexStep, FormerTracker.indexDecision_hard due hard]
  · simp [FormerTracker.indexStep, FormerTracker.indexDecision_soft due soft, natural]
  · simp [FormerTracker.indexStep, FormerTracker.indexDecision_soft due soft, natural, first, bne, Bool.beq_eq_decide_eq]
  · simp [FormerTracker.indexStep, FormerTracker.indexDecision_soft due soft, natural, again]
  · simp [FormerTracker.indexStep, FormerTracker.indexDecision_held held, natural]
  · simp [FormerTracker.indexStep, FormerTracker.indexDecision_held held, natural, held]
  · exact ⟨if_pos closes, if_pos closes⟩
  · simp [FormerTracker.indexStep, closes]

end Sys2Proof.Machine
end


section
/-! SUPPORT. Limit states and the values of their kinds (R147, R148, R151). -/

namespace Sys2Proof.Machine

set_option Elab.async false

open Sys2Proof

/-! ## The largest THD (R148) -/

/-- One channel in the search for the largest THD. -/
def peakStep (thd sums : Vector Nat 6) (best : Option Nat) (c : Fin 6) : Option Nat :=
  if sums[c] = 0 then best else some (max thd[c] (best.getD 0))

theorem thdPeak_eq (thd sums : Vector Nat 6) :
    thdPeak thd sums = ([0, 1, 2, 3, 4, 5] : List (Fin 6)).foldl (peakStep thd sums) none := rfl

section
variable (thd sums : Vector Nat 6)

theorem foldl_peakStep_isSome : ∀ (l : List (Fin 6)) (best : Option Nat),
    (l.foldl (peakStep thd sums) best).isSome = true ↔ best.isSome = true ∨ ∃ c ∈ l, sums[c] ≠ 0
  | [], best => by simp
  | c :: l, best => by
    rw [List.foldl_cons, foldl_peakStep_isSome l, peakStep, List.exists_mem_cons_iff]
    split
    · next silent => tauto
    · next sounds => exact ⟨fun _ => .inr (.inl sounds), fun _ => .inl rfl⟩

/-- The peak is the value of a sounding channel, or the start, and none of these is above it. -/
theorem foldl_peakStep_max : ∀ (l : List (Fin 6)) (best : Option Nat) (v : Nat),
    l.foldl (peakStep thd sums) best = some v →
    (best = some v ∨ ∃ c ∈ l, sums[c] ≠ 0 ∧ v = thd[c]) ∧ best.getD 0 ≤ v ∧ ∀ c ∈ l, sums[c] ≠ 0 → thd[c] ≤ v
  | [], best, v => fun h => ⟨.inl h, by rw [show best = some v from h]; exact Nat.le_refl v, nofun⟩
  | c :: l, best, v => fun h => by
    obtain ⟨reached, above, rest⟩ := foldl_peakStep_max l _ v h
    unfold peakStep at reached above
    split at reached
    · next silent =>
      rw [if_pos silent] at above
      exact ⟨reached.imp_right fun ⟨d, mem, is⟩ => ⟨d, List.mem_cons_of_mem c mem, is⟩, above,
        List.forall_mem_cons.mpr ⟨fun sounds => absurd silent sounds, rest⟩⟩
    · next sounds =>
      rw [if_neg sounds] at above
      have both : max thd[c] (best.getD 0) ≤ v := above
      obtain ⟨own, start⟩ := Nat.max_le.mp both
      refine ⟨?_, start, List.forall_mem_cons.mpr ⟨fun _ => own, rest⟩⟩
      obtain is | ⟨d, mem, is⟩ := reached
      · have peak := Option.some.inj is
        cases best with
        | none => exact .inr ⟨c, List.mem_cons_self .., sounds, by rw [← peak]; exact Nat.max_zero _⟩
        | some b =>
          obtain most | most := Nat.le_total thd[c] b
          · exact .inl (by rw [← peak]; exact congrArg some (Nat.max_eq_right most).symm)
          · exact .inr ⟨c, List.mem_cons_self .., sounds, by rw [← peak]; exact Nat.max_eq_left most⟩
      · exact .inr ⟨d, List.mem_cons_of_mem c mem, is⟩

end

/-! ## The values of the kinds (R148) -/

theorem thdOf_eq {f : Nat} (sounds : f ≠ 0) (h : Nat) : thdOf f h = min 65535 (isqrt (10 ^ 8 * h / f)) := if_neg sounds

theorem ClosedBlock.value_thd_of_list {c : ClosedBlock} (listed : 0 < c.acc.cycles ∧ 1 < c.acc.snapshot.hMax) :
    c.value .thd = thdPeak (Vector.ofFn fun ch => thdOf c.acc.fundamentalSums[ch] c.acc.harmonicSums[ch])
      c.acc.fundamentalSums := by
  simp only [ClosedBlock.value, limitValue, thdList, if_pos listed]

theorem ClosedBlock.value_thd_of_none {c : ClosedBlock} (unlisted : ¬(0 < c.acc.cycles ∧ 1 < c.acc.snapshot.hMax)) :
    c.value .thd = none := by
  simp only [ClosedBlock.value, limitValue, thdList, if_neg unlisted]

theorem mem_channels : ∀ c : Fin 6, c ∈ ([0, 1, 2, 3, 4, 5] : List (Fin 6)) := by decide

theorem exists_mem_channels (p : Fin 6 → Prop) : (∃ c ∈ ([0, 1, 2, 3, 4, 5] : List (Fin 6)), p c) ↔ ∃ c, p c :=
  ⟨fun ⟨c, _, h⟩ => ⟨c, h⟩, fun ⟨c, h⟩ => ⟨c, mem_channels c, h⟩⟩

theorem ClosedBlock.value_thd_isSome (c : ClosedBlock) : (c.value .thd).isSome = true ↔
    0 < c.acc.cycles ∧ 1 < c.acc.snapshot.hMax ∧ ∃ ch : Fin 6, c.acc.fundamentalSums[ch] ≠ 0 := by
  by_cases listed : 0 < c.acc.cycles ∧ 1 < c.acc.snapshot.hMax
  · rw [ClosedBlock.value_thd_of_list listed, thdPeak_eq, foldl_peakStep_isSome, exists_mem_channels]
    simp only [listed, true_and, Option.isSome_none, Bool.false_eq_true, false_or]
  · rw [ClosedBlock.value_thd_of_none listed]
    exact ⟨nofun, fun ⟨cycles, orders, _⟩ => absurd ⟨cycles, orders⟩ listed⟩

theorem ClosedBlock.value_thd_eq_some {c : ClosedBlock} {v : Nat} (h : c.value .thd = some v) :
    0 < c.acc.cycles ∧ 1 < c.acc.snapshot.hMax ∧
      (∃ ch : Fin 6, c.acc.fundamentalSums[ch] ≠ 0 ∧
        v = min 65535 (isqrt (10 ^ 8 * c.acc.harmonicSums[ch] / c.acc.fundamentalSums[ch]))) ∧
      ∀ ch : Fin 6, c.acc.fundamentalSums[ch] ≠ 0 →
        min 65535 (isqrt (10 ^ 8 * c.acc.harmonicSums[ch] / c.acc.fundamentalSums[ch])) ≤ v := by
  by_cases listed : 0 < c.acc.cycles ∧ 1 < c.acc.snapshot.hMax
  · rw [ClosedBlock.value_thd_of_list listed, thdPeak_eq] at h
    obtain ⟨reached, -, above⟩ := foldl_peakStep_max _ _ _ _ _ h
    simp only [getElem_ofFn_fin] at reached above
    obtain start | ⟨ch, -, sounds, is⟩ := reached
    · exact absurd start nofun
    · refine ⟨listed.1, listed.2, ⟨ch, sounds, is.trans (thdOf_eq sounds _)⟩, fun other sounds => ?_⟩
      rw [← thdOf_eq sounds]
      exact above other (mem_channels other) sounds
  · rw [ClosedBlock.value_thd_of_none listed] at h
    exact absurd h nofun

theorem exceeds_iff (value : Option Nat) (limit : Nat) :
    exceeds value limit = true ↔ limit ≠ 0 ∧ ∃ v, value = some v ∧ limit < v := by
  cases value <;> simp [exceeds]

theorem toList_four {α : Type} (v : Vector α 4) : v.toList = [v[0], v[1], v[2], v[3]] := by
  refine List.ext_getElem (by simp) fun i h _ => ?_
  rw [Vector.length_toList] at h
  interval_cases i <;> simp

/-- Settles O54: by the branches of the move, and the value of each kind. -/
theorem limitStatesMove : Obligations.LimitStatesMove := by
  refine ⟨fun n => ⟨rfl, rfl, rfl, fun few => ?_, fun last => ?_⟩, fun l x => rfl, fun e => ⟨?_, rfl⟩,
    fun c e k => exceeds_iff _ _, fun c => ⟨?_, c.value_thd_isSome, fun v h => ?_⟩⟩
  · simp [LimitState.move, few]
  · simp [LimitState.move, Nat.not_lt.mpr last]
  · rw [toList_four]
    rfl
  · exact Fin.forall_fin_succ.mpr ⟨rfl, Fin.forall_fin_succ.mpr ⟨rfl, Fin.forall_fin_two.mpr ⟨rfl, rfl⟩⟩⟩
  · obtain ⟨cycles, orders, reached, above⟩ := c.value_thd_eq_some h
    exact ⟨cycles, orders, reached, above⟩

end Sys2Proof.Machine
end


section
/-! SUPPORT. What an event does to one tracker, with the notices it hands over (R67 to R89). -/

namespace Sys2Proof.Machine

set_option Elab.async false

open Sys2Proof

variable {s m t : State} {u : TrackerId} {x y : Tracker} {l k : List NoticeBody}

/-! ## Notices handed over, in a part that differs in what no notice reads -/

/-- Handing over reads the station settings, the straps and the reset line only. -/
theorem HandedOver.congr {p q : Ports} {a b : Latches} (h : HandedOver m p a q b l)
    (station : m.tables.station = s.tables.station) (straps : m.straps = s.straps) (line : m.resetLine = s.resetLine) :
    HandedOver s p a q b l := by
  obtain ⟨ports, sending, starts, latches⟩ := h
  simp only [NoticeStarts, station, straps, line] at ports sending starts latches
  exact ⟨ports, sending, starts, latches⟩

theorem Noticed.nil (ports : t.ports = s.ports) (latches : t.latches = s.latches) : Noticed s t [] := by
  rw [Noticed, NoticesFrom, ports, latches]
  exact .nil s _ _

/-- One more notice. -/
theorem Noticed.handOver (h : Noticed s m l) (station : m.tables.station = s.tables.station)
    (straps : m.straps = s.straps) (line : m.resetLine = s.resetLine) (n : NoticeBody) :
    Noticed s (m.handOver n) (l ++ [n]) :=
  h.andThen s ((m.handOver_noticed n).congr station straps line)

theorem State.answer_ports (s : State) (r : Request) (a : Result) (b : Bytes) :
    (s.answer r a b).ports = s.chosenB { s.ports with answerSlot := some ⟨r.source, r.tag, r.kind, a, b⟩ } := by
  unfold State.answer State.chooseB State.chosenB
  cases line : s.resetLine <;> simp [line]

/-- An answer after notices. -/
theorem Noticed.answer (h : Noticed s m l) (straps : m.straps = s.straps) (line : m.resetLine = s.resetLine) (r : Request)
    (a : Result) (b : Bytes) : NoticesThenAnswer s (m.answer r a b) l ⟨r.source, r.tag, r.kind, a, b⟩ := by
  have latches : (m.answer r a b).latches = m.latches := (m.answer_frame r a b).get .latches
  refine ⟨m.ports, latches ▸ h, (m.answer_ports r a b).trans ?_⟩
  rw [State.chosenB, State.chosenB, straps, line]

/-! ## One tracker changed -/

/-- From s to t tracker u has become x and the notices `l` have been handed over; nothing else has changed. -/
def TrackerBecomes (s t : State) (u : TrackerId) (x : Tracker) (l : List NoticeBody) : Prop :=
  SameOutside [.trackers, .ports, .latches] s t ∧ t.trackers[u] = x ∧ t.trackers[1 - u] = s.trackers[1 - u] ∧ Noticed s t l

theorem TrackerId.ne_other : ∀ u : TrackerId, u ≠ 1 - u := by decide

theorem TrackerBecomes.trans (h : TrackerBecomes s m u x l) (g : TrackerBecomes m t u y k) :
    TrackerBecomes s t u y (l ++ k) := by
  obtain ⟨frame, -, other, noticed⟩ := h
  obtain ⟨frame', own, other', noticed'⟩ := g
  exact ⟨frame.trans frame', own, other'.trans other, noticed.andThen s
    (noticed'.congr (congrArg Tables.station (frame.get .tables)) (frame.get .straps) (frame.get .resetLine))⟩

theorem State.modTracker_becomes (s : State) (u : TrackerId) (f : Tracker → Tracker) :
    TrackerBecomes s (s.modTracker u f) u (f s.trackers[u]) [] :=
  ⟨(s.modTracker_frame u f).wider, by rw [State.modTracker_trackers, if_pos rfl],
    by rw [State.modTracker_trackers, if_neg (TrackerId.ne_other u)], .nil rfl rfl⟩

theorem State.handOver_becomes (s : State) (u : TrackerId) (n : NoticeBody) :
    TrackerBecomes s (s.handOver n) u s.trackers[u] [n] := by
  have trackers : (s.handOver n).trackers = s.trackers := (s.handOver_frame n).get .trackers
  exact ⟨(s.handOver_frame n).wider, by rw [trackers], by rw [trackers], s.handOver_noticed n⟩

/-- A tracker changed, and then its notice. -/
theorem State.modTracker_handOver_becomes (s : State) (u : TrackerId) (f : Tracker → Tracker) (n : NoticeBody) :
    TrackerBecomes s ((s.modTracker u f).handOver n) u (f s.trackers[u]) [n] := by
  have changed := (s.modTracker_becomes u f).trans ((s.modTracker u f).handOver_becomes u n)
  rwa [State.modTracker_trackers, if_pos rfl] at changed

/-- The TRACKER notice of a change of state into x. -/
def State.changeNotice (s : State) (u : TrackerId) (previous : TrackerState) (x : Tracker) (cause : TrackerCause) :
    NoticeBody :=
  .tracker u previous x.state cause s.tables.settings[u].reference x.lfix s.intake.count

/-- A change of state into one that is not IDLE, with its TRACKER notice (R81). -/
theorem State.modTracker_notice_becomes (s : State) {u : TrackerId} {f : Tracker → Tracker}
    (running : (f s.trackers[u]).state ≠ .idle) (previous : TrackerState) (cause : TrackerCause) :
    TrackerBecomes s ((s.modTracker u f).trackerNotice u previous cause) u (f s.trackers[u])
      [s.changeNotice u previous (f s.trackers[u]) cause] := by
  have own : (s.modTracker u f).trackers[u] = f s.trackers[u] := by rw [State.modTracker_trackers, if_pos rfl]
  have changed := s.modTracker_handOver_becomes u f (.tracker u previous (s.modTracker u f).trackers[u].state cause
    s.tables.settings[u].reference ((s.modTracker u f).lfix u) s.intake.count)
  rw [State.lfix, own, if_neg running] at changed
  unfold State.trackerNotice
  rw [State.lfix, own, if_neg running]
  exact changed

theorem State.lose_becomes (s : State) (u : TrackerId) (cause : TrackerCause) :
    TrackerBecomes s (s.lose u cause) u s.trackers[u].lose
      [s.changeNotice u s.trackers[u].state s.trackers[u].lose cause] :=
  s.modTracker_notice_becomes (f := Tracker.lose) nofun _ cause

/-- The loss of a tracker that has been changed before. -/
theorem State.modTracker_lose_becomes (s : State) {u : TrackerId} {f : Tracker → Tracker}
    (state : (f s.trackers[u]).state = s.trackers[u].state) (cause : TrackerCause) :
    TrackerBecomes s ((s.modTracker u f).lose u cause) u (f s.trackers[u]).lose
      [s.changeNotice u s.trackers[u].state (f s.trackers[u]).lose cause] := by
  have lost := (s.modTracker_becomes u f).trans ((s.modTracker u f).lose_becomes u cause)
  rw [State.modTracker_trackers, if_pos rfl, state] at lost
  exact lost

/-! ## Counts at their limit (R73, R74, R86) -/

theorem State.dropHandover_becomes (s : State) (u : TrackerId) (o : HandoverOutcome) (h : Handover) :
    TrackerBecomes s (s.dropHandover u o h) u { s.trackers[u] with handover := none }
      [.handover u o s.tables.settings[u].reference h.channel h.timeout h.locked s.trackers[u].state h.ls] := by
  have dropped := s.modTracker_handOver_becomes u (fun k => { k with handover := none })
    (.handover u o s.tables.settings[u].reference h.channel h.timeout h.locked
      (s.modTracker u fun k => { k with handover := none }).trackers[u].state h.ls)
  rw [State.modTracker_trackers, if_pos rfl] at dropped
  unfold State.dropHandover State.handoverNotice
  rwa [State.modTracker_trackers, if_pos rfl]

theorem State.advanceTimeout_drops {h : Handover} (last : 63 ≤ h.timeout) :
    s.advanceTimeout u h = s.dropHandover u .timedOut { h with timeout := h.timeout + 1 } :=
  if_pos (Nat.succ_le_succ last)

theorem State.advanceTimeout_counts {h : Handover} (few : h.timeout < 63) : s.advanceTimeout u h =
    s.setTrackers (upd s.trackers u { s.trackers[u] with handover := some { h with timeout := h.timeout + 1 } }) :=
  if_neg (Nat.not_le.mpr (Nat.succ_lt_succ few))

theorem State.advanceHoldover_frees (limit : s.tables.settings[u].holdoverLimit ≤ s.trackers[u].holdoverCount + 1) :
    TrackerBecomes s (s.advanceHoldover u) u
      { s.trackers[u].enter .freerun with lfix := s.lnom, holdoverCount := 0 }
      [.tracker u .holdover .freerun .holdoverLimit s.tables.settings[u].reference s.lnom s.intake.count] := by
  rw [State.advanceHoldover, if_pos limit]
  exact s.modTracker_notice_becomes (f := fun k => { k.enter .freerun with lfix := s.lnom, holdoverCount := 0 })
    nofun .holdover .holdoverLimit

/-- Settles O35: each is the change that the count makes within a reception end. -/
theorem trackerCountsReachTheirLimits : Obligations.TrackerCountsReachTheirLimits := by
  intro s u running
  refine ⟨fun onBus aged => ?_, fun h pending unlocked last => ?_, fun holdover limit => ?_⟩
  · have due : s.resetLine = false ∧ s.trackers[u].state.onBus = true ∧
        ageReached s.lnom (satAdd 65535 s.trackers[u].detector.age 1) = true := by
      refine ⟨running, ?_, decide_eq_true aged⟩
      obtain on | on := onBus <;> rw [on] <;> rfl
    have lost := s.modTracker_lose_becomes (u := u)
      (f := fun k => { k with detector := { k.detector with age := satAdd 65535 k.detector.age 1 } }) rfl .noCrossing
    exact ⟨_, next_congr (if_pos due), lost⟩
  · refine ⟨s.advanceTimeout u h, ?_, ?_⟩
    · change execHandoverTimeout u s = _
      unfold execHandoverTimeout
      rw [pending]
      exact next_congr (if_pos ⟨running, unlocked, Nat.succ_le_succ last⟩)
    · rw [State.advanceTimeout_drops last, ← unlocked]
      exact s.dropHandover_becomes u .timedOut { h with timeout := h.timeout + 1 }
  · exact ⟨_, next_congr (if_pos ⟨running, holdover, limit⟩), State.advanceHoldover_frees limit⟩

end Sys2Proof.Machine
end


section
/-! SUPPORT. Crossings, dips and the work of a cycle end at one tracker (R67 to R86), and the handover requests. -/

namespace Sys2Proof.Machine

set_option Elab.async false

open Sys2Proof

variable {s m t : State} {u : TrackerId}

/-! ## Detectors (R67, R68, R83) -/

theorem Detector.classify_eq (d : Detector) (lnom : Nat) (start : Bool) (n : BitVec 32) (x : Int) :
    d.classify lnom start n x = crossingOf d lnom start n x := by
  unfold Detector.classify crossingOf
  cases start <;> cases d.previous <;> simp

theorem Detector.after_eq (d : Detector) (x : Int) (c : Crossing) : d.after x c = detectorAfter d x c := by
  cases c <;> rfl

/-- A lock count after an accepted crossing. -/
theorem nextLockCount_eq (count period m : Nat) :
    nextLockCount count period m = if ((m : Int) - period).natAbs ≤ period / 64 then min 4 (count + 1) else 0 := by
  simp [nextLockCount, inLockWindow, satAdd]

theorem Handover.examine_eq (h : Handover) (lnom : Nat) (start : Bool) (n : BitVec 32) (x : Int) :
    h.examine lnom start n x = shadowAfter h lnom start n x := by
  unfold Handover.examine shadowAfter
  rw [Detector.classify_eq]
  generalize crossingOf h.shadow lnom start n x = c
  cases c with
  | accepted a m => simp only [Detector.testLock, Detector.after_eq, nextLockCount_eq, detectorAfter]
  | _ => simp only [Detector.testLock, Detector.after_eq]

/-- The detector of a sample, then the tracker, then the shadow. -/
theorem State.examine_eq (s : State) (u : TrackerId) (start : Bool) (values : ChannelValues) :
    let k := s.trackers[u]
    let x := values[s.tables.settings[u].reference]
    let c := crossingOf k.detector s.lnom start s.intake.count x
    let a := s.setTrackers (upd s.trackers u { k with detector := detectorAfter k.detector x c })
    let b := (match c with
      | .accepted _ m => a.acceptCrossing u m
      | .rejected _ => a.rejectCrossing u
      | .none | .seed _ | .ignored => a).checkAge u
    s.examine u start values = b.setTrackers (upd b.trackers u { b.trackers[u] with
      handover := b.trackers[u].handover.map fun h =>
        shadowAfter h s.lnom start s.intake.count values[h.channel] }) := by
  intro k x c a b
  have main : s.examineMain u start x = b := by
    unfold State.examineMain
    rw [Detector.classify_eq]
    simp only [Detector.after_eq]
    rfl
  have frame := s.examineMain_frame u start x
  rw [main] at frame
  have lnom : b.lnom = s.lnom := by
    unfold State.lnom
    rw [frame.get .straps, frame.get .agreement]
  have count : b.intake.count = s.intake.count := congrArg Intake.count (frame.get .intake)
  unfold State.examine
  rw [main]
  unfold State.examineShadow
  simp only [Handover.examine_eq, lnom, count]
  rfl

/-! ## Crossings (R68, R69, R72, R73, R75) -/

theorem TrackerState.onBus_iff {x : TrackerState} : x.onBus = true ↔ x = .acquiring ∨ x = .locked := by
  cases x <;> simp [TrackerState.onBus]

theorem TrackerState.onBus_of_offBus {x : TrackerState} (h : x = .holdover ∨ x = .freerun) : x.onBus = false := by
  obtain rfl | rfl := h <;> rfl

theorem State.checkAge_loses (onBus : s.trackers[u].state = .acquiring ∨ s.trackers[u].state = .locked)
    (aged : 2 * s.lnom ≤ s.trackers[u].detector.age * 65536) : s.checkAge u = s.lose u .noCrossing := by
  refine if_pos ?_
  rw [TrackerState.onBus_iff.mpr onBus, ageReached, decide_eq_true aged]
  rfl

theorem State.checkAge_keeps (h : ¬((s.trackers[u].state = .acquiring ∨ s.trackers[u].state = .locked) ∧
    2 * s.lnom ≤ s.trackers[u].detector.age * 65536)) : s.checkAge u = s := by
  refine if_neg ?_
  rwa [Bool.and_eq_true, TrackerState.onBus_iff, ageReached, decide_eq_true_iff]

theorem State.acceptCrossing_locked (locked : s.trackers[u].state = .locked) (m : Nat) :
    TrackerBecomes s (s.acceptCrossing u m) u
      { s.trackers[u] with rejections := 0, lfix := filterPeriod s.lnom s.trackers[u].lfix m } [] := by
  have accepted : s.acceptCrossing u m =
      s.modTracker u fun k => { k with rejections := 0, lfix := filterPeriod s.lnom k.lfix m } := by
    unfold State.acceptCrossing
    simp only [locked]
  rw [accepted]
  exact s.modTracker_becomes u _

/-- A tracker that is ACQUIRING after an accepted crossing, before the lock. -/
def Tracker.acquired (lnom m : Nat) (k : Tracker) : Tracker :=
  { k with
    rejections := 0
    detector := { k.detector with lockCount := nextLockCount k.detector.lockCount k.lfix m }
    lfix := filterPeriod lnom k.lfix m }

theorem State.acceptCrossing_acquiring (acquiring : s.trackers[u].state = .acquiring) (m : Nat) : s.acceptCrossing u m =
    if nextLockCount s.trackers[u].detector.lockCount s.trackers[u].lfix m = 4 then
      ((s.modTracker u (.acquired s.lnom m)).modTracker u fun k => k.enter .locked).trackerNotice u .acquiring .lock
    else s.modTracker u (.acquired s.lnom m) := by
  unfold State.acceptCrossing
  simp only [acquiring]
  rfl

theorem State.acceptCrossing_reacquires (off : s.trackers[u].state = .holdover ∨ s.trackers[u].state = .freerun) (m : Nat) :
    TrackerBecomes s (s.acceptCrossing u m) u
      { s.trackers[u].enter .acquiring with
        rejections := 0, detector := { s.trackers[u].detector with lockCount := 0 } }
      [.tracker u s.trackers[u].state .acquiring .reacquire s.tables.settings[u].reference s.trackers[u].lfix
        s.intake.count] := by
  have changed := s.modTracker_notice_becomes (u := u) (f := fun k =>
    { k.enter .acquiring with rejections := 0, detector := { k.detector with lockCount := 0 } })
    nofun s.trackers[u].state .reacquire
  unfold State.acceptCrossing
  obtain off | off := off <;> simp only [off] at changed ⊢ <;> exact changed

theorem State.rejectCrossing_onBus (onBus : s.trackers[u].state = .acquiring ∨ s.trackers[u].state = .locked) :
    s.rejectCrossing u =
      let counted := s.modTracker u fun k => { k with rejections := satAdd 3 k.rejections 1 }
      if satAdd 3 s.trackers[u].rejections 1 = 3 then counted.lose u .rejections else counted := by
  unfold State.rejectCrossing
  rw [if_pos (TrackerState.onBus_iff.mpr onBus)]
  simp only [State.modTracker_trackers, if_true]

/-! ## The dip check (R70, R73) -/

theorem nextDipCount_of_onBus {x : TrackerState} (onBus : x = .acquiring ∨ x = .locked) (n : Nat) :
    nextDipCount x n true = min 2 (n + 1) := by
  unfold nextDipCount
  rw [if_pos (TrackerState.onBus_iff.mpr onBus)]
  rfl

/-- The dip check of a tracker that it does not lose. -/
theorem State.dipCheck_keeps (dip : Bool) (is : isDip s.tables.settings[u].dipThreshold s.trackers[u].halfSum = dip)
    (few : s.trackers[u].state.onBus = false ∨ nextDipCount s.trackers[u].state s.trackers[u].dipCount dip ≠ 2) :
    TrackerBecomes s (s.dipCheck u) u (s.trackers[u].halfChecked dip) [] := by
  rw [State.dipCheck_eq, is, if_neg]
  · exact s.modTracker_becomes u (.halfChecked dip)
  · rw [State.modTracker_trackers, if_pos rfl]
    simpa [Tracker.halfChecked, imp_iff_not_or] using few

theorem State.dipCheck_loses (onBus : s.trackers[u].state = .acquiring ∨ s.trackers[u].state = .locked)
    (is : isDip s.tables.settings[u].dipThreshold s.trackers[u].halfSum = true) (again : 1 ≤ s.trackers[u].dipCount) :
    TrackerBecomes s (s.dipCheck u) u (s.trackers[u].halfChecked true).lose
      [s.changeNotice u s.trackers[u].state (s.trackers[u].halfChecked true).lose .dips] := by
  rw [State.dipCheck_eq, is, if_pos]
  · exact s.modTracker_lose_becomes (f := .halfChecked true) rfl .dips
  · rw [State.modTracker_trackers, if_pos rfl]
    have second : nextDipCount s.trackers[u].state s.trackers[u].dipCount true = 2 := by
      rw [nextDipCount_of_onBus onBus]
      omega
    rw [Bool.and_eq_true, decide_eq_true_iff]
    exact ⟨TrackerState.onBus_iff.mpr onBus, second⟩

theorem Tracker.halfChecked_false (k : Tracker) : k.halfChecked false = { k with halfSum := 0, dipCount := 0 } := by
  simp [Tracker.halfChecked, nextDipCount]

theorem isDip_of {threshold halfSum : Nat} (h : threshold ≠ 0 ∧ halfSum / 64 < threshold) :
    isDip threshold halfSum = true := by
  rw [isDip, ← Bool.decide_and]
  exact decide_eq_true h

/-- Settles O34: by the class of the sample, the state of the tracker and its counts. -/
theorem crossingsAndDipsMoveTheTracker : Obligations.CrossingsAndDipsMoveTheTracker := by
  intro s u
  refine ⟨s.examine_eq u, ⟨fun late => ?_, State.checkAge_keeps⟩, fun m => ⟨fun locked => ?_, fun acquiring => ⟨fun few => ?_,
    fun four => ?_⟩, fun off => ?_⟩, fun onBus => ⟨fun few => ?_, fun third => ?_⟩, fun off => ?_, fun calm => ?_,
    fun dip off => ?_, fun dip onBus => ⟨fun first => ?_, fun again => ?_⟩⟩
  · rw [State.checkAge_loses late.1 late.2]
    exact s.lose_becomes u .noCrossing
  · exact State.acceptCrossing_locked locked m
  · rw [← nextLockCount_eq] at few ⊢
    rw [State.acceptCrossing_acquiring acquiring, if_neg (Nat.ne_of_lt few)]
    exact s.modTracker_becomes u (.acquired s.lnom m)
  · have locks := (s.modTracker_becomes u (.acquired s.lnom m)).trans
      ((s.modTracker u (.acquired s.lnom m)).modTracker_notice_becomes (u := u) (f := fun k => k.enter .locked)
        nofun .acquiring .lock)
    rw [← nextLockCount_eq] at four ⊢
    rw [State.acceptCrossing_acquiring acquiring, if_pos four]
    rw [State.modTracker_trackers, if_pos rfl] at locks
    rw [acquiring]
    exact locks
  · exact State.acceptCrossing_reacquires off m
  · rw [State.rejectCrossing_onBus onBus]
    have counted := s.modTracker_becomes u fun k => { k with rejections := satAdd 3 k.rejections 1 }
    have sum : satAdd 3 s.trackers[u].rejections 1 = s.trackers[u].rejections + 1 := satAdd_of_le (by omega)
    simp only [sum, if_neg (show s.trackers[u].rejections + 1 ≠ 3 by omega)] at counted ⊢
    exact counted
  · rw [State.rejectCrossing_onBus onBus]
    have sum : satAdd 3 s.trackers[u].rejections 1 = 3 := Nat.min_eq_left (by omega)
    simp only [sum, if_true]
    exact s.modTracker_lose_becomes (f := fun k => { k with rejections := satAdd 3 k.rejections 1 }) rfl .rejections
  · refine if_neg ?_
    rw [TrackerState.onBus_of_offBus off]
    exact Bool.false_ne_true
  · rw [← Tracker.halfChecked_false]
    refine State.dipCheck_keeps false ?_ (.inr ?_)
    · rwa [isDip, ← Bool.decide_and, decide_eq_false_iff_not]
    · simp [nextDipCount]
  · have checked := State.dipCheck_keeps true (isDip_of dip) (.inl (TrackerState.onBus_of_offBus off))
    rw [Tracker.halfChecked, nextDipCount, TrackerState.onBus_of_offBus off] at checked
    exact checked
  · have checked := State.dipCheck_keeps true (isDip_of dip) (.inr (by rw [nextDipCount_of_onBus onBus, first]; decide))
    rw [Tracker.halfChecked, nextDipCount_of_onBus onBus, first] at checked
    exact checked
  · exact State.dipCheck_loses onBus (isDip_of dip) again

end Sys2Proof.Machine
end


section
/-! SUPPORT. Reference handover: the work of a cycle end at one tracker (R74, R80, R85, R86), and the handover requests
(R82, R87). -/

namespace Sys2Proof.Machine

set_option Elab.async false

open Sys2Proof

variable {s m t : State} {u : TrackerId}

/-! ## The handover step (R80, R85, R86) -/

/-- The commit of a locked handover: the reference moves with the tracker, and the notices are in this order. -/
theorem State.commit_commits (s : State) (u : TrackerId) (h : Handover) (locked : h.locked = true) :
    let t := s.commit u h
    SameOutside [.trackers, .tables, .ports, .latches] s t ∧
      t.tables = { s.tables with
        settings := upd s.tables.settings u { s.tables.settings[u] with reference := h.channel } } ∧
      t.trackers[u] = s.trackers[u].commit h ∧ t.trackers[1 - u] = s.trackers[1 - u] ∧
      Noticed s t
        (NoticeBody.handover u .committed s.tables.settings[u].reference h.channel h.timeout true .locked h.ls ::
          if s.trackers[u].state = .locked then []
          else [.tracker u s.trackers[u].state .locked .commit h.channel h.ls s.intake.count]) := by
  intro t
  let a := s.modSettings u fun x => { x with reference := h.channel }
  let b := a.modTracker u fun k => k.commit h
  have own : b.trackers[u] = s.trackers[u].commit h := by rw [State.modTracker_trackers, if_pos rfl]; rfl
  let n : NoticeBody := .handover u .committed s.tables.settings[u].reference h.channel h.timeout true .locked h.ls
  have committed : TrackerBecomes a (b.handOver n) u (s.trackers[u].commit h) [n] :=
    a.modTracker_handOver_becomes u (fun k => k.commit h) n
  have notice : b.handoverNotice u .committed s.tables.settings[u].reference h = b.handOver n := by
    unfold State.handoverNotice
    rw [own, locked]
    rfl
  have changes : ∃ l, TrackerBecomes a t u (s.trackers[u].commit h) l ∧ l = n :: if s.trackers[u].state = .locked then []
      else [.tracker u s.trackers[u].state .locked .commit h.channel h.ls s.intake.count] := by
    have step : t = if s.trackers[u].state = .locked then b.handOver n
        else (b.handOver n).trackerNotice u s.trackers[u].state .commit := by
      rw [← notice]
      rfl
    rw [step]
    split
    · exact ⟨_, committed, rfl⟩
    · have noticed := committed.trans ((b.handOver n).handOver_becomes u (.tracker u s.trackers[u].state
        (b.handOver n).trackers[u].state .commit (b.handOver n).tables.settings[u].reference ((b.handOver n).lfix u)
        (b.handOver n).intake.count))
      have tracker : (b.handOver n).trackers[u] = s.trackers[u].commit h := committed.2.1
      have reference : (b.handOver n).tables.settings[u].reference = h.channel := by
        rw [show (b.handOver n).tables = b.tables from (b.handOver_frame n).get .tables]
        exact congrArg TrackerSettings.reference ((getElem_modAt ..).trans (if_pos rfl))
      have count : (b.handOver n).intake.count = s.intake.count :=
        congrArg Intake.count ((b.handOver_frame n).get .intake)
      unfold State.trackerNotice
      rw [State.lfix, tracker, reference, count] at noticed ⊢
      exact ⟨_, noticed, rfl⟩
  obtain ⟨l, ⟨frame, became, other, noticed⟩, rfl⟩ := changes
  have settings : SameOutside [.tables] s a := s.modSettings_frame u _
  exact ⟨settings.andThen frame, frame.get .tables, became, other, noticed.congr rfl rfl rfl⟩

theorem State.handoverStep_idle (h : s.trackers[u].handover = none) : s.handoverStep u = s := by
  unfold State.handoverStep
  rw [h]

theorem State.handoverStep_pending {h : Handover} (pending : s.trackers[u].handover = some h) :
    s.handoverStep u = if h.locked then s.commit u h else s.advanceTimeout u h := by
  unfold State.handoverStep
  rw [pending]

theorem State.advanceHoldover_counts (few : s.trackers[u].holdoverCount + 1 < s.tables.settings[u].holdoverLimit) :
    s.advanceHoldover u = s.setTrackers
      (upd s.trackers u { s.trackers[u] with holdoverCount := s.trackers[u].holdoverCount + 1 }) :=
  if_neg (Nat.not_le.mpr few)

/-- Settles O37: the steps of the tracker's work, and what the handover step and the holdover step do. -/
theorem handoverStepOfACycleEnd : Obligations.HandoverStepOfACycleEnd := by
  refine ⟨fun st => by cases st <;> rfl, fun s u => ?work, fun s u => ⟨State.handoverStep_idle, fun h pending =>
    ⟨fun locked => ?commit, fun unlocked few => ?counts, fun unlocked last => ?drops⟩⟩,
    fun s u => ⟨State.advanceHoldover_counts, State.advanceHoldover_frees⟩⟩
  case work =>
    let b := s.dipCheck u
    let c := b.handoverStep u
    let due := decide (c.trackers[u].state = .holdover) &&
      !(decide (s.trackers[u].state ≠ .holdover) && decide (b.trackers[u].state = .holdover))
    refine ⟨b, c, if due = true then c.advanceHoldover u else c, rfl, rfl, rfl, ⟨fun holdover fresh => if_pos ?_,
      fun kept => if_neg ?_⟩, rfl⟩
    · simp only [due, Bool.and_eq_true, decide_eq_true_iff, Bool.not_eq_true', Bool.and_eq_false_iff, decide_eq_false_iff_not]
      tauto
    · simp only [due, Bool.and_eq_true, decide_eq_true_iff, Bool.not_eq_true', Bool.and_eq_false_iff, decide_eq_false_iff_not]
      tauto
  case commit =>
    rw [State.handoverStep_pending pending, if_pos locked]
    exact s.commit_commits u h locked
  case counts =>
    rw [State.handoverStep_pending pending, if_neg (by simp [unlocked])]
    exact State.advanceTimeout_counts few
  case drops =>
    rw [State.handoverStep_pending pending, if_neg (by simp [unlocked]), State.advanceTimeout_drops last, ← unlocked]
    exact s.dropHandover_becomes u .timedOut { h with timeout := h.timeout + 1 }

/-! ## The handover requests (R82, R87) -/

theorem readTrackerId_val (u : TrackerId) : readTrackerId u.val = some u := dif_pos u.isLt

theorem readTapId_val (tap : TapId) : readTapId tap.val = some tap := dif_pos tap.isLt

theorem readChannel_val (c : Channel) : readChannel c.val = some c := dif_pos c.isLt

theorem oneByte_eq (n : Nat) : oneByte n = [BitVec.ofNat 8 n] := by
  simp [oneByte, toBE]

theorem serveHandoverStart_starts {r : Request} {c : Channel} (own : byteAt r.body 0 = u.val) (start : byteAt r.body 1 = 0)
    (channel : byteAt r.body 2 = c.val) : serveHandoverStart s r = s.startHandover r u c := by
  unfold serveHandoverStart
  rw [if_neg (by omega), if_pos start, own, channel, readTrackerId_val, readChannel_val]

theorem serveHandoverCancel_idle {r : Request} (own : byteAt r.body 0 = u.val) (cancel : byteAt r.body 1 = 1)
    (none : s.trackers[u].handover = none) : serveHandoverCancel s r = s.refuse r .wrongState := by
  unfold serveHandoverCancel
  rw [if_pos cancel, own, readTrackerId_val]
  simp only [none]

theorem serveHandoverCancel_pending {r : Request} (own : byteAt r.body 0 = u.val) (cancel : byteAt r.body 1 = 1)
    {h : Handover} (pending : s.trackers[u].handover = some h) :
    serveHandoverCancel s r = (s.dropHandover u .cancelled h).answer r .done [] := by
  unfold serveHandoverCancel
  rw [if_pos cancel, own, readTrackerId_val]
  simp only [pending]

/-- An answer reads the ports, the management unit, the straps and the reset line only. -/
theorem Answered.congr {r : Request} {x : Result} {b : Bytes} (h : Answered m t r x b) (ports : m.ports = s.ports)
    (management : m.management = s.management) (straps : m.straps = s.straps) (line : m.resetLine = s.resetLine) :
    Answered s t r x b := by
  obtain ⟨slot, idle, queue, cause, resetWaiting, kept, notices, reports, firstReport, sending, choice⟩ := h
  rw [ports] at kept notices reports firstReport sending choice
  rw [management] at queue cause resetWaiting
  rw [straps, line] at choice
  exact ⟨slot, idle, queue, cause, resetWaiting, kept, notices, reports, firstReport, sending, choice⟩

/-- The blocks that the serving of a request may change before its answer. -/
abbrev servedBlocks : List Block :=
  [.wire, .latches, .agreement, .tables, .intake, .trackers, .former, .engine, .accounts, .records, .choices, .pending]

theorem SameOutside.answered (h : SameOutside servedBlocks s m) (r : Request) (x : Result) (b : Bytes) :
    Answered s (m.answer r x b) r x b :=
  (m.answer_answered r x b).congr (h.get .ports) (h.get .management) (h.get .straps) (h.get .resetLine)

/-- A refusal answers with an empty body and changes nothing else. -/
theorem State.refuse_answered (s : State) (r : Request) (x : Result) :
    Answered s (s.refuse r x) r x [] ∧ SameOutside [.ports, .management] s (s.refuse r x) :=
  ⟨s.answer_answered r x [], s.refuse_frame r x⟩

/-- Settles O36: the checks in their order, and the notice before the answer. -/
theorem handoverRequests : Obligations.HandoverRequests := by
  intro s r u serving own
  refine ⟨fun c start channel => ⟨_, next_congr (State.serve_of_serving s serving), ?_⟩,
    fun cancel => ⟨_, next_congr (State.serve_of_serving s serving), fun idle => ?_, fun h pending => ?_⟩⟩
  · rw [serveHandoverStart_starts own start channel, State.startHandover]
    refine ⟨fun refused => ?_, fun running idle => ?_⟩
    · rw [if_pos refused]
      exact s.refuse_answered r _
    · rw [if_neg (by rw [running, idle]; decide)]
      refine ⟨fun same => ?_, fun other => ?_⟩
      · rw [if_pos same]
        exact s.refuse_answered r _
      · rw [if_neg other]
        have started := s.modTracker_becomes u fun k => { k with handover := some (.start c k.lfix) }
        obtain ⟨-, became, kept, -⟩ := started
        have trackers : ((s.modTracker u fun k => { k with handover := some (.start c k.lfix) }).answer r .done
            (oneByte u.val ++ oneByte c.val ++ toBE 4 s.trackers[u].lfix)).trackers = _ :=
          (State.answer_frame _ r _ _).get .trackers
        rw [trackers]
        refine ⟨?_, ((s.modTracker_frame u _).answer r _ _).wider, became, kept⟩
        have body := SameOutside.answered (s.modTracker_frame u fun k => { k with handover := some (.start c k.lfix) }).wider
          r .done (oneByte u.val ++ oneByte c.val ++ toBE 4 s.trackers[u].lfix)
        rwa [oneByte_eq, oneByte_eq] at body ⊢
  · rw [serveHandoverCancel_idle own cancel idle]
    exact s.refuse_answered r _
  · rw [serveHandoverCancel_pending own cancel pending]
    obtain ⟨frame, became, kept, noticed⟩ := s.dropHandover_becomes u .cancelled h
    have trackers : ((s.dropHandover u .cancelled h).answer r .done []).trackers = (s.dropHandover u .cancelled h).trackers :=
      (State.answer_frame _ r _ _).get .trackers
    rw [trackers]
    refine ⟨?_, (frame.answer r _ _).wider, became, kept,
      noticed.answer (frame.get .straps) (frame.get .resetLine) r .done []⟩
    rw [State.answer_management, frame.get .management]

end Sys2Proof.Machine
end


section
/-! SUPPORT. What a stream break and the leaving of AGREED do to the trackers and the cycle former (R29, R63, R79, R88,
R91), and the silence expiry. -/

namespace Sys2Proof.Machine

set_option Elab.async false

open Sys2Proof

variable {s m t : State} {u v : TrackerId}

theorem State.mapFormerTaps_taps (s : State) (f : TapId → FormerTap → FormerTap) (tap : TapId) :
    (s.mapFormerTaps f).former.taps[tap] = f tap s.former.taps[tap] := getElem_ofFn_fin _ _

theorem State.mapFormerTaps_trackers (s : State) (f : TapId → FormerTap → FormerTap) :
    (s.mapFormerTaps f).former.trackers = s.former.trackers := rfl

theorem State.cycleSource_congr (h : ∀ w : TrackerId, t.trackers[w].state = s.trackers[w].state) (v : TrackerId) :
    t.cycleSource v = s.cycleSource v := by
  simp only [State.cycleSource, h]

/-- The source of a tracker's cycles runs, unless it follows (R39, R77). -/
theorem State.cycleSource_of_running (h : s.trackers[v].state.isRunning = true) : s.cycleSource v = some v := by
  unfold State.cycleSource
  revert h
  cases s.trackers[v].state <;> simp [TrackerState.isRunning]

theorem State.cycleStart_taps (s : State) (u : TrackerId) (tap : TapId) : (s.cycleStart u).former.taps[tap] =
    if s.cycleSource (s.tapTracker tap) = some u then s.former.taps[tap].cycleStart else s.former.taps[tap] :=
  s.mapFormerTaps_taps _ tap

theorem State.startResampler_taps (s : State) (u : TrackerId) (tap : TapId) : (s.startResampler u).former.taps[tap] =
    if s.cycleSource (s.tapTracker tap) = some u then s.former.taps[tap].cycleStart else s.former.taps[tap] :=
  State.cycleStart_taps _ u tap

theorem State.startResampler_trackers (s : State) (u v : TrackerId) : (s.startResampler u).former.trackers[v] =
    if u = v then { s.former.trackers[v] with resampler := some (.start s.trackers[u].lfix) }
    else s.former.trackers[v] :=
  s.modFormerTracker_trackers u v _

/-! ## One tracker at a break -/

/-- A tap whose cycle is abandoned, on the resampler `o` of its cycle, and that begins the next (R63, R100). -/
def FormerTap.broken (f : FormerTap) (o : Option Resampler) : FormerTap :=
  match o with
  | none => f.cycleStart
  | some r => (f.abandon r.breakSamples).cycleStart

/-- From s to t tracker u has been through a break, which has an effect on it where it runs (R63, R79, R91). -/
structure TrackerBroken (s t : State) (u : TrackerId) : Prop where
  tables : t.tables = s.tables
  trackers : ∀ v : TrackerId, t.trackers[v] =
    if u = v ∧ s.trackers[v].state.isRunning = true then s.trackers[v].atBreak else s.trackers[v]
  resamplers : ∀ v : TrackerId, t.former.trackers[v] =
    if u = v ∧ s.trackers[v].state.isRunning = true then
      { s.former.trackers[v] with resampler := some (.start s.trackers[v].lfix) }
    else s.former.trackers[v]
  taps : ∀ tap : TapId, t.former.taps[tap] =
    if s.cycleSource (s.tapTracker tap) = some u ∧ s.trackers[u].state.isRunning = true then
      s.former.taps[tap].broken s.former.trackers[u].resampler
    else s.former.taps[tap]
  time : t.former.second = s.former.second ∧ t.former.pendingTariff = s.former.pendingTariff

theorem State.abandonCycle_taps (s : State) (u : TrackerId) (n : Resampler → Nat) (w : TapId → Bool) (tap : TapId) :
    (s.abandonCycle u n w).former.taps[tap] = match s.former.trackers[u].resampler with
      | none => s.former.taps[tap]
      | some r => if w tap then s.former.taps[tap].abandon (n r) else s.former.taps[tap] := by
  unfold State.abandonCycle
  cases s.former.trackers[u].resampler with
  | none => rfl
  | some r => exact State.mapFormerTaps_taps _ _ _

/-- A tap that was not collecting loses nothing. -/
theorem FormerTap.abandon_if_collecting (f : FormerTap) (n : Nat) :
    (if decide (f.collect = .collecting) = true then f.abandon n else f) = f.abandon n := by
  unfold FormerTap.abandon
  cases collect : f.collect <;> simp

theorem State.tapTracker_congr (tables : t.tables = s.tables) (tap : TapId) : t.tapTracker tap = s.tapTracker tap :=
  congrArg (fun x : Tables => x.taps[tap].entry.tracker) tables

/-- What the abandoning of a cycle keeps of the cycle former. -/
theorem State.abandonCycle_former (s : State) (u : TrackerId) (n : Resampler → Nat) (w : TapId → Bool) :
    (s.abandonCycle u n w).former = { s.former with taps := (s.abandonCycle u n w).former.taps } := by
  unfold State.abandonCycle
  split <;> rfl

/-- A running tracker's break. -/
theorem State.breakTracker_running (running : s.trackers[u].state.isRunning = true) :
    TrackerBroken s (s.breakTracker u) u := by
  rw [State.breakTracker, if_pos running]
  let a := s.abandonCycle u Resampler.breakSamples fun tap => s.collectsFrom u tap
  let b := a.modTracker u Tracker.atBreak
  have trackers : a.trackers = s.trackers := (s.abandonCycle_frame u _ _).get .trackers
  have tables : a.tables = s.tables := (s.abandonCycle_frame u _ _).get .tables
  have former := s.abandonCycle_former u Resampler.breakSamples fun tap => s.collectsFrom u tap
  have formers : b.former.trackers = s.former.trackers := (congrArg Former.trackers former :)
  have becomes (v : TrackerId) : b.trackers[v] = if u = v then s.trackers[v].atBreak else s.trackers[v] := by
    rw [State.modTracker_trackers, trackers]
  have source (v : TrackerId) : b.cycleSource v = s.cycleSource v := by
    refine State.cycleSource_congr (fun w => ?_) v
    rw [becomes]
    split <;> rfl
  have tapTracker (tap : TapId) : b.tapTracker tap = s.tapTracker tap := State.tapTracker_congr tables tap
  have taps (tap : TapId) : b.former.taps[tap] = _ :=
    s.abandonCycle_taps u Resampler.breakSamples (fun tap => s.collectsFrom u tap) tap
  change TrackerBroken s (b.startResampler u) u
  refine ⟨tables, fun v => ?_, fun v => ?_, fun tap => ?_, (congrArg Former.second former :),
    (congrArg Former.pendingTariff former :)⟩
  · refine (becomes v).trans (if_congr ⟨fun own => ⟨own, own ▸ running⟩, fun h => h.1⟩ rfl rfl)
  · rw [State.startResampler_trackers, formers, becomes, if_pos rfl]
    by_cases own : u = v
    · subst own
      rw [if_pos rfl, if_pos ⟨rfl, running⟩]
      rfl
    · rw [if_neg own, if_neg fun h => own h.1]
  · rw [State.startResampler_taps, source, tapTracker, taps]
    by_cases is : s.cycleSource (s.tapTracker tap) = some u
    · rw [if_pos is, if_pos ⟨is, running⟩]
      unfold FormerTap.broken
      cases s.former.trackers[u].resampler with
      | none => rfl
      | some r =>
        dsimp only
        rw [State.collectsFrom, decide_eq_true is, Bool.and_true, FormerTap.abandon_if_collecting]
    · rw [if_neg is, if_neg fun h => is h.1]
      split
      · rfl
      · rw [State.collectsFrom, decide_eq_false is, Bool.and_false]
        rfl

theorem State.breakTracker_broken (s : State) (u : TrackerId) : TrackerBroken s (s.breakTracker u) u := by
  cases running : s.trackers[u].state.isRunning with
  | true => exact State.breakTracker_running running
  | false =>
    have stopped (v : TrackerId) : ¬(u = v ∧ s.trackers[v].state.isRunning = true) := by
      rintro ⟨rfl, h⟩
      exact absurd (running.symm.trans h) nofun
    rw [State.breakTracker, if_neg (by rw [running]; exact Bool.false_ne_true)]
    exact ⟨rfl, fun v => (if_neg (stopped v)).symm, fun v => (if_neg (stopped v)).symm,
      fun tap => (if_neg fun h => stopped u ⟨rfl, h.2⟩).symm, rfl, rfl⟩

/-! ## Both trackers -/

theorem satAdd_zero_satAdd (m a n : Nat) : satAdd m (satAdd m a n) 0 = min m (a + n) := by
  unfold satAdd
  omega

theorem FormerTap.broken_collecting {f : FormerTap} (h : f.collect = .collecting) (r : Resampler) :
    f.broken (some r) = tapCleared .collecting (f.unaccounted + if r.point = 0 then 0 else r.samples) := by
  simp only [FormerTap.broken, FormerTap.abandon, h, FormerTap.cycleStart, FormerTap.clear, FormerTap.addUnaccounted,
    FormerTap.gap, satAdd_zero_satAdd, tapCleared, PointArea.cleared, Resampler.breakSamples]

theorem FormerTap.broken_joining {f : FormerTap} {gap : Option Nat} (h : f.collect = .joining gap) (o : Option Resampler) :
    f.broken o = tapCleared .collecting (f.unaccounted + gap.getD 0) := by
  have waits : f.broken o = f.cycleStart := by
    cases o with
    | none => rfl
    | some r => simp only [FormerTap.broken, FormerTap.abandon, h]
  rw [waits]
  cases gap <;> simp only [FormerTap.cycleStart, FormerTap.clear, FormerTap.addUnaccounted, FormerTap.gap, h, tapCleared,
    PointArea.cleared, satAdd, Option.getD]

theorem FormerTap.broken_inactive {f : FormerTap} (h : f.collect = .inactive) (o : Option Resampler) : f.broken o = f := by
  cases o <;> simp only [FormerTap.broken, FormerTap.abandon, FormerTap.cycleStart, h]

/-- A break of both trackers, on each by what it was before. -/
theorem State.breakCycles_eq (s : State) :
    (∀ v : TrackerId, s.breakCycles.trackers[v] =
      if s.trackers[v].state.isRunning = true then s.trackers[v].atBreak else s.trackers[v]) ∧
    (∀ v : TrackerId, s.breakCycles.former.trackers[v] = if s.trackers[v].state.isRunning = true then
      { s.former.trackers[v] with resampler := some (.start s.trackers[v].lfix) } else s.former.trackers[v]) ∧
    (∀ tap : TapId, s.breakCycles.former.taps[tap] = s.former.taps[tap] ∨ ∃ o,
      s.breakCycles.former.taps[tap] = s.former.taps[tap].broken o) ∧
    ∀ (tap : TapId) (u : TrackerId), s.cycleSource (s.tapTracker tap) = some u → s.trackers[u].state.isRunning = true →
      s.breakCycles.former.taps[tap] = s.former.taps[tap].broken s.former.trackers[u].resampler := by
  have first := s.breakTracker_broken 0
  have second := (s.breakTracker 0).breakTracker_broken 1
  have state (v : TrackerId) : (s.breakTracker 0).trackers[v].state = s.trackers[v].state := by
    rw [first.trackers]
    split <;> rfl
  have source := State.cycleSource_congr state
  have tapTracker := State.tapTracker_congr first.tables
  have later : (s.breakTracker 0).trackers[(1 : TrackerId)] = s.trackers[(1 : TrackerId)] :=
    (first.trackers 1).trans (if_neg (by simp))
  have laterFormer : (s.breakTracker 0).former.trackers[(1 : TrackerId)] = s.former.trackers[(1 : TrackerId)] :=
    (first.resamplers 1).trans (if_neg (by simp))
  unfold State.breakCycles
  refine ⟨Fin.forall_fin_two.mpr ⟨?_, ?_⟩, Fin.forall_fin_two.mpr ⟨?_, ?_⟩, fun tap => ?_, fun tap u is running => ?_⟩
  · rw [second.trackers, first.trackers, if_neg (by simp)]
    simp only [true_and]
  · rw [second.trackers, later]
    simp only [true_and]
  · rw [second.resamplers, first.resamplers, if_neg (by simp)]
    simp only [true_and]
  · rw [second.resamplers, later, laterFormer]
    simp only [true_and]
  · rw [second.taps, first.taps, tapTracker, source]
    by_cases one : s.cycleSource (s.tapTracker tap) = some 1
    · have other : ¬(s.cycleSource (s.tapTracker tap) = some 0 ∧ s.trackers[(0 : TrackerId)].state.isRunning = true) :=
        fun h => absurd (one.symm.trans h.1) (by decide)
      rw [if_neg other]
      split
      · exact .inr ⟨_, rfl⟩
      · exact .inl rfl
    · rw [if_neg (fun h => one h.1)]
      split
      · exact .inr ⟨_, rfl⟩
      · exact .inl rfl
  · rw [second.taps, first.taps, tapTracker, source, is, later, laterFormer]
    revert u
    refine Fin.forall_fin_two.mpr ⟨fun _ running => ?_, fun _ running => ?_⟩
    · rw [if_neg (fun h => absurd h.1 (by decide)), if_pos ⟨rfl, running⟩]
    · rw [if_pos ⟨rfl, running⟩, if_neg (fun h => absurd h.1 (by decide))]

/-- The trackers break one after the other, each on its own taps. -/
theorem State.breakCycles_broken (s : State) : CyclesBroken s s.breakCycles := by
  obtain ⟨trackers, formers, some, own⟩ := s.breakCycles_eq
  have first := s.breakTracker_broken 0
  have second := (s.breakTracker 0).breakTracker_broken 1
  refine ⟨fun u running => ?_, fun u stopped => ?_, fun u running => ?_, fun tap u r is running resampler collects => ?_,
    fun tap u gap is running joins => ?_, fun tap idle => ?_, second.time.1.trans first.time.1,
    second.time.2.trans first.time.2⟩
  · rw [trackers, if_pos running]
    rfl
  · rw [trackers, formers, if_neg (by rw [stopped]; exact Bool.false_ne_true), if_neg (by rw [stopped]; exact Bool.false_ne_true)]
    exact ⟨rfl, rfl⟩
  · rw [formers, if_pos running]
    rfl
  · rw [own tap u is running, resampler, FormerTap.broken_collecting collects]
    rfl
  · rw [own tap u is running, FormerTap.broken_joining joins]
    rfl
  · obtain same | ⟨o, broken⟩ := some tap
    · exact same
    · rw [broken, FormerTap.broken_inactive idle]

/-- Blocks of which `CyclesBroken` does not speak may change after the break. -/
theorem CyclesBroken.congr (h : CyclesBroken s m) (trackers : t.trackers = m.trackers) (former : t.former = m.former) :
    CyclesBroken s t := by
  obtain ⟨running, idle, resampler, collecting, joining, inactive, time⟩ := h
  rw [← trackers] at running idle
  rw [← former] at idle resampler collecting joining inactive time
  exact ⟨running, idle, resampler, collecting, joining, inactive, time⟩

end Sys2Proof.Machine
end


section
/-! SUPPORT. The agreement unit (chapter 2): its timers, partner OFFERs in LISTEN, breaks of the stream and
renegotiation. -/

namespace Sys2Proof.Machine

set_option Elab.async false

open Sys2Proof

variable {s m t : State} {l k : List NoticeBody}

/-! ## Notices beside other changes of the ports and latches -/

/-- Handing over notices neither reads nor writes STREAM_INTACT. -/
theorem HandedOver.setStreamIntact {p q : Ports} {x y : Latches} (h : HandedOver s p x q y l) (b : Bool) :
    HandedOver s p { x with streamIntact := b } q { y with streamIntact := b } l :=
  ⟨h.ports, h.sending, h.starts, by rw [h.latches]⟩

/-- Port A's choice does not see what waits for port B. -/
theorem Ports.chooseA_sideB (p : Ports) (station : BitVec 6) (n : List Notice) (b : Option Transmission) (turn : Turn) :
    Ports.chooseA station { p with noticeQueue := n, txB := b, turn := turn } =
      { p.chooseA station with noticeQueue := n, txB := b, turn := turn } := by
  obtain ⟨linkA, linkB, txA, txB, relayQueue, offer, _⟩ := p
  unfold Ports.chooseA Ports.freeA
  dsimp only
  split
  · cases offer <;> cases relayQueue <;> rfl
  · rfl

/-- Port B's choice does not see what port A sends. -/
theorem Ports.chooseB_sideA (p : Ports) (station : BitVec 6) (a : Option Transmission) (o : OfferPlace) :
    Ports.chooseB station { p with txA := a, offer := o } = { p.chooseB station with txA := a, offer := o } := by
  have own : Ports.ownItem station { p with txA := a, offer := o } = p.ownItem station := rfl
  have pass : Ports.passItem { p with txA := a, offer := o } = p.passItem := rfl
  have free : Ports.freeB { p with txA := a, offer := o } = p.freeB := rfl
  unfold Ports.chooseB
  rw [own, pass, free]
  split
  · cases p.ownItem station with
    | none => cases p.passItem <;> rfl
    | some y =>
      cases p.passItem with
      | none => rfl
      | some x => cases p.turn <;> rfl
  · rfl

/-- Handing over notices does not see what port A sends. -/
theorem HandedOver.sideA {p q : Ports} {x y : Latches} (h : HandedOver s p x q y l) (a : Option Transmission)
    (o : OfferPlace) : HandedOver s { p with txA := a, offer := o } x { q with txA := a, offer := o } y l := by
  refine ⟨by conv_lhs => rw [h.ports], h.sending, fun n rest is running free notices room => ?_, h.latches⟩
  obtain ⟨sends, turn⟩ := h.starts n rest is running free notices room
  have chosen := Ports.chooseB_sideA
    { p with noticeQueue := p.noticeQueue ++ [⟨s.tables.station.destination, n⟩] } s.straps.station a o
  exact ⟨sends.trans (congrArg Ports.txB chosen).symm, turn.trans (congrArg Ports.turn chosen).symm⟩

/-- An OFFER placed after the notices, with port A's choice. -/
theorem HandedOver.offer {p q : Ports} {x y : Latches} (h : HandedOver s p x q y l) (station : BitVec 6) (o : OfferPlace) :
    HandedOver s (Ports.chooseA station { p with offer := o }) x (Ports.chooseA station { q with offer := o }) y l := by
  have before := Ports.chooseA_eq { p with offer := o } station
  have after : Ports.chooseA station { q with offer := o } = { q with
      txA := (Ports.chooseA station { p with offer := o }).txA
      offer := (Ports.chooseA station { p with offer := o }).offer } := by
    have same : ({ q with offer := o } : Ports) = { ({ p with offer := o } : Ports) with
        noticeQueue := q.noticeQueue, txB := q.txB, turn := q.turn } := by rw [h.ports]
    rw [same, Ports.chooseA_sideB]
    conv_lhs => rw [before]
    rw [h.ports]
  rw [before, after]
  exact h.sideA _ _

/-! ## OFFERs placed (R12, R19) -/

theorem OfferPlace.place_eq (p : OfferPlace) (o : Offer) : p.place o = .waiting o ∨ ∃ x, p.place o = .replaced x o := by
  cases p with
  | empty => exact .inl rfl
  | waiting x => exact .inl rfl
  | sending x => exact .inr ⟨x, rfl⟩
  | replaced x y => exact .inr ⟨x, rfl⟩

/-- An OFFER placed is the one that the place sends last, also where the choice starts it. -/
theorem Ports.chooseA_place_holds (p : Ports) (station : BitVec 6) (q : OfferPlace) (o : Offer) :
    (Ports.chooseA station { p with offer := q.place o }).offer.Holds o := by
  unfold Ports.chooseA OfferPlace.Holds
  dsimp only
  obtain waiting | ⟨x, replaced⟩ := q.place_eq o
  · rw [waiting]
    split
    · exact .inr (.inl rfl)
    · exact .inl rfl
  · rw [replaced]
    split
    · cases p.relayQueue <;> exact .inr (.inr ⟨x, rfl⟩)
    · exact .inr (.inr ⟨x, rfl⟩)

/-- The ports with a new OFFER of this ack flag placed, and port A's choice. -/
def State.offered (s : State) (ack : Bool) : Ports :=
  Ports.chooseA s.straps.station { s.ports with offer := s.ports.offer.place ⟨s.agreement.acceptMask, ack⟩ }

theorem State.offerAgain_eq (running : s.resetLine = false) (ack : Bool) : s.offerAgain ack =
    (s.setAgreement { s.agreement with offerTimer := .running 10 }).setPorts (s.offered ack) :=
  State.chooseA_of_running (s := (s.setAgreement _).setPorts _) running

/-- The agreement unit at the entry into LISTEN (R19, R21). -/
def Agreement.listening (a : Agreement) : Agreement :=
  { a with
    state := .listen, candidate := 0, matchCount := 0, recorded := 0, offerSeen := false, adoptionCount := 0
    offerTimer := .running 10, ackTimer := .stopped, pauseTimer := .stopped }

theorem State.enterListen_eq (running : s.resetLine = false) :
    s.enterListen = (s.setAgreement s.agreement.listening).setPorts (s.offered false) :=
  State.offerAgain_eq (s := s.setAgreement { s.agreement.listening with offerTimer := s.agreement.offerTimer }) running false

/-- What an entry into LISTEN gives. -/
theorem State.enterListen_enters (running : s.resetLine = false) : SameOutside [.agreement, .ports] s s.enterListen ∧
    s.enterListen.agreement = s.agreement.listening ∧
    s.enterListen.ports.offer.Holds ⟨s.agreement.acceptMask, false⟩ ∧ s.enterListen.ports = s.offered false := by
  have frame := s.enterListen_frame
  rw [State.enterListen_eq running] at frame ⊢
  exact ⟨frame, rfl, Ports.chooseA_place_holds _ _ _ _, rfl⟩

/-- Settles O25: each expiry enters LISTEN, or places an OFFER of the present state. -/
theorem agreementTimers : Obligations.AgreementTimers := by
  refine ⟨fun o x y => ⟨rfl, rfl, rfl, rfl⟩, fun s ms running timer offering => ?_, fun s c running due => ?_⟩
  · have again (ack : Bool) (exec_eq : exec .offerTimerExpiry s = .next (s.offerAgain ack)) :
        ∃ t, exec .offerTimerExpiry s = .next t ∧ SameOutside [.agreement, .ports] s t ∧
          t.agreement = { s.agreement with offerTimer := .running 10 } ∧
          t.ports.offer.Holds ⟨s.agreement.acceptMask, ack⟩ ∧ t.ports = s.offered ack := by
      refine ⟨_, exec_eq, s.offerAgain_frame ack, ?_⟩
      rw [State.offerAgain_eq running]
      exact ⟨rfl, Ports.chooseA_place_holds _ _ _ _, rfl⟩
    have expires : exec .offerTimerExpiry s = match s.agreement.state with
        | .listen => .next (s.offerAgain false)
        | .acknowledge => .next (s.offerAgain true)
        | .pause | .agreed _ | .noCommon => .next s := if_neg (by simp [running, timer])
    obtain state | state := offering <;> rw [state] at expires
    · rw [decide_eq_false (by rw [state]; exact nofun)]
      exact again false expires
    · rw [decide_eq_true state]
      exact again true expires
  · obtain ⟨rfl, state, timer⟩ | ⟨rfl, state, timer⟩ := due
    all_goals exact ⟨_, next_congr (if_pos ⟨running, timer, state⟩), State.enterListen_enters running⟩

/-! ## Partner OFFERs (R20, R21) -/

theorem readBool_eq_none {n : Nat} (h : 2 ≤ n) : readBool n = none := by
  unfold readBool
  split
  · omega
  · omega
  · rfl

theorem State.receptionEnd_offer {f : RxFrame} {mask : BitVec 8} {ack : Bool} (h : OfferArrives s f mask ack) :
    s.receptionEnd .a f = s.takeOffer mask ack := by
  obtain ⟨x, arrives, long, carried, flag⟩ := h.frame
  rw [s.receptionEnd_a arrives.arrives]
  simp only [State.deliverA, arrives.recognised, arrives.kind, State.partnerOffer, if_pos long, flag, carried]

theorem OfferArrives.running {f : RxFrame} {mask : BitVec 8} {ack : Bool} (h : OfferArrives s f mask ack) :
    s.resetLine = false := by
  obtain ⟨x, arrives, -⟩ := h.frame
  exact arrives.arrives.running

/-- The match count after an OFFER with this mask. -/
def Agreement.matched (a : Agreement) (mask : BitVec 8) : Nat :=
  if 0 < a.matchCount ∧ mask = a.candidate then a.matchCount + 1 else 1

theorem State.matchOffer_eq (s : State) (mask : BitVec 8) :
    let m := s.setAgreement
      { s.agreement with offerSeen := true, candidate := mask, matchCount := s.agreement.matched mask }
    s.matchOffer mask = if 3 ≤ s.agreement.matched mask then m.enterAcknowledge else m := by
  unfold State.matchOffer Agreement.matched
  dsimp only
  rw [← Bool.decide_and]
  simp only [decide_eq_true_iff]

/-- Settles O21: one more match, or the entry into ACKNOWLEDGE at the third. -/
theorem partnerOfferInListen : Obligations.PartnerOfferInListen := by
  intro s f mask ack arrives state n
  refine ⟨_, next_congr (State.receptionEnd_offer arrives), ?_⟩
  have takes : s.takeOffer mask ack = s.matchOffer mask := by
    unfold State.takeOffer
    rw [state]
  rw [takes, State.matchOffer_eq]
  refine ⟨fun few => if_neg (Nat.not_le.mpr few), fun third => ?_⟩
  rw [if_pos (show 3 ≤ s.agreement.matched mask from third)]
  refine ⟨(s.setAgreement_frame _).andThen (State.enterAcknowledge_frame _), ?_⟩
  unfold State.enterAcknowledge
  rw [State.offerAgain_eq (by exact arrives.running)]
  exact ⟨rfl, Ports.chooseA_place_holds _ _ _ _, rfl⟩

end Sys2Proof.Machine
end


section
/-! SUPPORT. Breaks of the stream with their notice, and the partner OFFERs that lead into LISTEN (R24 to R26, R29, R56
to R63). -/

namespace Sys2Proof.Machine

set_option Elab.async false

open Sys2Proof

variable {s m t : State} {l k : List NoticeBody}

/-- `CyclesBroken` reads the trackers, the cycle former and the tables of the state before. -/
theorem CyclesBroken.of_same (h : CyclesBroken m t) (trackers : m.trackers = s.trackers) (former : m.former = s.former)
    (tables : m.tables = s.tables) : CyclesBroken s t := by
  have source := State.cycleSource_congr (s := s) (t := m) fun w => by rw [trackers]
  have tapTracker := State.tapTracker_congr tables
  obtain ⟨running, idle, resampler, collecting, joining, inactive, time⟩ := h
  simp only [trackers, former, source, tapTracker] at running idle resampler collecting joining inactive time
  exact ⟨running, idle, resampler, collecting, joining, inactive, time⟩

/-- A stream break: its notice, STREAM_INTACT, and the cycles in progress. -/
theorem State.streamBreak_breaks (s : State) (c : StreamCause) (received : BitVec 16) :
    SameOutside [.ports, .latches, .trackers, .former] s (s.streamBreak c received) ∧
    NoticesFrom s s.ports { s.latches with streamIntact := false } (s.streamBreak c received)
      [.stream s.agreement.profile c (s.intake.expected.getD 0) received
        (match c with | .gap => 0 | .silence => s.intake.silence.length) s.intake.count] ∧
    CyclesBroken s (s.streamBreak c received) := by
  let n : NoticeBody := .stream s.agreement.profile c (s.intake.expected.getD 0) received
    (match c with | .gap => 0 | .silence => s.intake.silence.length) s.intake.count
  let a := s.handOver n
  let b := a.setLatches { a.latches with streamIntact := false }
  have frame : SameOutside [.ports, .latches] s b := (s.handOver_frame n).andThen (State.setLatches_frame _ _)
  have ports : b.breakCycles.ports = a.ports := (b.breakCycles_frame).get .ports
  have latches : b.breakCycles.latches = { a.latches with streamIntact := false } := (b.breakCycles_frame).get .latches
  have noticed := (s.handOver_noticed n).setStreamIntact false
  change SameOutside _ s b.breakCycles ∧ HandedOver s _ _ b.breakCycles.ports b.breakCycles.latches [n] ∧
    CyclesBroken s b.breakCycles
  rw [ports, latches]
  exact ⟨frame.andThen b.breakCycles_frame, noticed,
    b.breakCycles_broken.of_same (frame.get .trackers) (frame.get .former) (frame.get .tables)⟩

/-- Settles O30: a break with cause SILENCE, and WAITING. -/
theorem silenceExpiry : Obligations.SilenceExpiry := by
  intro s ms e running stream silence expected
  obtain ⟨frame, noticed, broken⟩ := s.streamBreak_breaks .silence e
  have due : s.resetLine = false ∧ s.intake.silence ≠ .stopped ∧ s.intake.stream = .running :=
    ⟨running, by rw [silence]; exact nofun, stream⟩
  have expires : s.silenceExpired = (s.streamBreak .silence e).intakeWait := by
    unfold State.silenceExpired
    rw [expected]
    rfl
  refine ⟨(s.streamBreak .silence e).intakeWait, next_congr ((if_pos due).trans expires),
    frame.andThen (State.intakeWait_frame _), ?_, ?_, broken.congr rfl rfl⟩
  · rw [State.intakeWait, frame.get .intake]
    rfl
  · rw [expected, silence] at noticed
    exact noticed

/-! ## The leaving of AGREED (R29) -/

theorem State.leaveAgreed_leaves (s : State) :
    s.leaveAgreed.latches = { s.latches with streamIntact := false } ∧
    s.leaveAgreed.intake = { s.intake with stream := .waiting, expected := none, silence := .stopped } ∧
    CyclesBroken s s.leaveAgreed := by
  let b := s.setLatches { s.latches with streamIntact := false }
  have latches : b.breakCycles.latches = b.latches := b.breakCycles_frame.get .latches
  have intake : b.breakCycles.intake = s.intake := b.breakCycles_frame.get .intake
  refine ⟨latches, ?_, (CyclesBroken.of_same (s := s) b.breakCycles_broken rfl rfl rfl).congr (t := s.leaveAgreed) rfl rfl⟩
  change { b.breakCycles.intake with stream := .waiting, expected := none, silence := .stopped } = _
  rw [intake]

/-! ## Partner OFFERs that lead into LISTEN (R25, R26) -/

/-- The agreement unit in LISTEN with an OFFER as the first match. -/
def Agreement.matching (a : Agreement) (mask : BitVec 8) : Agreement :=
  { a.listening with candidate := mask, matchCount := 1, offerSeen := true }

/-- An entry into LISTEN with the OFFER as the first match. -/
theorem State.enterListen_matchOffer (running : s.resetLine = false) (mask : BitVec 8) :
    s.enterListen.matchOffer mask = (s.setAgreement (s.agreement.matching mask)).setPorts (s.offered false) := by
  rw [State.matchOffer_eq, State.enterListen_eq running]
  rfl

theorem State.takeOffer_noCommon (state : s.agreement.state = .noCommon) (mask : BitVec 8) (ack : Bool) :
    s.takeOffer mask ack = if mask = s.agreement.recorded then s else s.enterListen.matchOffer mask := by
  unfold State.takeOffer
  rw [state]

theorem State.takeOffer_agreed {p : ProfileCode} (state : s.agreement.state = .agreed p) (mask : BitVec 8) (ack : Bool) :
    s.takeOffer mask ack = if s.agreement.mode = .fixed ∨ ack = true then s else s.renegotiate p mask := by
  unfold State.takeOffer
  rw [state]
  cases s.agreement.mode <;> simp

/-- Settles O23: what is ignored leaves the part as it stands, and the rest enters LISTEN. -/
theorem partnerOfferElsewhere : Obligations.PartnerOfferElsewhere := by
  refine ⟨fun s f x arrives ill => ?_, fun s f mask ack arrives => ⟨fun state => ?_, fun state same => ?_,
    fun p state ignored => ?_, fun state other => ?_, fun p state mode offer => ?_⟩⟩
  · refine next_congr ((s.receptionEnd_a arrives.arrives).trans ?_)
    simp only [State.deliverA, arrives.recognised, arrives.kind, State.partnerOffer]
    obtain short | flag := ill
    · exact if_neg (Nat.not_le.mpr short)
    · rw [readBool_eq_none flag]
      exact ite_self s
  all_goals have takes := State.receptionEnd_offer arrives
  · refine next_congr (takes.trans ?_)
    unfold State.takeOffer
    rw [state]
  · exact next_congr (takes.trans ((State.takeOffer_noCommon state mask ack).trans (if_pos same)))
  · exact next_congr (takes.trans ((State.takeOffer_agreed state mask ack).trans (if_pos ignored)))
  · have running := arrives.running
    refine ⟨_, next_congr (takes.trans ((State.takeOffer_noCommon state mask ack).trans (if_neg other))), ?_⟩
    rw [State.enterListen_matchOffer running]
    exact ⟨(s.setAgreement_frame _).andThen (State.setPorts_frame _ _), rfl, rfl, Ports.chooseA_place_holds _ _ _ _⟩
  · have running := arrives.running
    have listens : ¬(s.agreement.mode = .fixed ∨ ack = true) := by
      rw [mode, offer]
      exact fun h => h.elim nofun nofun
    let n : NoticeBody := .agreement p .renegotiation s.agreement.acceptMask mask
    let m := s.handOver n
    have told := s.handOver_frame n
    have left := m.leaveAgreed_frame
    obtain ⟨latches, intake, broken⟩ := m.leaveAgreed_leaves
    have quiet : m.leaveAgreed.resetLine = false := ((left.get .resetLine).trans (told.get .resetLine)).trans running
    have agreement : m.leaveAgreed.agreement = s.agreement := (left.get .agreement).trans (told.get .agreement)
    have noticed := (s.handOver_noticed n).setStreamIntact false
    have offered : m.leaveAgreed.offered false = Ports.chooseA s.straps.station
        { m.ports with offer := s.ports.offer.place ⟨s.agreement.acceptMask, false⟩ } := by
      have waits : m.ports.offer = s.ports.offer := by rw [noticed.ports]
      unfold State.offered
      rw [agreement, left.get .straps, told.get .straps, left.get .ports, ← waits]
    refine ⟨_, next_congr (takes.trans ((State.takeOffer_agreed state mask ack).trans (if_neg listens))), ?_⟩
    have ends : s.renegotiate p mask = (m.leaveAgreed.setAgreement (s.agreement.matching mask)).setPorts
        (Ports.chooseA s.straps.station
          { m.ports with offer := s.ports.offer.place ⟨s.agreement.acceptMask, false⟩ }) := by
      have entered := State.enterListen_matchOffer quiet mask
      rw [agreement, offered] at entered
      exact entered
    rw [ends]
    refine ⟨((told.andThen left (n := [.latches, .trackers, .former, .intake, .ports])).andThen
      (State.setAgreement_frame _ _) (n := [.agreement, .ports, .latches, .intake, .trackers, .former])).andThen
      (State.setPorts_frame _ _), rfl, Ports.chooseA_place_holds _ _ _ _, ?_, ?_, ?_⟩
    · change HandedOver s _ _ _ m.leaveAgreed.latches _
      rw [latches]
      exact noticed.offer _ _
    · exact (broken.of_same (told.get .trackers) (told.get .former) (told.get .tables)).congr rfl rfl
    · change m.leaveAgreed.intake = _
      rw [intake, told.get .intake]

end Sys2Proof.Machine
end


section
/-! SUPPORT. The entry into AGREED (R27 to R30), from ACKNOWLEDGE, by adoption and by SET AGREEMENT. -/

namespace Sys2Proof.Machine

set_option Elab.async false

open Sys2Proof

variable {s m t : State} {l k : List NoticeBody}

/-! ## The change of rate and its notices -/

/-- The notice of one tracker at a change of rate. -/
def rateNotice (s : State) (lnom : Nat) (u : TrackerId) : List NoticeBody :=
  if s.trackers[u].state = .locked ∨ s.trackers[u].state = .holdover ∨ s.trackers[u].state = .freerun then
    [.tracker u s.trackers[u].state .acquiring .rateChange s.tables.settings[u].reference lnom s.intake.count]
  else []

theorem rateNotices_eq (s : State) (lnom : Nat) : rateNotices s lnom = rateNotice s lnom 0 ++ rateNotice s lnom 1 := by
  have both (P : TrackerId → Prop) [DecidablePred P] (f : TrackerId → NoticeBody) :
      ([0, 1] : List TrackerId).filterMap (fun u => if P u then some (f u) else none) =
        (if P 0 then [f 0] else []) ++ if P 1 then [f 1] else [] := by
    by_cases first : P 0 <;> by_cases second : P 1 <;> simp [first, second]
  exact both _ _

/-- A tracker brought to a new rate hands over its notice. -/
theorem State.modTracker_rated (s : State) (u : TrackerId) :
    Noticed s ((s.modTracker u fun k => k.atRate s.lnom).trackerNotice u s.trackers[u].state .rateChange)
      [.tracker u s.trackers[u].state .acquiring .rateChange s.tables.settings[u].reference s.lnom s.intake.count] := by
  have changed : (s.modTracker u fun k => k.atRate s.lnom).trackers[u] = s.trackers[u].atRate s.lnom := by
    rw [State.modTracker_trackers, if_pos rfl]
  unfold State.trackerNotice State.lfix
  rw [changed]
  exact (Noticed.nil (s := s) (t := s.modTracker u _) rfl rfl).handOver rfl rfl rfl _

theorem State.rateChange_noticed (s : State) (u : TrackerId) : Noticed s (s.rateChange u) (rateNotice s s.lnom u) := by
  unfold State.rateChange
  split
  case h_1 h | h_2 h | h_3 h =>
    have quiet : rateNotice s s.lnom u = [] := if_neg (by rw [h]; decide)
    rw [quiet]
    exact .nil rfl rfl
  all_goals
    next h =>
      have tells : rateNotice s s.lnom u = [.tracker u s.trackers[u].state .acquiring .rateChange
        s.tables.settings[u].reference s.lnom s.intake.count] := if_pos (by rw [h]; decide)
      rw [tells]
      exact s.modTracker_rated u

theorem State.changeRate_noticed (s : State) : Noticed s s.changeRate (rateNotices s s.lnom) := by
  let m := s.rateChange 0
  have frame := s.rateChange_frame 0
  have same : rateNotice m m.lnom 1 = rateNotice s s.lnom 1 := by
    have tables : m.tables = s.tables := frame.get .tables
    have intake : m.intake = s.intake := frame.get .intake
    have tracker : m.trackers[(1 : TrackerId)] = s.trackers[(1 : TrackerId)] := by
      rw [State.rateChange_trackers]
      rfl
    unfold rateNotice
    rw [tracker, tables, intake, State.rateChange_lnom]
  rw [rateNotices_eq, ← same]
  exact (s.rateChange_noticed 0).andThen s ((m.rateChange_noticed 1).congr
    (congrArg Tables.station (frame.get .tables)) (frame.get .straps) (frame.get .resetLine))

theorem State.changeRate_clock (s : State) : s.changeRate.former.taps = s.former.taps ∧
    s.changeRate.former.second = s.former.second ∧ s.changeRate.former.pendingTariff = s.former.pendingTariff := by
  have former : ((s.rateChange 0).rateChange 1).former = s.former :=
    ((s.rateChange_frame 0).trans (State.rateChange_frame _ 1)).get .former
  rw [← former]
  exact ⟨rfl, rfl, rfl⟩

/-! ## The entry into AGREED -/

/-- The agreement unit after the entry into AGREED. -/
def Agreement.agreeing (a : Agreement) (p : ProfileCode) : Agreement :=
  { a with state := .agreed p, profile := p, offerTimer := .stopped, ackTimer := .stopped }

/-- The notice of an entry into AGREED. -/
def agreedNotice (s : State) (p : ProfileCode) (n : Option (AgreementOutcome × BitVec 8)) : List NoticeBody :=
  n.toList.map fun x => .agreement p x.1 s.agreement.acceptMask x.2

theorem OfferPlace.withdraw_eq (o : OfferPlace) : o.withdraw = o.withdrawn := by
  cases o <;> rfl

/-- The pending OFFER withdrawn. -/
def Ports.withdrawn (p : Ports) : Ports := { p with offer := p.offer.withdrawn }

theorem State.stopOffering_eq (s : State) : s.stopOffering =
    (s.setAgreement { s.agreement with offerTimer := .stopped, ackTimer := .stopped }).setPorts s.ports.withdrawn := by
  unfold State.stopOffering State.withdrawOffer Ports.withdrawn
  rw [← OfferPlace.withdraw_eq]
  rfl

/-- The entry into AGREED before its change of rate. -/
theorem State.enterAgreed_from (s : State) (p : ProfileCode) (n : Option (AgreementOutcome × BitVec 8)) :
    ∃ m, SameOutside [.agreement, .ports, .latches, .intake] s m ∧ m.agreement = s.agreement.agreeing p ∧
      m.intake = { s.intake with stream := .waiting, expected := none, silence := .stopped } ∧
      NoticesFrom s s.ports.withdrawn s.latches m (agreedNotice s p n) ∧
      s.enterAgreed p n = if sampleRate s.agreement.profile ≠ sampleRate p then m.changeRate else m := by
  let e := (s.stopOffering.setAgreement { s.stopOffering.agreement with state := .agreed p, profile := p }).intakeWait
  have frame : SameOutside [.agreement, .ports, .latches, .intake] s e :=
    (s.stopOffering_frame.andThen (State.setAgreement_frame _ _) (n := [.agreement, .ports])).andThen
      (State.intakeWait_frame _)
  have agreement : e.agreement = s.agreement.agreeing p := rfl
  have ports : e.ports = s.ports.withdrawn := congrArg State.ports s.stopOffering_eq
  cases n with
  | none =>
    refine ⟨e, frame, agreement, rfl, ?_, by simp [State.enterAgreed, e]⟩
    rw [NoticesFrom, ports]
    exact .nil s _ _
  | some x =>
    let told : NoticeBody := .agreement p x.1 s.agreement.acceptMask x.2
    have noticed := e.handOver_noticed told
    have after := e.handOver_frame told
    refine ⟨e.handOver told, frame.trans after.wider, (after.get .agreement).trans agreement, after.get .intake, ?_,
      by simp [State.enterAgreed, State.agreementNotice, e, told, agreement, Agreement.agreeing]⟩
    rw [NoticesFrom, ← ports]
    exact noticed.congr rfl rfl rfl

theorem Tracker.rated_of_running {k : Tracker} (running : k.state.isRunning = true) (lnom : Nat) :
    k.rated lnom = k.atRate lnom := by
  unfold Tracker.rated
  split
  · next idle => rw [idle] at running; exact absurd running nofun
  · next following => rw [following] at running; exact absurd running nofun
  all_goals rfl

theorem Tracker.rated_of_following {k : Tracker} (following : k.state = .following) (lnom : Nat) :
    k.rated lnom = { k with lfix := lnom } := by
  unfold Tracker.rated
  rw [following]

theorem State.changeRate_lnom (s : State) : s.changeRate.lnom = s.lnom := by
  have straps := s.changeRate_frame.get .straps
  have agreement := s.changeRate_frame.get .agreement
  simp only [Block.same] at straps agreement
  unfold State.lnom
  rw [straps, agreement]

theorem State.enterAgreed_enters (s : State) (p : ProfileCode) (n : Option (AgreementOutcome × BitVec 8)) :
    SameOutside [.agreement, .ports, .latches, .intake, .trackers, .former] s (s.enterAgreed p n) ∧
    (s.enterAgreed p n).agreement = s.agreement.agreeing p ∧
    EntersAgreed s (s.enterAgreed p n) s.ports.withdrawn p (agreedNotice s p n) := by
  obtain ⟨m, frame, agreement, intake, noticed, eq⟩ := s.enterAgreed_from p n
  have trackers : m.trackers = s.trackers := frame.get .trackers
  have former : m.former = s.former := frame.get .former
  have tables : m.tables = s.tables := frame.get .tables
  rw [eq]
  by_cases same : sampleRate s.agreement.profile = sampleRate p
  · rw [if_neg (not_not.mpr same)]
    have differs {P : Prop} (h : sampleRate p ≠ sampleRate s.agreement.profile) : P := absurd same.symm h
    refine ⟨frame.wider, agreement, ?_, ?_, intake, by rw [former]; exact ⟨rfl, rfl, rfl⟩,
      fun _ => ⟨trackers, former, noticed⟩, differs, differs, differs⟩
    all_goals rw [agreement]; exact ⟨rfl, rfl⟩
  · rw [if_pos same]
    have changed := m.changeRate_frame
    have after : m.changeRate.agreement = s.agreement.agreeing p := (changed.get .agreement).trans agreement
    have lnom := m.changeRate_lnom
    have notices : rateNotices m m.lnom = rateNotices s m.changeRate.lnom := by
      unfold rateNotices
      rw [trackers, tables, intake, lnom]
    refine ⟨frame.andThen changed, after, ?_, ?_, (changed.get .intake).trans intake, ?_,
      fun h => absurd h.symm same, fun _ => ?_, fun _ u running => ?_, fun _ u => ⟨fun following => ?_, fun idle => ?_⟩⟩
    · rw [after]; exact ⟨rfl, rfl⟩
    · rw [after]; exact ⟨rfl, rfl⟩
    · rw [← former]; exact m.changeRate_clock
    · rw [← notices]
      exact noticed.andThen s (m.changeRate_noticed.congr (congrArg Tables.station tables) (frame.get .straps)
        (frame.get .resetLine))
    · have rated := Tracker.rated_of_running running m.lnom
      rw [State.changeRate_trackers, State.changeRate_former, trackers, former, lnom, rated]
      exact ⟨rfl, rfl⟩
    · rw [State.changeRate_trackers, trackers, lnom, Tracker.rated_of_following following]
    · rw [State.changeRate_trackers, trackers, Tracker.rated, idle]

end Sys2Proof.Machine
end


section
/-! SUPPORT. Partner OFFERs in ACKNOWLEDGE (R23, R25, R27). -/

namespace Sys2Proof.Machine

set_option Elab.async false

open Sys2Proof

variable {s m t : State} {l k : List NoticeBody}

/-! ## The highest common code -/

theorem find?_eq_some_of_greatest {p : ProfileCode} {f : ProfileCode → Bool} (own : f p = true)
    (greatest : ∀ q, f q = true → q ≤ p) : ∀ {l : List ProfileCode}, l.Pairwise (· > ·) → p ∈ l → l.find? f = some p
  | x :: l, falling, mem => by
    obtain ⟨above, falls⟩ := List.pairwise_cons.mp falling
    by_cases found : f x = true
    · obtain rfl | later := List.mem_cons.mp mem
      · exact List.find?_cons_of_pos found
      · exact absurd (greatest x found) (not_le.mpr (above p later))
    · have later : p ∈ l := (List.mem_cons.mp mem).resolve_left fun same => found (same ▸ own)
      exact (List.find?_cons_of_neg found).trans (find?_eq_some_of_greatest own greatest falls later)

theorem highestCode_zero : highestCode 0 = none := by decide

theorem mem_codes_falling : ∀ p : ProfileCode, p ∈ ([7, 6, 5, 4, 3, 2, 1, 0] : List ProfileCode) := by decide

theorem highestCode_eq_some {mask : BitVec 8} {p : ProfileCode} (own : mask.getLsbD p.val = true)
    (greatest : ∀ q : ProfileCode, mask.getLsbD q.val = true → q ≤ p) : highestCode mask = some p :=
  find?_eq_some_of_greatest own greatest (by decide) (mem_codes_falling p)

/-! ## An OFFER withdrawn beside the notices -/

theorem HandedOver.withdrawn {p q : Ports} {x y : Latches} (h : HandedOver s p x q y l) :
    HandedOver s p.withdrawn x q.withdrawn y l := by
  have tx : q.txA = p.txA := by rw [h.ports]
  have offer : q.offer = p.offer := by rw [h.ports]
  unfold Ports.withdrawn
  rw [offer]
  have moved := h.sideA p.txA p.offer.withdrawn
  rwa [show ({ q with txA := p.txA, offer := p.offer.withdrawn } : Ports) = { q with offer := p.offer.withdrawn } by
    rw [← tx]] at moved

theorem State.stopOffering_agreement (s : State) :
    s.stopOffering.agreement = { s.agreement with offerTimer := .stopped, ackTimer := .stopped } :=
  congrArg State.agreement s.stopOffering_eq

theorem State.stopOffering_ports (s : State) : s.stopOffering.ports = s.ports.withdrawn :=
  congrArg State.ports s.stopOffering_eq

/-! ## The OFFER that resolves, and the one that fails -/

theorem State.takeOffer_acknowledge (state : s.agreement.state = .acknowledge) (mask : BitVec 8) (ack : Bool) :
    s.takeOffer mask ack = s.acknowledgeOffer mask ack := by
  unfold State.takeOffer
  rw [state]

theorem State.resolve_noCommon (none : s.agreement.recorded &&& s.agreement.acceptMask = 0) :
    SameOutside [.agreement, .ports, .latches] s s.resolve ∧
    s.resolve.agreement = { s.agreement with state := .noCommon, offerTimer := .stopped, ackTimer := .stopped } ∧
    NoticesFrom s s.ports.withdrawn s.latches s.resolve
      [.agreement s.agreement.profile .noCommon s.agreement.acceptMask s.agreement.recorded] := by
  let n : NoticeBody := .agreement s.agreement.profile .noCommon s.agreement.acceptMask s.agreement.recorded
  have resolves : s.resolve = s.enterNoCommon.handOver n := by
    unfold State.resolve
    dsimp only
    rw [none, highestCode_zero]
    rfl
  have entered := s.enterNoCommon_frame
  have told := s.enterNoCommon.handOver_frame n
  have noticed := s.enterNoCommon.handOver_noticed n
  rw [resolves]
  refine ⟨entered.andThen told, told.get .agreement, ?_⟩
  change HandedOver _ s.stopOffering.ports s.stopOffering.latches _ _ _ at noticed
  rw [s.stopOffering_ports] at noticed
  exact noticed.congr rfl rfl rfl

theorem State.resolve_agreed {p : ProfileCode}
    (common : highestCode (s.agreement.recorded &&& s.agreement.acceptMask) = some p) :
    s.resolve = s.enterAgreed p (some (.agreed, s.agreement.recorded)) := by
  unfold State.resolve
  dsimp only
  rw [common]

/-- The change of ACKNOWLEDGE into PAUSE, after its notice. -/
theorem State.notice_enterPause (s : State) (n : NoticeBody) :
    SameOutside [.agreement, .ports, .latches] s (s.handOver n).enterPause ∧
    (s.handOver n).enterPause.agreement = { s.agreement with
      state := .pause, pauseTimer := .running 100, offerTimer := .stopped, ackTimer := .stopped } ∧
    NoticesFrom s s.ports.withdrawn s.latches (s.handOver n).enterPause [n] := by
  have told := s.handOver_frame n
  have agreement : (s.handOver n).agreement = s.agreement := told.get .agreement
  refine ⟨told.andThen (State.enterPause_frame _), ?_, ?_⟩
  · rw [← agreement]
    rfl
  · exact (s.handOver_noticed n).withdrawn

/-- What an entry into AGREED reads of the state before it. -/
theorem EntersAgreed.of_same {q : Ports} {p : ProfileCode} (h : EntersAgreed m t q p l)
    (profile : m.agreement.profile = s.agreement.profile) (current : m.intake.current = s.intake.current)
    (count : m.intake.count = s.intake.count) (trackers : m.trackers = s.trackers) (former : m.former = s.former)
    (latches : m.latches = s.latches) (tables : m.tables = s.tables) (straps : m.straps = s.straps)
    (line : m.resetLine = s.resetLine) : EntersAgreed s t q p l := by
  obtain ⟨state, timers, intake, taps, kept, notices, running, following⟩ := h
  have station := congrArg Tables.station tables
  unfold rateNotices at notices
  rw [profile, trackers, former, latches] at *
  rw [tables, count] at notices
  refine ⟨state, timers, ?_, taps, fun same => ?_, fun other => (notices other).congr station straps line, running,
    following⟩
  · rw [intake]
    dsimp only
    rw [current, count]
  · obtain ⟨trackers, former, noticed⟩ := kept same
    exact ⟨trackers, former, noticed.congr station straps line⟩

theorem EntersAgreed.of_setAgreement {a : Agreement} {q : Ports} {p : ProfileCode}
    (h : EntersAgreed (s.setAgreement a) t q p l) (profile : a.profile = s.agreement.profile) : EntersAgreed s t q p l :=
  h.of_same profile rfl rfl rfl rfl rfl rfl rfl rfl

/-- Settles O22: one equation of ACKNOWLEDGE for each mask, flag and count. -/
theorem partnerOfferInAcknowledge : Obligations.PartnerOfferInAcknowledge := by
  intro s f mask ack arrives state common left
  have takes : s.receptionEnd .a f = s.acknowledgeOffer mask ack :=
    (State.receptionEnd_offer arrives).trans (State.takeOffer_acknowledge state mask ack)
  let c := s.setAgreement { s.agreement with ackCount := s.agreement.ackCount + 1 }
  have counts (same : mask = s.agreement.recorded) (acks : ack = true) : s.acknowledgeOffer mask ack =
      if 3 ≤ s.agreement.ackCount + 1 then c.resolve else c := by
    rw [State.acknowledgeOffer, if_pos same, if_pos acks]
    rfl
  have third (same : mask = s.agreement.recorded) (acks : ack = true) (enough : 2 ≤ s.agreement.ackCount) :
      s.acknowledgeOffer mask ack = c.resolve := (counts same acks).trans (if_pos (Nat.succ_le_succ enough))
  have counted : SameOutside [.agreement] s c := s.setAgreement_frame _
  refine ⟨_, next_congr takes, fun same quiet => ?_, fun same acks few => ?_, fun same acks enough none => ?_,
    fun same acks enough p own greatest => ?_, fun other => ?_⟩
  · rw [State.acknowledgeOffer, if_pos same, quiet]
    rfl
  · exact (counts same acks).trans (if_neg (by omega))
  · rw [third same acks enough]
    obtain ⟨frame, agreement, noticed⟩ := State.resolve_noCommon (s := c) none
    exact ⟨counted.andThen frame, agreement, noticed.congr rfl rfl rfl⟩
  · rw [third same acks enough, State.resolve_agreed (s := c) (highestCode_eq_some own greatest)]
    obtain ⟨frame, agreement, enters⟩ := c.enterAgreed_enters p (some (.agreed, s.agreement.recorded))
    exact ⟨counted.andThen frame, agreement, enters.of_setAgreement rfl⟩
  · rw [State.acknowledgeOffer, if_neg other]
    exact s.notice_enterPause _

end Sys2Proof.Machine
end


section
/-! SUPPORT. SAMPLE SET frames that are not processed (R22, R27, R28, R51), and SET AGREEMENT (R32). -/

namespace Sys2Proof.Machine

set_option Elab.async false

open Sys2Proof

variable {s m t : State} {l k : List NoticeBody}

/-! ## SAMPLE SET frames that are not processed -/

theorem Agreement.countAdoption_code (a : Agreement) (p : ProfileCode) : a.countAdoption p.val =
    { a with
      adoptionCode := p
      adoptionCount := if 0 < a.adoptionCount ∧ a.adoptionCode = p then min 200 (a.adoptionCount + 1) else 1 } := by
  rw [Agreement.countAdoption, dif_pos p.isLt]
  split
  · next same =>
    have code : a.adoptionCode = p := same.2
    rw [← code]
    rfl
  · rfl

theorem Agreement.countAdoption_other (a : Agreement) {code : Nat} (other : 8 ≤ code) :
    a.countAdoption code = { a with adoptionCount := 0 } := dif_neg (Nat.not_lt.mpr other)

theorem State.sampleSet_quiet {x : SampleSet} (quiet : s.agreement.state = .acknowledge ∨ s.agreement.state = .pause ∨
    s.agreement.state = .noCommon ∨ (s.agreement.state = .listen ∧ s.agreement.offerSeen = true)) : s.sampleSet x = s := by
  have adopts : ¬(s.agreement.state = .listen ∧ s.agreement.offerSeen = false) := by
    rintro ⟨state, seen⟩
    rw [state, seen] at quiet
    revert quiet
    simp
  have agreed : ∀ p, s.agreement.state ≠ .agreed p := by
    intro p state
    rw [state] at quiet
    revert quiet
    simp
  unfold State.sampleSet
  split
  · next p state => exact absurd state (agreed p)
  all_goals exact if_neg adopts

theorem State.sampleSet_counts {x : SampleSet} {a : Agreement} (state : s.agreement.state = .listen)
    (seen : s.agreement.offerSeen = false) (counted : s.agreement.countAdoption x.code = a)
    (few : ¬(a.adoptionCount = 200 ∧ a.acceptMask.getLsbD a.adoptionCode.val = true)) :
    s.sampleSet x = s.setAgreement a := by
  unfold State.sampleSet State.adopt
  rw [state, ← counted] at *
  exact (if_pos ⟨rfl, seen⟩).trans (if_neg few)

theorem State.sampleSet_adopts {x : SampleSet} {a : Agreement} (state : s.agreement.state = .listen)
    (seen : s.agreement.offerSeen = false) (counted : s.agreement.countAdoption x.code = a)
    (full : a.adoptionCount = 200 ∧ a.acceptMask.getLsbD a.adoptionCode.val = true) :
    s.sampleSet x = (s.setAgreement a).enterAgreed a.adoptionCode (some (.adopted, 0)) := by
  unfold State.sampleSet State.adopt
  rw [state, ← counted] at *
  exact (if_pos ⟨rfl, seen⟩).trans (if_pos full)

theorem State.sampleSet_mismatch {p : ProfileCode} {x : SampleSet} (state : s.agreement.state = .agreed p)
    (mismatch : x.code ≠ p.val ∨ x.valueCount ≠ channelCount p ∨ x.stated < 4 + 3 * x.valueCount) :
    s.sampleSet x = s.setLatches { s.latches with profileMismatch := true } := by
  have fails : ¬(x.code = p.val ∧ x.formOk p = true) := by
    unfold SampleSet.formOk
    rintro ⟨code, form⟩
    obtain ⟨count, long⟩ := Bool.and_eq_true_iff.mp form
    obtain h | h | h := mismatch
    · exact h code
    · exact h (of_decide_eq_true count)
    · exact absurd (of_decide_eq_true long) (Nat.not_le.mpr h)
  unfold State.sampleSet State.intakeSampleSet
  rw [state]
  exact if_neg fails

/-- The forward queue's part of a delivery leaves the agreement unit as it is. -/
theorem Forwarded.agreement {a c : State} {b : Bytes} (h : Forwarded s a c t b) : a.agreement = s.agreement := by
  cases forwarding : s.tables.station.forwarding with
  | false => exact congrArg State.agreement (h.off forwarding).1
  | true =>
    obtain ⟨n, ⟨rfl, -⟩ | ⟨entered, -⟩⟩ := h.on forwarding
    · rfl
    · by_cases room : (s.setChoices n).ports.forwardQueue.length < 32
      · rw [entered.room room]
        rfl
      · rw [entered.full (Nat.not_lt.mp room)]
        rfl

/-- Settles O24: the adoption in LISTEN, no effect, or PROFILE_MISMATCH. -/
theorem unprocessedSampleFrames : Obligations.UnprocessedSampleFrames := by
  intro s f x arrival
  obtain ⟨y, arrives, rfl⟩ := arrival.frame
  obtain ⟨a, forwarded⟩ := State.deliverStream_forwarded arrives.arrives.running f.bytes
    (f := fun s => s.sampleSet (readSampleSet y)) fun s => (s.sampleSet_frame _).get .resetLine
  have receives : s.receptionEnd .a f = s.deliverStream f.bytes fun s => s.sampleSet (readSampleSet y) :=
    (s.receptionEnd_a arrives.arrives).trans (State.deliverA_sampleSet arrives)
  refine ⟨_, a, _, next_congr receives, forwarded, ?_⟩
  rw [← forwarded.agreement]
  refine ⟨fun state seen => ⟨fun p code => ?_, fun other => ?_⟩, State.sampleSet_quiet,
    fun p state mismatch => State.sampleSet_mismatch state mismatch⟩
  · intro n
    have counted : a.agreement.countAdoption (readSampleSet y).code =
        { a.agreement with adoptionCode := p, adoptionCount := n } := by
      rw [code, Agreement.countAdoption_code]
    refine ⟨fun few => State.sampleSet_counts state seen counted fun full => ?_, fun full accepted => ?_⟩
    · obtain few | refused := few
      · exact absurd full.1 (Nat.ne_of_lt few)
      · exact absurd (full.2.symm.trans refused) nofun
    · let c := a.setAgreement { a.agreement with adoptionCode := p, adoptionCount := n }
      obtain ⟨frame, agreement, enters⟩ := c.enterAgreed_enters p (some (.adopted, 0))
      rw [State.sampleSet_adopts state seen counted ⟨full, accepted⟩]
      refine ⟨(a.setAgreement_frame _).andThen frame, agreement.trans ?_, enters.of_setAgreement rfl⟩
      rw [← full]
      rfl
  · exact State.sampleSet_counts state seen (Agreement.countAdoption_other _ other) fun full => absurd full.1 nofun

end Sys2Proof.Machine
end


section
/-! SUPPORT. SET AGREEMENT (R32). -/

namespace Sys2Proof.Machine

set_option Elab.async false

open Sys2Proof

variable {s m t : State} {l k : List NoticeBody}

/-! ## The four steps of SET AGREEMENT -/

theorem OfferPlace.place_withdrawn (p : OfferPlace) (o : Offer) : p.withdrawn.place o = p.place o := by
  cases p <;> rfl

theorem OfferPlace.withdrawn_withdrawn (p : OfferPlace) : p.withdrawn.withdrawn = p.withdrawn := by
  cases p <;> rfl

theorem AgreementState.isAgreed_iff (a : AgreementState) : a.isAgreed = true ↔ ∃ p, a = .agreed p := by
  cases a <;> simp [AgreementState.isAgreed]

/-- SET AGREEMENT before it enters LISTEN or AGREED. -/
def State.restarted (s : State) (mode : AgreementMode) (mask : BitVec 8) (fixed : ProfileCode) : State :=
  let s1 := (s.setAgreement (s.agreement.restart mode mask fixed)).withdrawOffer
  if s.agreement.state.isAgreed then s1.leaveAgreed else s1

theorem State.setAgreementFields_negotiate (s : State) (mask : BitVec 8) (fixed : ProfileCode) :
    s.setAgreementFields .negotiate mask fixed = (s.restarted .negotiate mask fixed).enterListen := rfl

theorem State.setAgreementFields_fixed (s : State) (mask : BitVec 8) (fixed : ProfileCode) :
    s.setAgreementFields .fixed mask fixed = (s.restarted .fixed mask fixed).enterAgreed fixed none := rfl

section
variable (s : State) (mode : AgreementMode) (mask : BitVec 8) (fixed : ProfileCode)

theorem State.restarted_leaves (agreed : ∃ p, s.agreement.state = .agreed p) :
    (s.restarted mode mask fixed).latches = { s.latches with streamIntact := false } ∧
    (s.restarted mode mask fixed).intake =
      { s.intake with stream := .waiting, expected := none, silence := .stopped } ∧
    CyclesBroken s (s.restarted mode mask fixed) := by
  rw [State.restarted, if_pos ((AgreementState.isAgreed_iff _).mpr agreed)]
  obtain ⟨latches, intake, broken⟩ :=
    (s.setAgreement (s.agreement.restart mode mask fixed)).withdrawOffer.leaveAgreed_leaves
  exact ⟨latches, intake, broken.of_same rfl rfl rfl⟩

theorem State.restarted_stays (other : ∀ p, s.agreement.state ≠ .agreed p) : s.restarted mode mask fixed =
    (s.setAgreement (s.agreement.restart mode mask fixed)).setPorts s.ports.withdrawn := by
  have out : ¬s.agreement.state.isAgreed = true := fun agreed =>
    (AgreementState.isAgreed_iff _).mp agreed |>.elim other
  rw [State.restarted, if_neg out]
  unfold State.withdrawOffer Ports.withdrawn
  rw [← OfferPlace.withdraw_eq]
  rfl

theorem State.restarted_frame : SameOutside [.agreement, .ports, .latches, .trackers, .former, .intake] s
    (s.restarted mode mask fixed) := by
  have withdrawn : SameOutside [.agreement, .ports] s (s.setAgreement (s.agreement.restart mode mask fixed)).withdrawOffer :=
    (s.setAgreement_frame _).andThen (State.withdrawOffer_frame _)
  exact .ite (withdrawn.andThen (State.leaveAgreed_frame _)) withdrawn.wider

theorem State.restarted_agreement : (s.restarted mode mask fixed).agreement = s.agreement.restart mode mask fixed := by
  unfold State.restarted
  split
  · exact (State.leaveAgreed_frame _).get .agreement
  · rfl

theorem State.restarted_ports : (s.restarted mode mask fixed).ports = s.ports.withdrawn := by
  unfold Ports.withdrawn State.restarted
  rw [← OfferPlace.withdraw_eq]
  split
  · exact (State.leaveAgreed_frame _).get .ports
  · rfl

/-- SET AGREEMENT keeps the current sample set and the count. -/
theorem State.restarted_intake : (s.restarted mode mask fixed).intake.current = s.intake.current ∧
    (s.restarted mode mask fixed).intake.count = s.intake.count := by
  unfold State.restarted
  split
  · rw [(State.leaveAgreed_leaves _).2.1]
    exact ⟨rfl, rfl⟩
  · exact ⟨rfl, rfl⟩

end

/-- The blocks that SET AGREEMENT moves before its entry, with agreement, ports and intake set back. -/
theorem SameOutside.setBack (h : SameOutside [.agreement, .ports, .latches, .trackers, .former, .intake] s t) :
    SameOutside [.trackers, .former, .latches] s
      (((t.setAgreement s.agreement).setPorts s.ports).setIntake s.intake) := by
  intro b out
  have kept := h b
  cases b
  case agreement | ports | intake => rfl
  case trackers | former | latches => exact absurd (by decide) out
  all_goals exact kept (by decide)

theorem State.chosenB_running (line : s.resetLine = false) (p : Ports) : s.chosenB p = p.chooseB s.straps.station := by
  rw [State.chosenB, line]
  rfl

theorem serveSetAgreement_accepts {r : Request} {mode : AgreementMode} {mask : BitVec 8} {fixed : ProfileCode}
    (own : byteAt r.body 0 = mode.code) (accept : r.body.getD 1 0 = mask) (code : byteAt r.body 2 = fixed.val)
    (offered : mask.getLsbD fixed.val = true) : serveSetAgreement s r =
      let m := s.setAgreementFields mode mask fixed
      m.answer r .done [BitVec.ofNat 8 m.agreement.state.code, BitVec.ofNat 8 m.agreement.profile.val] := by
  have reads : readAgreement r.body = some (mode, mask, fixed) := by
    have some : mask ≠ 0 := by
      rintro rfl
      exact absurd offered (by simp)
    have inMode : readAgreementMode mode.code = Option.some mode := by cases mode <;> rfl
    unfold readAgreement
    rw [own, inMode]
    simp only [accept, code]
    rw [dif_pos fixed.isLt, if_pos ⟨some, offered⟩]
  unfold serveSetAgreement
  rw [reads]
  simp only [oneByte_eq]
  rfl

/-- SET AGREEMENT with mode NEGOTIATE, up to its answer. -/
theorem State.setAgreementFields_listens (line : s.resetLine = false) (mask : BitVec 8) (fixed : ProfileCode) :
    (s.setAgreementFields .negotiate mask fixed).agreement = (s.agreement.restart .negotiate mask fixed).listening ∧
    (s.setAgreementFields .negotiate mask fixed).ports =
      Ports.chooseA s.straps.station { s.ports with offer := s.ports.offer.place ⟨mask, false⟩ } ∧
    SameOutside [.agreement, .ports] (s.restarted .negotiate mask fixed)
      (s.setAgreementFields .negotiate mask fixed) := by
  have before := s.restarted_frame .negotiate mask fixed
  have agreement := s.restarted_agreement .negotiate mask fixed
  obtain ⟨frame, listens, -, ports⟩ := State.enterListen_enters (s := s.restarted .negotiate mask fixed)
    ((before.get .resetLine).trans line)
  rw [State.setAgreementFields_negotiate]
  refine ⟨listens.trans (congrArg _ agreement), ports.trans ?_, frame⟩
  unfold State.offered
  rw [before.get .straps, agreement, s.restarted_ports]
  unfold Ports.withdrawn
  dsimp only
  rw [OfferPlace.place_withdrawn]
  rfl

/-- Settles O26: the fields stored, AGREED left, and the entry that the mode names. -/
theorem setAgreement : Obligations.SetAgreement := by
  intro s r mode mask fixed serving own accept code offered
  have serves := next_congr ((State.serve_of_serving s serving).trans
    (serveSetAgreement_accepts own accept code offered))
  let m := s.setAgreementFields mode mask fixed
  have frame := s.setAgreementFields_frame mode mask fixed
  have before := s.restarted_frame mode mask fixed
  have fields := s.restarted_agreement mode mask fixed
  have answers := m.answer_frame r .done [BitVec.ofNat 8 m.agreement.state.code, BitVec.ofNat 8 m.agreement.profile.val]
  have placed := m.answer_ports r .done [BitVec.ofNat 8 m.agreement.state.code, BitVec.ofNat 8 m.agreement.profile.val]
  have served := m.answer_management r .done
    [BitVec.ofNat 8 m.agreement.state.code, BitVec.ofNat 8 m.agreement.profile.val]
  rw [State.chosenB_running ((frame.get .resetLine).trans serving.running), frame.get .straps] at placed
  rw [frame.get .management] at served
  refine ⟨_, serves, frame.andThen answers, served, ?_⟩
  dsimp only
  generalize m.answer r .done [BitVec.ofNat 8 m.agreement.state.code, BitVec.ofNat 8 m.agreement.profile.val] = t at *
  rw [answers.get .agreement]
  cases mode with
  | negotiate =>
    obtain ⟨agreement, ports, listens⟩ := State.setAgreementFields_listens serving.running mask fixed
    have moved : SameOutside [.agreement, .ports, .management] (s.restarted .negotiate mask fixed) t :=
      listens.andThen answers
    have holds : t.ports.offer.Holds ⟨mask, false⟩ := by
      rw [placed, ports, Ports.chooseB_offer]
      exact Ports.chooseA_place_holds _ _ _ _
    rw [agreement]
    rw [agreement, ports] at placed
    refine ⟨rfl, rfl, rfl, rfl, rfl, rfl, rfl, rfl, rfl, rfl, rfl, fun _ => ⟨rfl, rfl, rfl, holds, placed, fun agreed => ?_,
      fun other => ?_⟩, nofun⟩
    · obtain ⟨latches, intake, broken⟩ := s.restarted_leaves .negotiate mask fixed agreed
      exact ⟨broken.congr (moved.get .trackers) (moved.get .former), (moved.get .latches).trans latches,
        (moved.get .intake).trans intake⟩
    · have stays := s.restarted_stays .negotiate mask fixed other
      rw [stays] at moved
      exact ⟨moved.get .trackers, moved.get .former, moved.get .intake, moved.get .latches⟩
  | fixed =>
    let a := s.restarted .fixed mask fixed
    let b := ((a.setAgreement s.agreement).setPorts s.ports).setIntake s.intake
    obtain ⟨-, agreement, enters⟩ := a.enterAgreed_enters fixed none
    have agrees : m.agreement = (s.agreement.restart .fixed mask fixed).agreeing fixed :=
      agreement.trans (congrArg (Agreement.agreeing · fixed) fields)
    rw [agrees]
    rw [agrees] at placed
    refine ⟨rfl, rfl, rfl, rfl, rfl, rfl, rfl, rfl, rfl, rfl, rfl, nofun, fun _ => ⟨b, m, answers, placed, ?_,
      before.setBack, fun agreed => ?_, fun other => ?_⟩⟩
    · have profile : a.agreement.profile = s.agreement.profile := by
        change (s.restarted .fixed mask fixed).agreement.profile = _
        rw [fields]
        rfl
      have entered := enters.of_same (s := b) profile (s.restarted_intake .fixed mask fixed).1
        (s.restarted_intake .fixed mask fixed).2 rfl rfl rfl rfl rfl rfl
      rw [s.restarted_ports] at entered
      unfold Ports.withdrawn at entered
      rw [OfferPlace.withdrawn_withdrawn] at entered
      exact entered
    · obtain ⟨latches, -, broken⟩ := s.restarted_leaves .fixed mask fixed agreed
      exact ⟨latches, broken.congr rfl rfl⟩
    · have stays := s.restarted_stays .fixed mask fixed other
      change (((s.restarted .fixed mask fixed).setAgreement s.agreement).setPorts s.ports).setIntake s.intake = s
      rw [stays]
      rfl

end Sys2Proof.Machine
end


section
/-! SUPPORT. Bytes: big-endian fields written and read, and where a field stands in a layout (R173, R174). -/

namespace Sys2Proof.Machine

set_option Elab.async false

open Sys2Proof

/-! ## Fields read -/

theorem beNat_lt (b : Bytes) (i w : Nat) : beNat b i w < 256 ^ w := by
  induction w with
  | zero => exact Nat.one_pos
  | succ w ih =>
    have byte := (b.getD (i + w) 0).isLt
    rw [beNat, Nat.pow_succ]
    omega

theorem byteAt_lt (b : Bytes) (i : Nat) : byteAt b i < 256 := (b.getD i 0).isLt

theorem beNat_succ (b : Bytes) (i w : Nat) : beNat b i (w + 1) = beNat b i w * 256 + byteAt b (i + w) := rfl

theorem beNat_one (b : Bytes) (i : Nat) : beNat b i 1 = byteAt b i := by
  rw [beNat_succ, beNat, Nat.zero_mul, Nat.zero_add, Nat.add_zero]

/-- A field is its first byte and the rest. -/
theorem beNat_cons (b : Bytes) (i w : Nat) : beNat b i (w + 1) = byteAt b i * 256 ^ w + beNat b (i + 1) w := by
  induction w with
  | zero =>
    rw [beNat_one, Nat.pow_zero, Nat.mul_one]
    rfl
  | succ w ih =>
    rw [beNat_succ, ih, beNat_succ b (i + 1), Nat.add_right_comm i 1 w, Nat.add_assoc i w 1, Nat.pow_succ]
    ring

/-- A field reads its own bytes. -/
theorem beNat_congr {a b : Bytes} {i j w : Nat} (same : ∀ k, k < w → byteAt a (i + k) = byteAt b (j + k)) :
    beNat a i w = beNat b j w := by
  induction w with
  | zero => rfl
  | succ w ih =>
    rw [beNat_succ, beNat_succ, ih fun k low => same k (Nat.lt_succ_of_lt low), same w w.lt_succ_self]

theorem byteAt_append_left {a b : Bytes} {i : Nat} (h : i < a.length) : byteAt (a ++ b) i = byteAt a i :=
  congrArg BitVec.toNat (List.getD_append _ _ _ _ h)

theorem byteAt_append_right {a b : Bytes} {i : Nat} (h : a.length ≤ i) : byteAt (a ++ b) i = byteAt b (i - a.length) :=
  congrArg BitVec.toNat (List.getD_append_right _ _ _ _ h)

theorem beNat_append_left {a b : Bytes} {i w : Nat} (h : i + w ≤ a.length) : beNat (a ++ b) i w = beNat a i w :=
  beNat_congr fun k low => byteAt_append_left (by omega)

theorem beNat_append_right {a b : Bytes} {i w : Nat} (h : a.length ≤ i) :
    beNat (a ++ b) i w = beNat b (i - a.length) w :=
  beNat_congr fun k low => by rw [byteAt_append_right (by omega), Nat.sub_add_comm h]

theorem byteAt_drop (b : Bytes) (n i : Nat) : byteAt (b.drop n) i = byteAt b (n + i) := by
  unfold byteAt
  rw [List.getD_eq_getElem?_getD, List.getElem?_drop, ← List.getD_eq_getElem?_getD]

theorem beNat_drop (b : Bytes) (n i w : Nat) : beNat (b.drop n) i w = beNat b (n + i) w :=
  beNat_congr fun k _ => by rw [byteAt_drop, Nat.add_assoc]

theorem byteAt_take {b : Bytes} {n i : Nat} (h : i < n) : byteAt (b.take n) i = byteAt b i := by
  unfold byteAt
  rw [List.getD_eq_getElem?_getD, List.getElem?_take_of_lt h, ← List.getD_eq_getElem?_getD]

theorem byteAt_eq_getElem {b : Bytes} {i : Nat} (h : i < b.length) : byteAt b i = (b[i]).toNat :=
  congrArg BitVec.toNat (List.getD_eq_getElem _ _ h)

/-! ## Fields written -/

@[simp] theorem length_toBE (w n : Nat) : (toBE w n).length = w := by
  induction w with
  | zero => rfl
  | succ w ih => rw [toBE, List.length_cons, ih]

@[simp] theorem length_oneByte (n : Nat) : (oneByte n).length = 1 := rfl

@[simp] theorem length_boolByte (b : Bool) : (boolByte b).length = 1 := rfl

/-- Only the low bytes of a number are written. -/
theorem toBE_mod (w n : Nat) : ∀ m, w ≤ m → toBE w (n % 256 ^ m) = toBE w n := by
  induction w with
  | zero => exact fun _ _ => rfl
  | succ w ih =>
    intro m wide
    rw [toBE, toBE, ih m (by omega)]
    refine congrArg (· :: _) (BitVec.eq_of_toNat_eq ?_)
    obtain ⟨v, rfl⟩ := Nat.exists_eq_add_of_le wide
    rw [BitVec.toNat_ofNat, BitVec.toNat_ofNat, Nat.add_assoc w 1 v, Nat.pow_add 256 w (1 + v), Nat.mod_mul_right_div_self,
      Nat.pow_add, Nat.pow_one]
    exact Nat.mod_mul_right_mod _ _ _

/-- A number written and read. -/
theorem beNat_toBE (w n : Nat) : beNat (toBE w n) 0 w = n % 256 ^ w := by
  induction w with
  | zero => rw [Nat.pow_zero, Nat.mod_one]; rfl
  | succ w ih =>
    have head : byteAt (toBE (w + 1) n) 0 = n / 256 ^ w % 256 := by
      unfold byteAt toBE
      exact BitVec.toNat_ofNat _ _
    have tail : beNat (toBE (w + 1) n) (0 + 1) w = beNat (toBE w n) 0 w :=
      beNat_congr fun k _ => by
        unfold byteAt
        rw [toBE, Nat.zero_add, Nat.zero_add, Nat.add_comm, List.getD_cons_succ]
    rw [beNat_cons, head, tail, ih, Nat.pow_succ, Nat.mod_mul]
    ring

theorem byteAt_oneByte (n : Nat) : byteAt (oneByte n) 0 = n % 256 := by
  rw [← beNat_one]
  exact beNat_toBE 1 n

/-- A field read and written again. -/
theorem toBE_beNat {b : Bytes} {i w : Nat} (h : i + w ≤ b.length) : toBE w (beNat b i w) = (b.drop i).take w := by
  induction w generalizing i with
  | zero => rfl
  | succ w ih =>
    have own : i < b.length := by omega
    have rest := beNat_lt b (i + 1) w
    have head : beNat b i (w + 1) / 256 ^ w = byteAt b i := by
      rw [beNat_cons, Nat.mul_comm, Nat.mul_add_div (Nat.pow_pos (by decide)), Nat.div_eq_of_lt rest, Nat.add_zero]
    have low : toBE w (beNat b i (w + 1)) = toBE w (beNat b (i + 1) w) := by
      rw [← toBE_mod w _ w le_rfl, beNat_cons, Nat.mul_comm, Nat.mul_add_mod, Nat.mod_eq_of_lt rest]
    have byte : BitVec.ofNat 8 (byteAt b i) = b[i] := by
      rw [byteAt_eq_getElem own]
      exact BitVec.eq_of_toNat_eq (by simp)
    rw [toBE, head, low, ih (by omega), byte, List.drop_eq_getElem_cons own, List.take_succ_cons]

end Sys2Proof.Machine
end


section
/-! SUPPORT. The requests that write the station settings and the windows (R34 to R36, R44, R45, R167). -/

namespace Sys2Proof.Machine

set_option Elab.async false

open Sys2Proof

variable {s : State} {r : Request}

/-! ## SET STATION and RESET -/

theorem Serving.length {k : RequestKind} (h : Serving s k r) : lengthFits k r.body = true := by
  have kind := h.kind
  unfold Request.validKind at kind
  split at kind
  · exact absurd kind nofun
  · next k' _ =>
    split at kind
    · next valid =>
      obtain rfl := Option.some.inj kind
      exact valid.2
    · exact absurd kind nofun

/-- The station settings that a SET STATION of 9 bytes carries are written back as its body. -/
theorem StationSettings.encode_read {b : Bytes} (length : b.length = 9) {forwarding notices : Bool}
    (first : byteAt b 6 = if forwarding then 1 else 0) (second : byteAt b 7 = if notices then 1 else 0) :
    StationSettings.encode ⟨BitVec.ofNat 48 (beNat b 0 6), forwarding, notices, byteAt b 8⟩ = b := by
  have address : (BitVec.ofNat 48 (beNat b 0 6)).toNat = beNat b 0 6 := by
    rw [BitVec.toNat_ofNat]
    exact Nat.mod_eq_of_lt (beNat_lt b 0 6)
  unfold StationSettings.encode boolByte
  rw [← first, ← second]
  dsimp only
  rw [address]
  unfold oneByte
  rw [← beNat_one, ← beNat_one, ← beNat_one, toBE_beNat (by omega), toBE_beNat (by omega), toBE_beNat (by omega),
    toBE_beNat (by omega)]
  have split (i w : Nat) : (b.drop i).take w ++ b.drop (i + w) = b.drop i := by
    rw [← List.drop_drop]
    exact List.take_append_drop _ _
  have last : (b.drop 8).take 1 = b.drop 8 := List.take_of_length_le (by rw [List.length_drop, length])
  rw [last, List.append_assoc, List.append_assoc, split 7 1, split 6 1]
  exact split 0 6

theorem readBool_bit (x : Bool) : readBool (if x then 1 else 0) = some x := by cases x <;> rfl

/-- Settles O59: the settings stored, and the request reset left waiting. -/
theorem stationAndResetRequests : Obligations.StationAndResetRequests := by
  refine ⟨fun s r forwarding notices serving first second silence => ?_, fun s r serving => ?_⟩
  · have length : r.body.length = 9 := of_decide_eq_true serving.length
    have reads : readStation r.body =
        some ⟨BitVec.ofNat 48 (beNat r.body 0 6), forwarding, notices, byteAt r.body 8⟩ := by
      unfold readStation
      rw [first, second, readBool_bit, readBool_bit]
      exact if_neg (Nat.one_le_iff_ne_zero.mp silence)
    let m := s.setTables { s.tables with
      station := ⟨BitVec.ofNat 48 (beNat r.body 0 6), forwarding, notices, byteAt r.body 8⟩ }
    have serves : serveSetStation s r = m.answer r .done r.body := by
      unfold serveSetStation
      rw [reads]
      dsimp only
      rw [StationSettings.encode_read length first second]
    have changed : SameOutside [.tables] s m := s.setTables_frame _
    exact ⟨_, next_congr ((State.serve_of_serving s serving).trans serves), (changed.answer r .done r.body).wider,
      SameOutside.answered changed.wider r .done r.body, (m.answer_frame r .done r.body).get .tables⟩
  · have served := (s.setManagement { s.management with resetWaiting := true }).answer_answered r .done []
    exact ⟨_, next_congr (State.serve_of_serving s serving), ((s.setManagement_frame _).answer r .done []).wider, served⟩

/-! ## Windows -/

/-- The entries of a window of n are read when each is. -/
theorem readEntries_eq_some {α : Type} {read : Nat → Option α} {f : Nat → α} {n : Nat}
    (each : ∀ j, j < n → read j = some (f j)) : readEntries read n = some ((List.range n).map f) := by
  induction n with
  | zero => rfl
  | succ n ih =>
    rw [readEntries, ih fun j low => each j (Nat.lt_succ_of_lt low), each n n.lt_succ_self, List.range_succ,
      List.map_append]
    rfl

theorem readWindow_eq_some {α : Type} {first size start count : Nat} {read : Nat → Option α} {f : Nat → α}
    (from_ : first ≤ start) (below : start < first + size) (some_ : 1 ≤ count) (fits : count ≤ size)
    (each : ∀ j, j < count → read j = some (f j)) :
    readWindow first size start count read = some ⟨start - first, (List.range count).map f⟩ := by
  unfold readWindow
  rw [if_pos ⟨from_, below, some_, fits⟩, readEntries_eq_some each]

theorem add_mod_ne {n i j : Nat} (some_ : 0 < j) (below : j < n) : (i + j) % n ≠ i % n := by
  intro same
  have zero : j % n = 0 % n := Nat.ModEq.add_left_cancel' i same
  rw [Nat.mod_eq_of_lt below, Nat.zero_mod] at zero
  exact absurd zero (Nat.ne_of_gt some_)

/-- What an index outside the window holds. -/
theorem writeWindow_outside {α : Type} {n : Nat} [NeZero n] {l : List α} {v : Vector α n} {i : Nat} {k : Fin n}
    (outside : ∀ j, j < l.length → (i + j) % n ≠ k.val) : (writeWindow v i l)[k] = v[k] := by
  induction l generalizing v i with
  | nil => rfl
  | cons x l ih =>
    have other : k ≠ Fin.ofNat n i := fun same => outside 0 (Nat.succ_pos _) (by rw [same]; rfl)
    rw [writeWindow, ih fun j low => ?_, getElem_upd, if_neg other.symm]
    rw [Nat.add_assoc, Nat.add_comm 1 j]
    exact outside (j + 1) (Nat.succ_lt_succ low)

/-- What the j-th index of the window holds. -/
theorem writeWindow_inside {α : Type} {n : Nat} [NeZero n] {l : List α} {v : Vector α n} {i : Nat} {k : Fin n} {j : Nat}
    (fits : l.length ≤ n) (inside : j < l.length) (own : (i + j) % n = k.val) :
    (writeWindow v i l)[k] = l[j] := by
  induction l generalizing v i j with
  | nil => exact absurd inside (Nat.not_lt_zero _)
  | cons x l ih =>
    rw [writeWindow]
    cases j with
    | zero =>
      have same : k = Fin.ofNat n i := Fin.ext own.symm
      rw [writeWindow_outside fun m low => ?_, same, getElem_upd, if_pos rfl]
      · rfl
      · rw [← own, Nat.add_assoc]
        exact add_mod_ne (Nat.add_pos_left Nat.one_pos m) (Nat.lt_of_lt_of_le (by rw [Nat.add_comm]; exact Nat.succ_lt_succ low) fits)
    | succ j =>
      exact ih (Nat.le_of_succ_le fits) (Nat.lt_of_succ_lt_succ inside) (by rw [← own, Nat.add_assoc, Nat.add_comm 1 j])

/-- A window of count entries written into a table. -/
theorem writeWindow_range {α : Type} {n : Nat} [NeZero n] {f : Nat → α} {v : Vector α n} {i count : Nat} {k : Fin n}
    {j : Nat} (fits : count ≤ n) (below : j < n) (own : (i + j) % n = k.val) :
    (writeWindow v i ((List.range count).map f))[k] = if j < count then f j else v[k] := by
  have length : ((List.range count).map f).length = count := by rw [List.length_map, List.length_range]
  split
  · next inside =>
    rw [writeWindow_inside (j := j) (by rw [length]; exact fits) (by rw [length]; exact inside) own]
    rw [List.getElem_map, List.getElem_range]
  · next outside =>
    refine writeWindow_outside fun m low same => ?_
    rw [length] at low
    have mod : j % n = m % n := Nat.ModEq.add_left_cancel' i (own.trans same.symm)
    rw [Nat.mod_eq_of_lt below, Nat.mod_eq_of_lt (Nat.lt_of_lt_of_le low fits)] at mod
    exact outside (mod ▸ low)

theorem readGroup_of_le {n : Nat} (h : n ≤ 4) : readGroup n = some ((readGroup n).getD .none) := by
  interval_cases n <;> rfl

/-- A request that writes a table and answers DONE. -/
theorem State.setTables_answer_done (s : State) (x : Tables) (r : Request) :
    SameOutside [.tables, .ports, .management] s ((s.setTables x).answer r .done []) ∧
    Answered s ((s.setTables x).answer r .done []) r .done [] ∧ ((s.setTables x).answer r .done []).tables = x :=
  ⟨((s.setTables_frame x).answer r .done []).wider, SameOutside.answered (s.setTables_frame x).wider r .done [],
    (State.answer_frame _ r .done []).get .tables⟩

theorem serveWriteChannels_window (start : byteAt r.body 0 < 48) (some_ : 1 ≤ byteAt r.body 1)
    (fits : byteAt r.body 1 ≤ 48)
    (offsets : ∀ j, j < byteAt r.body 1 → -524288 ≤ beInt r.body (4 + 6 * j) 4 ∧ beInt r.body (4 + 6 * j) 4 ≤ 524287) :
    serveWriteChannels s r = (s.setTables { s.tables with
      channels := writeWindow s.tables.channels (byteAt r.body 0) ((List.range (byteAt r.body 1)).map fun j =>
        ⟨BitVec.ofNat 16 (beNat r.body (2 + 6 * j) 2), beInt r.body (4 + 6 * j) 4⟩) }).answer r .done [] := by
  unfold serveWriteChannels readChannelWindow
  rw [readWindow_eq_some (Nat.zero_le _) (by omega) some_ fits fun j low => if_pos (offsets j low)]
  rfl

theorem serveWriteGroups_window (from_ : 2 ≤ byteAt r.body 0) (start : byteAt r.body 0 ≤ 50)
    (some_ : 1 ≤ byteAt r.body 1) (fits : byteAt r.body 1 ≤ 49)
    (groups : ∀ j, j < byteAt r.body 1 → byteAt r.body (2 + 2 * j) ≤ 4) :
    serveWriteGroups s r = (s.setTables { s.tables with
      groups := writeWindow s.tables.groups (byteAt r.body 0 - 2) ((List.range (byteAt r.body 1)).map fun j =>
        ⟨(readGroup (byteAt r.body (2 + 2 * j))).getD .none, r.body.getD (3 + 2 * j) 0⟩) }).answer r .done [] := by
  unfold serveWriteGroups readGroupWindow
  rw [readWindow_eq_some (f := fun j => ⟨(readGroup (byteAt r.body (2 + 2 * j))).getD .none, r.body.getD (3 + 2 * j) 0⟩)
    from_ (by omega) some_ fits fun j low => by rw [readGroup_of_le (groups j low)]; rfl]

theorem readCorrectionWindow_window {b : Bytes} {x : Fin 4} (cls : byteAt b 0 = x.val + 1) (from_ : 1 ≤ byteAt b 1)
    (start : byteAt b 1 ≤ 50) (some_ : 1 ≤ byteAt b 2) (fits : byteAt b 2 ≤ 50) :
    readCorrectionWindow b = some ⟨x, byteAt b 1 - 1, (List.range (byteAt b 2)).map fun j =>
      ⟨BitVec.ofNat 16 (beNat b (3 + 4 * j) 2), BitVec.ofNat 16 (beNat b (5 + 4 * j) 2)⟩⟩ := by
  unfold readCorrectionWindow
  have class_ : byteAt b 0 - 1 = x.val := by omega
  rw [dif_pos (by omega), readWindow_eq_some from_ (by omega) some_ fits fun _ _ => rfl]
  simp only [class_]

/-- Settles O58: each entry of the window at its index, past the table's end at its beginning. -/
theorem windowWrites : Obligations.WindowWrites := by
  refine ⟨⟨rfl, fun n large => ?_⟩, fun s r serving start some_ fits offsets => ?_,
    fun s r serving from_ start some_ fits groups => ?_, fun s r x serving window cls from_ start some_ fits => ?_⟩
  · unfold readGroup
    split
    case h_6 => rfl
    all_goals omega
  · obtain ⟨frame, answered, tables⟩ := s.setTables_answer_done _ r
    refine ⟨_, next_congr ((State.serve_of_serving s serving).trans
      (serveWriteChannels_window start some_ fits offsets)), frame, answered, ?_, fun c => ?_⟩
    · rw [tables]
    · rw [tables]
      exact writeWindow_range fits (Nat.mod_lt _ (by decide)) (by omega)
  · obtain ⟨frame, answered, tables⟩ := s.setTables_answer_done _ r
    refine ⟨_, next_congr ((State.serve_of_serving s serving).trans
      (serveWriteGroups_window from_ start some_ fits groups)), frame, answered, ?_, fun k => ?_⟩
    · rw [tables]
    · rw [tables]
      intro j
      dsimp only
      rw [writeWindow_range (j := j) fits (Nat.mod_lt _ (by decide)) (by omega)]
      refine ⟨fun inside => ?_, fun outside => if_neg (Nat.not_lt.mpr outside)⟩
      rw [if_pos inside]
      exact ⟨readGroup_of_le (groups j inside), rfl⟩
  · intro entry
    have reads := readCorrectionWindow_window cls from_ start some_ fits
    cases flight : s.engine.flight with
    | none =>
      have serves : serveWriteCorrection s r = (s.applyCorrection ⟨x, byteAt r.body 1 - 1,
          (List.range (byteAt r.body 2)).map entry⟩).answer r .done [] := by
        unfold serveWriteCorrection
        rw [window, reads, flight]
      obtain ⟨frame, answered, tables⟩ := s.setTables_answer_done _ r
      refine ⟨_, next_congr ((State.serve_of_serving s serving).trans serves),
        fun _ => ⟨frame, answered, ?_, fun y other => ?_, fun k => ?_⟩, nofun⟩
      · have corrections := (congrArg Tables.corrections tables).symm
        exact tables.trans (congrArg (fun c => { s.tables with corrections := c }) corrections)
      · refine (congrArg (fun v : Tables => v.corrections[y]) tables).trans ?_
        exact (getElem_modAt _ _ _ _).trans (if_neg other.symm)
      · refine (congrArg (fun v : Tables => v.corrections[x][k]) tables).trans ?_
        refine (congrArg (fun v : Vector CorrectionEntry 50 => v[k]) ((getElem_modAt _ _ _ _).trans (if_pos rfl))).trans ?_
        exact writeWindow_range fits (Nat.mod_lt _ (by decide)) (by dsimp only; omega)
    | some job =>
      have serves : serveWriteCorrection s r = s.setEngine { s.engine with
          window := some ⟨x, byteAt r.body 1 - 1, (List.range (byteAt r.body 2)).map entry⟩ } := by
        unfold serveWriteCorrection
        rw [window, reads, flight]
      exact ⟨_, next_congr ((State.serve_of_serving s serving).trans serves), nofun, fun _ => rfl⟩

end Sys2Proof.Machine
end


section
/-! SUPPORT. Entries applied, and WRITE TAP (R39, R40). -/

namespace Sys2Proof.Machine

set_option Elab.async false

open Sys2Proof

variable {s : State} {r : Request} {tap : TapId} {e : TapEntry}

/-! ## What makes cycles -/

theorem TrackerState.isRunning_iff (x : TrackerState) : x.isRunning = true ↔ x ≠ .idle ∧ x ≠ .following := by
  cases x <;> decide

theorem State.cycleSource_eq (s : State) (u : TrackerId) : s.cycleSource u =
    if s.trackers[u].state = .idle then none
    else if s.trackers[u].state = .following then (if s.trackers[(0 : TrackerId)].state = .idle then none else some 0)
    else some u := by
  unfold State.cycleSource
  split <;> next state => simp only [state, reduceCtorEq, ↓reduceIte]

/-! ## Entries applied -/

theorem classifyApply_eq_plain_iff (old new : TapEntry) :
    classifyApply old new = .plain ↔ new.tracker = old.tracker ∧ new.channels = old.channels := by
  unfold classifyApply
  by_cases tracker : new.tracker = old.tracker
  · by_cases channels : new.channels = old.channels <;> simp [tracker, channels]
  · simp [tracker]

theorem State.applyEntry_same (tracker : e.tracker = (s.tapEntry tap).tracker)
    (channels : e.channels = (s.tapEntry tap).channels) :
    s.applyEntry tap e = s.modTapSlot tap fun x => ⟨e, x.generation + 1, none⟩ :=
  if_pos ((classifyApply_eq_plain_iff _ _).mpr ⟨tracker, channels⟩)

theorem State.applyEntry_moves (moves : e.tracker ≠ (s.tapEntry tap).tracker ∨ e.channels ≠ (s.tapEntry tap).channels) :
    s.applyEntry tap e = (s.modTapSlot tap fun x => ⟨e, x.generation + 1, none⟩).breakSpectrum tap := by
  refine if_neg fun plain => ?_
  obtain ⟨tracker, channels⟩ := (classifyApply_eq_plain_iff _ _).mp plain
  exact moves.elim (· tracker) (· channels)

theorem State.applyEntry_tables (s : State) (tap : TapId) (e : TapEntry) : (s.applyEntry tap e).tables =
    { s.tables with taps := modAt s.tables.taps tap fun x => ⟨e, x.generation + 1, none⟩ } := by
  unfold State.applyEntry
  dsimp only
  split <;> rfl

/-- An entry applied at a tap whose tracker makes no cycles. -/
theorem State.applyInactive_former (s : State) (tap : TapId) (e : TapEntry) : (s.applyInactive tap e).former =
    { s.former with taps := modAt s.former.taps tap fun f => f.clear (s.collectAfterApply e) } := by
  have former : (s.applyEntry tap e).former = s.former := (s.applyEntry_frame tap e).get .former
  unfold State.applyInactive State.modFormerTap State.setFormer
  rw [former]

theorem State.applyInactive_tables (s : State) (tap : TapId) (e : TapEntry) : (s.applyInactive tap e).tables =
    { s.tables with taps := modAt s.tables.taps tap fun x => ⟨e, x.generation + 1, none⟩ } := s.applyEntry_tables tap e

theorem getElem_modAt_same {α : Type} {n : Nat} (v : Vector α n) (i : Fin n) (f : α → α) : (modAt v i f)[i] = f v[i] := by
  rw [getElem_modAt, if_pos rfl]

theorem getElem_modAt_other {α : Type} {n : Nat} {v : Vector α n} {i j : Fin n} {f : α → α} (h : j ≠ i) :
    (modAt v i f)[j] = v[j] := by
  rw [getElem_modAt, if_neg h.symm]

/-! ## WRITE TAP -/

theorem serveWriteTap_stages (reads : readTapWrite r.body = some (tap, e))
    (active : (s.tapEntry tap).enabled = true ∧ s.makesCycles (s.tapTracker tap) = true) : serveWriteTap s r =
      (s.modTapSlot tap fun x => { x with staged := some e }).answer r .done
        ([1] ++ toBE 2 s.tables.taps[tap].generation.toNat) := by
  unfold serveWriteTap
  rw [reads]
  dsimp only
  rw [if_pos (by rw [active.1, active.2]; rfl)]
  unfold State.tapWriteBody
  have generation : (s.modTapSlot tap fun x => { x with staged := some e }).tables.taps[tap].generation =
      s.tables.taps[tap].generation := by
    change (modAt s.tables.taps tap fun x => { x with staged := some e })[tap].generation = _
    rw [getElem_modAt_same]
  rw [generation]
  rfl

theorem serveWriteTap_applies (reads : readTapWrite r.body = some (tap, e))
    (inactive : (s.tapEntry tap).enabled = false ∨ s.makesCycles (s.tapTracker tap) = false) : serveWriteTap s r =
      (s.applyInactive tap e).answer r .done ([0] ++ toBE 2 (s.tables.taps[tap].generation + 1).toNat) := by
  unfold serveWriteTap
  rw [reads]
  dsimp only
  rw [if_neg (by obtain h | h := inactive <;> simp [h])]
  unfold State.tapWriteBody
  have generation : (s.applyInactive tap e).tables.taps[tap].generation = s.tables.taps[tap].generation + 1 := by
    rw [State.applyInactive_tables]
    exact congrArg TapSlot.generation (getElem_modAt_same _ _ _)
  rw [generation]
  rfl

/-- The engine after an entry is applied that moves the tap. -/
theorem State.applyInactive_breaks
    (moves : e.tracker ≠ (s.tapEntry tap).tracker ∨ e.channels ≠ (s.tapEntry tap).channels) :
    (s.applyInactive tap e).engine = { s.engine with
      held := upd s.engine.held tap none, stale := upd s.engine.stale tap (s.outstandingJobs tap) } := by
  have engine : (s.applyInactive tap e).engine = (s.applyEntry tap e).engine := rfl
  rw [engine, State.applyEntry_moves moves]
  rfl

theorem State.applyInactive_plain (tracker : e.tracker = (s.tapEntry tap).tracker)
    (channels : e.channels = (s.tapEntry tap).channels) : (s.applyInactive tap e).engine = s.engine := by
  have engine : (s.applyInactive tap e).engine = (s.applyEntry tap e).engine := rfl
  rw [engine, State.applyEntry_same tracker channels]
  rfl

/-- Settles O43: staged on an active tap, applied at once on another. -/
theorem writeTap : Obligations.WriteTap := by
  refine ⟨fun s u => ⟨TrackerState.isRunning_iff _, s.cycleSource_eq u, rfl, fun _ => ⟨rfl, rfl⟩⟩,
    fun s r tap e serving reads => ?_⟩
  intro old
  have next {t : State} (serves : serveWriteTap s r = t) : exec .writeTap s = .next t :=
    next_congr ((State.serve_of_serving s serving).trans serves)
  by_cases active : (s.tapEntry tap).enabled = true ∧ s.makesCycles (s.tapTracker tap) = true
  · let m := s.modTapSlot tap fun x => { x with staged := some e }
    have frame : SameOutside [.tables] s m := s.setTables_frame _
    have tables := (m.answer_frame r .done ([1] ++ toBE 2 old.generation.toNat)).get .tables
    refine ⟨_, next (serveWriteTap_stages reads active), tables.trans (by rw [tables]; rfl), fun other differs => ?_,
      fun _ _ => ⟨(frame.answer r _ _).wider, ?_, frame.wider.answered r _ _⟩, fun inactive => ?_⟩
    · rw [tables]
      exact getElem_modAt_other differs
    · rw [tables]
      exact getElem_modAt_same _ _ _
    · obtain disabled | idle := inactive
      · exact absurd (active.1.symm.trans disabled) nofun
      · exact absurd (active.2.symm.trans idle) nofun
  · have off : (s.tapEntry tap).enabled = false ∨ s.makesCycles (s.tapTracker tap) = false := by
      simpa only [not_and_or, Bool.not_eq_true] using active
    let m := s.applyInactive tap e
    have frame := s.applyInactive_frame tap e
    have answers := m.answer_frame r .done ([0] ++ toBE 2 (old.generation + 1).toNat)
    have tables := (answers.get .tables).trans (s.applyInactive_tables tap e)
    have former := (answers.get .former).trans (s.applyInactive_former tap e)
    have engine := answers.get .engine
    have taps := congrArg (fun f : Former => f.taps[tap]) former
    have own : (modAt s.former.taps tap fun f => f.clear (s.collectAfterApply e))[tap] = _ := getElem_modAt_same _ _ _
    replace taps := taps.trans own
    refine ⟨_, next (serveWriteTap_applies reads off), tables.trans (by rw [tables]), fun other differs => ?_,
      fun enabled makes => absurd ⟨enabled, makes⟩ active, fun _ => ⟨frame.andThen answers, former.trans (by rw [former]),
        fun other differs => ?_, ?_, ?_, frame.wider.answered r _ _, ?_, ?_, fun tracker channels => ?_, fun moves => ?_⟩⟩
    · rw [tables]
      exact getElem_modAt_other differs
    · rw [former]
      exact getElem_modAt_other differs
    · rw [taps]
      rfl
    · rw [tables]
      exact getElem_modAt_same _ _ _
    · rw [taps]
      exact if_congr (Bool.and_eq_true _ _ ▸ Iff.rfl) rfl rfl
    · rw [taps]
      rfl
    · exact engine.trans (State.applyInactive_plain tracker channels)
    · rw [engine, State.applyInactive_breaks moves]
      refine ⟨(getElem_upd _ _ _ _).trans (if_pos rfl), (getElem_upd _ _ _ _).trans (if_pos rfl), rfl,
        fun other differs => ⟨(getElem_upd _ _ _ _).trans (if_neg differs.symm),
          (getElem_upd _ _ _ _).trans (if_neg differs.symm)⟩, rfl, rfl, rfl⟩

end Sys2Proof.Machine
end


section
/-! SUPPORT. SET TARIFF and the tariff step (R98, R99). -/

namespace Sys2Proof.Machine

set_option Elab.async false

open Sys2Proof

variable {s : State} {r : Request} {u : TrackerId} {p : PendingTariff}

/-! ## SET TARIFF -/

theorem readTariff_val {b : Bytes} {x : Tariff} (h : byteAt b 0 = x.val) :
    readTariff b = some (x, if b.length = 5 then some (BitVec.ofNat 32 (beNat b 1 4)) else none) := by
  unfold readTariff
  rw [dif_pos (h ▸ x.isLt)]
  simp only [h]

theorem serveSetTariff_stores {x : Tariff} (h : byteAt r.body 0 = x.val) :
    let effective := if r.body.length = 5 then some (BitVec.ofNat 32 (beNat r.body 1 4)) else none
    serveSetTariff s r = (s.setFormer { s.former with pendingTariff := some ⟨x, effective, #v[false, false]⟩ }).answer r .done
      ([BitVec.ofNat 8 s.former.trackers[(0 : TrackerId)].tariff.val,
        BitVec.ofNat 8 s.former.trackers[(1 : TrackerId)].tariff.val, 1, BitVec.ofNat 8 x.val] ++
        (match effective with
         | none => [0]
         | some n => 1 :: toBE 4 n.toNat) ++ [0]) := by
  intro effective
  have body : State.tariffBody (s.setFormer { s.former with pendingTariff := some ⟨x, effective, #v[false, false]⟩ }) =
      [BitVec.ofNat 8 s.former.trackers[(0 : TrackerId)].tariff.val,
        BitVec.ofNat 8 s.former.trackers[(1 : TrackerId)].tariff.val, 1, BitVec.ofNat 8 x.val] ++
        (match effective with
         | none => [0]
         | some n => 1 :: toBE 4 n.toNat) ++ [0] := by
    unfold State.tariffBody optionalPart PendingTariff.encode
    simp only [oneByte_eq]
    cases effective <;> rfl
  rw [← body]
  unfold serveSetTariff
  rw [readTariff_val h]
  rfl

/-! ## The tariff step -/

theorem State.tariffStep_following (following : s.trackers[u].state = .following) : s.tariffStep u =
    s.modFormerTracker u fun f => { f with tariff := s.former.trackers[(0 : TrackerId)].tariff } := if_pos following

/-- The tariff step of a running tracker, by its pending record. -/
theorem State.tariffStep_running (running : s.trackers[u].state.isRunning = true) : s.tariffStep u =
    match s.former.pendingTariff with
    | none => s
    | some p =>
      if (!p.applied[u] && p.isOpen s.former.second) = true then
        ((s.modFormerTracker u fun f => { f with tariff := p.tariff }).setFormer
          { (s.modFormerTracker u fun f => { f with tariff := p.tariff }).former with
            pendingTariff := some { p with applied := upd p.applied u true } }).removeTariff
      else s := if_neg ((TrackerState.isRunning_iff _).mp running).2

theorem PendingTariff.isOpen_of (opened : p.effective = none ∨
    ∃ e n, p.effective = some e ∧ s.former.second = some n ∧ e.toNat ≤ n.toNat) : p.isOpen s.former.second = true := by
  unfold PendingTariff.isOpen
  obtain none | ⟨e, n, effective, second, due⟩ := opened
  · rw [none]
  · rw [effective, second]
    exact decide_eq_true due

theorem PendingTariff.isOpen_early {e : BitVec 32} (effective : p.effective = some e)
    (early : ∀ n, s.former.second = some n → n.toNat < e.toNat) : p.isOpen s.former.second = false := by
  unfold PendingTariff.isOpen
  rw [effective]
  split
  · next h => exact absurd h nofun
  · next e' n h second =>
    obtain rfl := Option.some.inj h
    exact decide_eq_false (Nat.not_le.mpr (early n second))
  · rfl

theorem TrackerId.all_eq (f : TrackerId → Bool) : ∀ u, ([0, 1] : List TrackerId).all f = (f u && f (1 - u)) :=
  Fin.forall_fin_two.mpr ⟨by simp, by simp [Bool.and_comm]⟩

/-- Both trackers have applied a record: the one at hand and the other. -/
theorem State.tariffApplied_upd (s : State) (p : PendingTariff) (u : TrackerId) :
    s.tariffApplied { p with applied := upd p.applied u true } = true ↔
      s.tables.settings[1 - u].enabled = false ∨ s.trackers[1 - u].state = .following ∨ p.applied[1 - u] = true := by
  have own : (upd p.applied u true)[u] = true := (getElem_upd _ _ _ _).trans (if_pos rfl)
  have other : (upd p.applied u true)[1 - u] = p.applied[1 - u] :=
    (getElem_upd _ _ _ _).trans (if_neg (TrackerId.ne_other u))
  unfold State.tariffApplied
  rw [TrackerId.all_eq _ u]
  dsimp only
  rw [own, other]
  simp [or_assoc]

/-- The former after an open record is applied by tracker u. -/
theorem State.tariffStep_applies (running : s.trackers[u].state.isRunning = true)
    (pending : s.former.pendingTariff = some p) (fresh : p.applied[u] = false)
    (opened : p.isOpen s.former.second = true) : s.tariffStep u = s.setFormer { s.former with
      trackers := modAt s.former.trackers u fun f => { f with tariff := p.tariff }
      pendingTariff := if s.tariffApplied { p with applied := upd p.applied u true } then none
        else some { p with applied := upd p.applied u true } } := by
  rw [State.tariffStep_running running, pending]
  dsimp only
  rw [if_pos (by rw [fresh, opened]; rfl)]
  change (if s.tariffApplied { p with applied := upd p.applied u true } then _ else _) = _
  split <;> rfl

/-- Settles O42: the record stored, and the tariff step by what is pending. -/
theorem tariffRequestAndStep : Obligations.TariffRequestAndStep := by
  refine ⟨fun s r x serving own => ?_, fun s u => ⟨fun following => ?_, fun p running pending fresh opened => ?_,
    fun running none => ?_, fun p e running pending effective early => ?_⟩⟩
  · intro effective
    exact ⟨_, next_congr ((State.serve_of_serving s serving).trans (serveSetTariff_stores own)),
      ((s.setFormer_frame _).answer r _ _).wider, (State.answer_frame _ r _ _).get .former,
      (s.setFormer_frame _).wider.answered r _ _⟩
  · exact State.tariffStep_following following
  · rw [State.tariffStep_applies running pending fresh (PendingTariff.isOpen_of opened)]
    refine ⟨getElem_modAt_same _ _ _, getElem_modAt_other (TrackerId.ne_other u).symm, rfl, s.setFormer_frame _,
      fun enabled state waits => if_neg fun applied => ?_, fun done => if_pos ((s.tariffApplied_upd p u).mpr done)⟩
    obtain h | h | h := (s.tariffApplied_upd p u).mp applied
    · exact absurd (enabled.symm.trans h) nofun
    · exact state h
    · exact absurd (waits.symm.trans h) nofun
  · rw [State.tariffStep_running running]
    obtain none | ⟨p, pending, applied⟩ := none
    · rw [none]
    · rw [pending]
      exact if_neg (by rw [applied]; exact nofun)
  · rw [State.tariffStep_running running, pending]
    exact if_neg (by rw [PendingTariff.isOpen_early effective early, Bool.and_false]; exact nofun)

end Sys2Proof.Machine
end


section
/-! SUPPORT. The requests on the registers (R138 to R140). -/

namespace Sys2Proof.Machine

set_option Elab.async false

open Sys2Proof

variable {s : State} {r : Request} {tap : TapId}

theorem Vector.toList_eq_map {α : Type} {n : Nat} (v : Vector α n) : v.toList = (List.finRange n).map fun i => v[i] := by
  refine List.ext_getElem (by simp) fun i h1 h2 => ?_
  simp

/-- A request that changes one tap's account and answers. -/
theorem State.modAccount_answers (s : State) (tap : TapId) (f : TapAccount → TapAccount) (r : Request) (x : Result)
    (b : Bytes) : SameOutside [.accounts, .ports, .management] s ((s.modAccount tap f).answer r x b) ∧
    Answered s ((s.modAccount tap f).answer r x b) r x b ∧
    ((s.modAccount tap f).answer r x b).accounts[tap] = f s.accounts[tap] ∧
    ∀ other : TapId, other ≠ tap → ((s.modAccount tap f).answer r x b).accounts[other] = s.accounts[other] := by
  have frame : SameOutside [.accounts] s (s.modAccount tap f) := s.setAccounts_frame _
  have accounts := (State.answer_frame (s.modAccount tap f) r x b).get .accounts
  refine ⟨(frame.answer r x b).wider, frame.wider.answered r x b, ?_, fun other differs => ?_⟩
  · rw [accounts]
    exact getElem_modAt_same _ _ _
  · rw [accounts]
    exact getElem_modAt_other differs

theorem readConstant_val {b : Bytes} (own : byteAt b 0 = tap.val) (low : 1 ≤ beNat b 1 8) (high : beNat b 1 8 < 2 ^ 56) :
    readConstant b = some (tap, beNat b 1 8) := by
  unfold readConstant
  rw [own, readTapId_val]
  exact if_pos ⟨low, Nat.le_pred_of_lt high⟩

theorem Register.convert_eq (g : Register) (k : Nat) : g.convert k =
    (⟨(g.count + g.residue / k) % 10 ^ 12, g.residue % k,
      min 15 (g.rollover + (g.count + g.residue / k) / 10 ^ 12)⟩, g.residue / k) := by
  unfold Register.convert Register.addCount
  dsimp only
  rw [sub_div_mul]
  rfl

theorem Register.restore_eq (g : Register) (count rollover : Nat) : g.restore count rollover =
    ⟨(g.count + count) % 10 ^ 12, g.residue, min 15 (g.rollover + rollover + (g.count + count) / 10 ^ 12)⟩ := by
  unfold Register.restore satAdd
  rw [← Nat.add_assoc]
  rfl

/-- A packed-decimal count of 6 bytes whose digits are decimal (R174). -/
theorem readPackedDecimal_six {b : Bytes} {i : Nat}
    (digits : ∀ d, d < 6 → byteAt b (i + d) / 16 ≤ 9 ∧ byteAt b (i + d) % 16 ≤ 9) :
    readPackedDecimal b i 6 = some (∑ d : Fin 6, (byteAt b (i + d.val) / 16 * 10 + byteAt b (i + d.val) % 16) *
      100 ^ (5 - d.val)) := by
  have step {w n : Nat} (low : w < 6) (before : readPackedDecimal b i w = some n) : readPackedDecimal b i (w + 1) =
      some (n * 100 + byteAt b (i + w) / 16 * 10 + byteAt b (i + w) % 16) := by
    rw [readPackedDecimal, before]
    exact if_pos (digits w low)
  have all := step (by decide) (step (by decide) (step (by decide) (step (by decide) (step (by decide)
    (step (w := 0) (by decide) rfl)))))
  rw [all, Fin.sum_univ_six]
  refine congrArg some ?_
  simp only [Fin.isValue, Fin.coe_ofNat_eq_mod, Nat.reduceMod, Nat.reduceSub, Nat.reduceAdd]
  ring

theorem TapAccount.setConstant_register (t : TapAccount) (k : Nat) (i : Fin 48) : (t.setConstant k).registers[i] =
    ⟨(t.registers[i].count + t.registers[i].residue / k) % 10 ^ 12, t.registers[i].residue % k,
      min 15 (t.registers[i].rollover + (t.registers[i].count + t.registers[i].residue / k) / 10 ^ 12)⟩ := by
  unfold TapAccount.setConstant
  rw [getElem_mapVec, Register.convert_eq]

/-! ## RESTORE -/

/-- The count and the rollover count that a RESTORE carries for register j. -/
def savedRegister (b : Bytes) (j : Nat) : Nat × Nat :=
  (∑ d : Fin 6, (byteAt b (1 + 6 * j + d.val) / 16 * 10 + byteAt b (1 + 6 * j + d.val) % 16) * 100 ^ (5 - d.val),
    byteAt b (289 + j))

theorem readRestore_inRange {b : Bytes} (own : byteAt b 0 = tap.val) (inRange : bodyInRange b .restore = true) :
    readRestore b = some (tap, (List.range 48).map (savedRegister b)) := by
  obtain ⟨-, digits, rollovers⟩ := of_decide_eq_true inRange
  unfold readRestore
  rw [own, readTapId_val, readEntries_eq_some (f := savedRegister b)]
  intro j low
  rw [readPackedDecimal_six fun d few => by
    rw [Nat.add_assoc]
    exact digits ⟨6 * j + d, by omega⟩]
  exact if_pos (rollovers ⟨j, low⟩)

theorem TapAccount.restoreFrom_register (t : TapAccount) (b : Bytes) (i : Fin 48) :
    (t.restoreFrom ((List.range 48).map (savedRegister b))).registers[i] =
      ⟨(t.registers[i].count + (savedRegister b i.val).1) % 10 ^ 12, t.registers[i].residue,
        min 15 (t.registers[i].rollover + (savedRegister b i.val).2 +
          (t.registers[i].count + (savedRegister b i.val).1) / 10 ^ 12)⟩ := by
  have saved : ((List.range 48).map (savedRegister b)).getD i.val (0, 0) = savedRegister b i.val := by
    rw [List.getD_eq_getElem _ _ (by rw [List.length_map, List.length_range]; exact i.isLt), List.getElem_map,
      List.getElem_range]
  unfold TapAccount.restoreFrom
  rw [getElem_ofFn_fin, saved, Register.restore_eq]

theorem serveRestore_closed {l : List (Nat × Nat)} (reads : readRestore r.body = some (tap, l))
    (closed : s.accounts[tap].restore = .closed) : serveRestore s r = s.refuse r .wrongState := by
  unfold serveRestore
  rw [reads]
  dsimp only
  rw [closed]

theorem serveRestore_opened {l : List (Nat × Nat)} (reads : readRestore r.body = some (tap, l))
    (opened : s.accounts[tap].restore = .opened) :
    serveRestore s r = (s.modAccount tap fun t => t.restoreFrom l).answer r .done [] := by
  unfold serveRestore
  rw [reads]
  dsimp only
  rw [opened]

/-! ## CLEAR -/

theorem serveClear_val (own : byteAt r.body 0 = tap.val) : serveClear s r =
    if s.tables.taps[tap].entry.accounting = true then s.refuse r .wrongState
    else (s.modAccount tap TapAccount.clearRegisters).answer r .done [] := by
  unfold serveClear
  rw [own, readTapId_val]
  rfl

/-- Settles O52: the registers converted, restored or cleared. -/
theorem registerRequests : Obligations.RegisterRequests := by
  refine ⟨fun s r tap serving own low high => ?_, fun s r tap serving own inRange => ?_,
    fun s r tap serving own => ⟨_, next_congr ((State.serve_of_serving s serving).trans (serveClear_val own)),
      fun on => ?_, fun off => ?_⟩⟩
  · intro k
    let body := [BitVec.ofNat 8 tap.val] ++ toBE 8 k ++
      (List.finRange 48).flatMap fun i => toBE 8 (s.accounts[tap].registers[i].residue / k)
    have serves : serveSetConstant s r = (s.modAccount tap fun t => t.setConstant k).answer r .done body := by
      have quotients : ((s.accounts[tap].conversionQuotients k).flatMap fun q => toBE 8 q) =
          (List.finRange 48).flatMap fun i => toBE 8 (s.accounts[tap].registers[i].residue / k) := by
        unfold TapAccount.conversionQuotients
        rw [Vector.toList_eq_map, List.map_map, List.flatMap_map]
        rfl
      unfold serveSetConstant
      rw [readConstant_val own low high]
      dsimp only
      rw [quotients, oneByte_eq]
    obtain ⟨frame, answered, account, others⟩ := s.modAccount_answers tap (fun t => t.setConstant k) r .done body
    refine ⟨_, next_congr ((State.serve_of_serving s serving).trans serves), frame, answered, ?_, fun i => ?_, others⟩
    · rw [account]
      rfl
    · rw [account]
      exact TapAccount.setConstant_register _ _ _
  · intro count
    have reads := readRestore_inRange own inRange
    have next {t : State} (serves : serveRestore s r = t) : exec .restore s = .next t :=
      next_congr ((State.serve_of_serving s serving).trans serves)
    cases restore : s.accounts[tap].restore with
    | closed => exact ⟨_, next (serveRestore_closed reads restore), fun _ => s.refuse_answered r _, nofun⟩
    | opened =>
      obtain ⟨frame, answered, account, others⟩ := s.modAccount_answers tap (fun t => t.restoreFrom
        ((List.range 48).map (savedRegister r.body))) r .done []
      refine ⟨_, next (serveRestore_opened reads restore), nofun, fun _ => ⟨answered, frame, ?_, fun i => ?_, others⟩⟩
      · rw [account]
        rfl
      · rw [account]
        exact TapAccount.restoreFrom_register _ _ _
  · rw [if_pos on]
    exact s.refuse_answered r _
  · rw [if_neg (by rw [off]; exact nofun)]
    obtain ⟨frame, answered, account, others⟩ := s.modAccount_answers tap TapAccount.clearRegisters r .done []
    exact ⟨answered, frame, account, others⟩

end Sys2Proof.Machine
end


section
/-! SUPPORT. The recognition of stream frames (R4). -/

namespace Sys2Proof.Machine

set_option Elab.async false

open Sys2Proof

theorem readFrameKind_eq_some_iff (n : Nat) (k : FrameKind) : readFrameKind n = some k ↔ k.code = n := by
  constructor
  · intro reads
    unfold readFrameKind at reads
    split at reads
    case h_8 => exact absurd reads nofun
    all_goals
      obtain rfl := Option.some.inj reads
      rfl
  · rintro rfl
    cases k <;> rfl

theorem readFrameKind_isSome_iff (n : Nat) : (readFrameKind n).isSome = true ↔ 1 ≤ n ∧ n ≤ 7 := by
  constructor
  · intro some
    obtain ⟨k, reads⟩ := Option.isSome_iff_exists.mp some
    obtain rfl := (readFrameKind_eq_some_iff n k).mp reads
    cases k <;> decide
  · rintro ⟨low, high⟩
    interval_cases n <;> rfl

theorem beNat_two (b : Bytes) (i : Nat) : beNat b i 2 = byteAt b i * 256 + byteAt b (i + 1) := by
  rw [beNat_succ, beNat_one]

theorem recognise_eq_some_iff (b : Bytes) (x : StreamFrame) : recognise b = some x ↔
    beNat b 12 2 = 0x9A4E ∧ x.kind.code = byteAt b 14 ∧ beNat b 16 2 ≤ b.length - 22 ∧ x.stated = beNat b 16 2 ∧
      x.carried = carriedBytes b := by
  obtain ⟨kind, stated, carried⟩ := x
  unfold recognise
  by_cases type : beNat b 12 2 = 0x9A4E
  · rw [if_pos (show beNat b 12 2 = Config.streamType from type)]
    split
    · next none =>
      refine ⟨nofun, fun h => ?_⟩
      have reads := (readFrameKind_eq_some_iff (byteAt b 14) kind).mpr h.2.1
      exact absurd (none.symm.trans reads) nofun
    · next k reads =>
      have code := (readFrameKind_eq_some_iff _ _).mp reads
      by_cases fits : beNat b 16 2 ≤ b.length - 22
      · rw [if_pos fits]
        constructor
        · intro same
          obtain ⟨rfl, rfl, rfl⟩ := StreamFrame.mk.inj (Option.some.inj same)
          exact ⟨type, code, fits, rfl, rfl⟩
        · rintro ⟨-, kind', -, stated', carried'⟩
          have own := (readFrameKind_eq_some_iff (byteAt b 14) kind).mpr kind'
          obtain rfl := Option.some.inj (reads.symm.trans own)
          obtain rfl : stated = beNat b 16 2 := stated'
          obtain rfl : carried = carriedBytes b := carried'
          rfl
      · rw [if_neg fits]
        exact ⟨nofun, fun h => absurd h.2.2.1 fits⟩
  · rw [if_neg (show ¬beNat b 12 2 = Config.streamType from type)]
    exact ⟨nofun, fun h => absurd h.1 type⟩

theorem recognise_isSome_iff (b : Bytes) : (recognise b).isSome = true ↔
    beNat b 12 2 = 0x9A4E ∧ (1 ≤ byteAt b 14 ∧ byteAt b 14 ≤ 7) ∧ beNat b 16 2 ≤ b.length - 22 := by
  rw [← readFrameKind_isSome_iff, Option.isSome_iff_exists]
  constructor
  · rintro ⟨x, recognised⟩
    obtain ⟨type, kind, fits, -⟩ := (recognise_eq_some_iff b x).mp recognised
    exact ⟨type, by rw [(readFrameKind_eq_some_iff _ _).mpr kind]; rfl, fits⟩
  · rintro ⟨type, some, fits⟩
    obtain ⟨k, reads⟩ := Option.isSome_iff_exists.mp some
    exact ⟨⟨k, beNat b 16 2, carriedBytes b⟩, (recognise_eq_some_iff b _).mpr
      ⟨type, (readFrameKind_eq_some_iff _ _).mp reads, fits, rfl, rfl⟩⟩

theorem byteAt_eq_iff (b : Bytes) (i : Nat) (x : Byte) : b.getD i 0 = x ↔ byteAt b i = x.toNat :=
  BitVec.toNat_inj.symm

theorem recognised_arith {x y k m n : Nat} (second : y < 256) (long : 64 ≤ n) :
    (x * 256 + y = 0x9A4E ∧ (1 ≤ k ∧ k ≤ 7) ∧ m ≤ n - 22) ↔ x = 0x9A ∧ y = 0x4E ∧ 1 ≤ k ∧ k ≤ 7 ∧ m + 22 ≤ n := by
  omega

/-- Settles O18: the type value, the kind and the stated length decide, each read from its bytes. -/
theorem recognitionTests : Obligations.RecognitionTests := by
  refine ⟨fun b long => ?_, fun b x recognised => ?_, rfl, fun y => ⟨rfl, rfl, rfl, rfl, fun _ => rfl⟩,
    ⟨rfl, rfl, fun n large => ?_⟩, fun b c length rest => ?_⟩
  · rw [recognise_isSome_iff, byteAt_eq_iff, byteAt_eq_iff, beNat_two, beNat_two]
    have second := byteAt_lt b 13
    exact recognised_arith second long
  · obtain ⟨-, kind, -, stated, carried⟩ := (recognise_eq_some_iff b x).mp recognised
    exact ⟨kind, stated.trans (beNat_two b 16), carried⟩
  · match n, large with
    | n + 2, _ => rfl
  · have byte (i : Nat) : byteAt b (12 + i) = byteAt c (12 + i) := by
      rw [← byteAt_drop, ← byteAt_drop, rest]
    have field (i w : Nat) : beNat b (12 + i) w = beNat c (12 + i) w := by
      rw [← beNat_drop, ← beNat_drop, rest]
    have carried : carriedBytes b = carriedBytes c := by
      unfold carriedBytes
      rw [length, show 18 = 12 + 6 from rfl, ← List.drop_drop, ← List.drop_drop, rest]
    unfold recognise
    rw [field 0 2, byte 2, field 4 2, carried, length]

end Sys2Proof.Machine
end


section
/-! SUPPORT. The layouts of tap entries and station settings, packed decimals and signed fields (R173 to R177). -/

namespace Sys2Proof.Machine

set_option Elab.async false

open Sys2Proof

/-! ## Fields of a layout -/

theorem byteAt_append (a b : Bytes) (i : Nat) :
    byteAt (a ++ b) i = if i < a.length then byteAt a i else byteAt b (i - a.length) := by
  split
  · next inside => exact byteAt_append_left inside
  · next after => exact byteAt_append_right (Nat.not_lt.mp after)

theorem beNat_append_after {a b : Bytes} {i w : Nat} (h : ¬i < a.length) :
    beNat (a ++ b) i w = beNat b (i - a.length) w := beNat_append_right (Nat.not_lt.mp h)

theorem beNat_toBE_append (w n : Nat) (b : Bytes) : beNat (toBE w n ++ b) 0 w = n % 256 ^ w := by
  rw [beNat_append_left (by rw [length_toBE, Nat.zero_add]), beNat_toBE]

theorem byteAt_cons_succ (x : Byte) (b : Bytes) (i : Nat) : byteAt (x :: b) (i + 1) = byteAt b i := rfl

theorem byteAt_cons_zero (x : Byte) (b : Bytes) : byteAt (x :: b) 0 = x.toNat := rfl

theorem beNat_cons_succ (x : Byte) (b : Bytes) (i w : Nat) : beNat (x :: b) (i + 1) w = beNat b i w :=
  beNat_congr fun k _ => by rw [Nat.add_right_comm, byteAt_cons_succ]

theorem byteAt_boolByte (x : Bool) : byteAt (boolByte x) 0 = if x then 1 else 0 := by cases x <;> rfl

theorem length_channelBytes (c : Vector Channel 6) : (c.toList.map fun c => BitVec.ofNat 8 c.val).length = 6 := by simp

theorem byteAt_channelBytes (v : Vector Channel 6) (i : Fin 6) :
    byteAt (v.toList.map fun c => BitVec.ofNat 8 c.val) i.val = v[i].val := by
  rw [byteAt_eq_getElem (by rw [length_channelBytes]; exact i.isLt), List.getElem_map, BitVec.toNat_ofNat]
  have small := v[i].isLt
  exact Nat.mod_eq_of_lt (Nat.lt_trans small (by decide))

/-- The bytes of a tap entry (R176). -/
theorem TapEntry.encode_fields (e : TapEntry) :
    e.encode.length = 30 ∧ byteAt e.encode 0 = (if e.enabled then 1 else 0) ∧ byteAt e.encode 1 = e.tracker.val ∧
    (∀ i : Fin 6, byteAt e.encode (2 + i.val) = e.channels[i].val) ∧ byteAt e.encode 8 = e.cls.val ∧
    byteAt e.encode 9 = e.hMax % 256 ∧ byteAt e.encode 10 = (if e.accounting then 1 else 0) ∧ byteAt e.encode 11 = 0 ∧
    (∀ i : Fin 4, beNat e.encode (12 + 4 * i.val) 4 = e.limits[i].toNat) ∧ beNat e.encode 28 2 = e.thdLimit.toNat := by
  have tracker : e.tracker.val % 256 = e.tracker.val := Nat.mod_eq_of_lt (Nat.lt_trans e.tracker.isLt (by decide))
  have cls : e.cls.val % 256 = e.cls.val := Nat.mod_eq_of_lt (Nat.lt_trans e.cls.isLt (by decide))
  have long (x : BitVec 32) (b : Bytes) : beNat (toBE 4 x.toNat ++ b) 0 4 = x.toNat :=
    (beNat_toBE_append _ _ b).trans (Nat.mod_eq_of_lt x.isLt)
  have short (x : BitVec 16) : beNat (toBE 2 x.toNat) 0 2 = x.toNat := (beNat_toBE _ _).trans (Nat.mod_eq_of_lt x.isLt)
  unfold TapEntry.encode
  refine ⟨?_, ?_, ?_, fun i => ?_, ?_, ?_, ?_, ?_, fun i => ?_, ?_⟩
  · simp only [List.length_append, length_boolByte, length_oneByte, length_channelBytes, length_toBE]
  · simp [byteAt_append, byteAt_boolByte]
  · simp [byteAt_append, byteAt_oneByte, tracker]
  · have own := i.isLt
    rw [← byteAt_channelBytes]
    simp only [byteAt_append, List.length_append, length_boolByte, length_oneByte, length_channelBytes, length_toBE]
    rw [if_pos (by omega), if_pos (by omega), if_pos (by omega), if_pos (by omega), if_pos (by omega), if_pos (by omega),
      if_pos (by omega), if_pos (by omega), if_pos (by omega), if_neg (by omega)]
    exact congrArg _ (by omega)
  · simp [byteAt_append, byteAt_oneByte, cls]
  · simp [byteAt_append, byteAt_oneByte]
  · simp [byteAt_append, byteAt_boolByte]
  · simp [byteAt_append, byteAt_oneByte]
  · match i with
    | 0 | 1 | 2 | 3 => simp [beNat_append_after, long]
  · simp [beNat_append_after, short]

/-! ## Tap entries read back -/

theorem readSixChannels_of {b : Bytes} {i : Nat} {v : Vector Channel 6}
    (bytes : ∀ c : Fin 6, byteAt b (i + c.val) = v[c].val) (nodup : v.toList.Nodup) : readSixChannels b i = some v := by
  have all : v = #v[v[(0 : Fin 6)], v[(1 : Fin 6)], v[(2 : Fin 6)], v[(3 : Fin 6)], v[(4 : Fin 6)], v[(5 : Fin 6)]] := by
    ext c h
    interval_cases c <;> rfl
  have entries : v.toList =
      [v[(0 : Fin 6)], v[(1 : Fin 6)], v[(2 : Fin 6)], v[(3 : Fin 6)], v[(4 : Fin 6)], v[(5 : Fin 6)]] := congrArg _ all
  have each (c : Fin 6) : readChannel (byteAt b (i + c.val)) = some v[c] := by rw [bytes c, readChannel_val]
  unfold readSixChannels
  rw [show readChannel (byteAt b i) = _ from each 0, show readChannel (byteAt b (i + 1)) = _ from each 1,
    show readChannel (byteAt b (i + 2)) = _ from each 2, show readChannel (byteAt b (i + 3)) = _ from each 3,
    show readChannel (byteAt b (i + 4)) = _ from each 4, show readChannel (byteAt b (i + 5)) = _ from each 5]
  dsimp only
  rw [if_pos (entries ▸ nodup), ← all]

theorem readTapEntry_encode (x : Byte) {e : TapEntry} (nodup : e.channels.toList.Nodup) (low : 1 ≤ e.hMax)
    (high : e.hMax ≤ 50) : readTapEntry (x :: e.encode) 1 = some e := by
  obtain ⟨-, enabled, tracker, channels, cls, hMax, accounting, -, limits, thd⟩ := e.encode_fields
  have byte (i : Nat) : byteAt (x :: e.encode) (1 + i) = byteAt e.encode i := by
    rw [Nat.add_comm, byteAt_cons_succ]
  have field (i w : Nat) : beNat (x :: e.encode) (1 + i) w = beNat e.encode i w := by
    rw [Nat.add_comm, beNat_cons_succ]
  have top : byteAt e.encode 9 = e.hMax := hMax.trans (Nat.mod_eq_of_lt (Nat.lt_of_le_of_lt high (by decide)))
  unfold readTapEntry
  rw [show byteAt (x :: e.encode) 1 = _ from byte 0, byte 1, byte 10, field 28 2, enabled, tracker, accounting, thd,
    readBool_bit, readBool_bit, readTrackerId_val,
    readSixChannels_of (v := e.channels) (fun c => by rw [Nat.add_assoc 1 2, byte, channels c]) nodup]
  simp only [byte 8, byte 9, cls, top]
  rw [dif_pos ⟨Nat.le_of_lt_succ e.cls.isLt, low, high⟩]
  have limit (g : Fin 4) : BitVec.ofNat 32 (beNat (x :: e.encode) (1 + 12 + 4 * g.val) 4) = e.limits[g] := by
    rw [Nat.add_assoc 1 12, field, limits g, BitVec.ofNat_toNat, BitVec.setWidth_eq]
  have all : (Vector.ofFn fun g : Fin 4 => BitVec.ofNat 32 (beNat (x :: e.encode) (1 + 12 + 4 * g.val) 4)) = e.limits := by
    ext1 g h
    exact (getElem_ofFn_fin _ ⟨g, h⟩).trans (limit ⟨g, h⟩)
  rw [all, BitVec.ofNat_toNat, BitVec.setWidth_eq]

theorem readTapWrite_encode (tap : TapId) {e : TapEntry} (nodup : e.channels.toList.Nodup) (low : 1 ≤ e.hMax)
    (high : e.hMax ≤ 50) : readTapWrite (BitVec.ofNat 8 tap.val :: e.encode) = some (tap, e) := by
  have own : byteAt (BitVec.ofNat 8 tap.val :: e.encode) 0 = tap.val := by
    rw [byteAt_cons_zero, BitVec.toNat_ofNat]
    exact Nat.mod_eq_of_lt (Nat.lt_trans tap.isLt (by decide))
  unfold readTapWrite
  rw [own, readTapId_val, readTapEntry_encode _ nodup low high]

/-! ## Station settings read back -/

theorem readStation_encode {x : StationSettings} (low : 1 ≤ x.silenceMs) (high : x.silenceMs ≤ 255) :
    x.encode.length = 9 ∧ readStation x.encode = some x := by
  have silence : byteAt x.encode 8 = x.silenceMs := by
    have small : x.silenceMs % 256 = x.silenceMs := Nat.mod_eq_of_lt (Nat.lt_succ_of_le high)
    simp [StationSettings.encode, byteAt_append, byteAt_oneByte, small]
  have forwarding : byteAt x.encode 6 = if x.forwarding then 1 else 0 := by
    simp [StationSettings.encode, byteAt_append, byteAt_boolByte]
  have notices : byteAt x.encode 7 = if x.notices then 1 else 0 := by
    simp [StationSettings.encode, byteAt_append, byteAt_boolByte]
  have address : beNat x.encode 0 6 = x.destination.toNat := by
    unfold StationSettings.encode
    rw [List.append_assoc, List.append_assoc, beNat_toBE_append]
    exact Nat.mod_eq_of_lt x.destination.isLt
  refine ⟨by simp [StationSettings.encode], ?_⟩
  unfold readStation
  rw [forwarding, notices, silence, address, readBool_bit, readBool_bit]
  dsimp only
  rw [if_neg (Nat.one_le_iff_ne_zero.mp low), BitVec.ofNat_toNat, BitVec.setWidth_eq]

/-! ## Packed decimals -/

theorem packedPair_toNat (n : Nat) : (packedPair n).toNat = n / 10 % 10 * 16 + n % 10 := by
  unfold packedPair
  rw [BitVec.toNat_ofNat]
  omega

theorem byteAt_packedDecimal (n : Nat) (i : Fin 6) :
    byteAt (packedDecimal n) i.val = n / 100 ^ (5 - i.val) / 10 % 10 * 16 + n / 100 ^ (5 - i.val) % 10 := by
  match i with
  | 0 => exact packedPair_toNat _
  | 1 => exact packedPair_toNat _
  | 2 => exact packedPair_toNat _
  | 3 => exact packedPair_toNat _
  | 4 => exact packedPair_toNat _
  | 5 => exact (packedPair_toNat _).trans (by simp)

/-- A number of twelve decimal digits is its six pairs. -/
theorem sum_pairs {n : Nat} (h : n ≤ 999999999999) : (∑ d : Fin 6, (n / 100 ^ (5 - d.val) % 100) * 100 ^ (5 - d.val)) = n := by
  have next (k : Nat) : n / 100 ^ (k + 1) = n / 100 ^ k / 100 := by rw [Nat.pow_succ, Nat.div_div_eq_div_mul]
  rw [Fin.sum_univ_six]
  simp only [Fin.isValue, Fin.coe_ofNat_eq_mod, Nat.reduceMod, Nat.reduceSub, Nat.sub_self, Nat.sub_zero]
  rw [next 4, next 3, next 2, next 1, next 0, Nat.pow_zero, Nat.div_one]
  omega

theorem readPackedDecimal_packed {n : Nat} (h : n ≤ 999999999999) : readPackedDecimal (packedDecimal n) 0 6 = some n := by
  have pair (d : Nat) (low : d < 6) := byteAt_packedDecimal n ⟨d, low⟩
  rw [readPackedDecimal_six fun d low => by
    rw [Nat.zero_add, pair d low]
    omega]
  refine congrArg some ((Finset.sum_congr rfl fun d _ => ?_).trans (sum_pairs h))
  rw [Nat.zero_add, byteAt_packedDecimal]
  refine congrArg (· * _) ?_
  omega

/-! ## Signed fields -/

theorem beInt_eq (b : Bytes) (i w : Nat) :
    beInt b i w = if 2 * beNat b i w < 256 ^ w then (beNat b i w : Int) else beNat b i w - (256 ^ w : Nat) := by
  have power : 2 ^ (8 * w) = 256 ^ w := by rw [Nat.pow_mul]
  unfold beInt
  dsimp only
  rw [power]
  refine if_congr ?_ rfl rfl
  cases w with
  | zero => exact ⟨fun _ => Nat.one_pos, fun _ => Nat.one_pos⟩
  | succ w =>
    have half : 2 * 2 ^ (8 * (w + 1) - 1) = 256 ^ (w + 1) := by
      rw [← power, ← Nat.pow_succ', Nat.succ_eq_add_one, Nat.sub_add_cancel (by omega)]
    omega

theorem beInt_intToBE {w : Nat} {z : Int} (low : -(256 ^ w : Nat) ≤ 2 * z) (high : 2 * z < (256 ^ w : Nat)) :
    beInt (intToBE w z) 0 w = z := by
  have pos : 0 < 256 ^ w := Nat.pow_pos (by decide)
  unfold intToBE
  rw [beInt_eq, beNat_toBE]
  generalize 256 ^ w = m at *
  have range := Int.emod_nonneg z (b := m) (by omega)
  have below := Int.emod_lt_of_pos z (b := m) (by omega)
  rw [Nat.mod_eq_of_lt (by omega)]
  by_cases sign : 0 ≤ z
  · rw [Int.emod_eq_of_lt sign (by omega), if_pos (by omega)]
    omega
  · have wrapped : z % m = z + m := by
      rw [← Int.add_emod_right, Int.emod_eq_of_lt (by omega) (by omega)]
    rw [wrapped, if_neg (by omega)]
    omega

/-- Settles O44: where each field stands, and that it is read back. -/
theorem fieldsReadBack : Obligations.FieldsReadBack := by
  refine ⟨TapEntry.encode_fields, fun n i => ?_, fun b i w => ⟨rfl, rfl, beInt_eq b i w⟩,
    fun w z low high => ⟨length_toBE _ _, beInt_intToBE low high⟩,
    fun tap e nodup low high => ⟨by rw [List.length_cons, e.encode_fields.1], readTapWrite_encode tap nodup low high⟩,
    fun x => readStation_encode, fun n small => ⟨rfl, readPackedDecimal_packed small⟩,
    fun w n small => ⟨length_toBE w n, (beNat_toBE w n).trans (Nat.mod_eq_of_lt small)⟩⟩
  rw [byteAt_packedDecimal, Nat.div_div_eq_div_mul]
  match i with
  | 0 | 1 | 2 | 3 | 4 | 5 => rfl

end Sys2Proof.Machine
end


section
/-! SUPPORT. What the readers of request bodies refuse is what is out of range (R32, R34, R35, R38, R44 to R46, R82, R98,
R122, R138 to R141, R150, R167). -/

namespace Sys2Proof.Machine

set_option Elab.async false

open Sys2Proof

variable {s : State} {r : Request} {b : Bytes} {n : Nat}

/-! ## The fields that are read -/

theorem readTapId_le {x : TapId} (h : readTapId n = some x) : n ≤ 7 := by
  unfold readTapId at h
  split at h
  · next low => exact Nat.le_of_lt_succ low
  · exact absurd h nofun

theorem readTrackerId_le {x : TrackerId} (h : readTrackerId n = some x) : n = x.val ∧ n ≤ 1 := by
  unfold readTrackerId at h
  split at h
  · next low =>
    obtain rfl := Option.some.inj h
    exact ⟨rfl, Nat.le_of_lt_succ low⟩
  · exact absurd h nofun

theorem readChannel_le {x : Channel} (h : readChannel n = some x) : n = x.val ∧ n ≤ 47 := by
  unfold readChannel at h
  split at h
  · next low =>
    obtain rfl := Option.some.inj h
    exact ⟨rfl, Nat.le_of_lt_succ low⟩
  · exact absurd h nofun

theorem readBool_le {x : Bool} (h : readBool n = some x) : n ≤ 1 := by
  match n with
  | 0 | 1 => decide
  | _ + 2 => exact absurd h nofun

theorem readGroup_le {x : Group} (h : readGroup n = some x) : n ≤ 4 := by
  match n with
  | 0 | 1 | 2 | 3 | 4 => decide
  | _ + 5 => exact absurd h nofun

theorem readAlignMode_le {x : AlignMode} (h : readAlignMode n = some x) : n ≤ 2 := by
  match n with
  | 0 | 1 | 2 => decide
  | _ + 3 => exact absurd h nofun

theorem readAgreementMode_le {x : AgreementMode} (h : readAgreementMode n = some x) : n ≤ 1 := by
  match n with
  | 0 | 1 => decide
  | _ + 2 => exact absurd h nofun

theorem readTrackerMode_le {x : TrackerMode} (h : readTrackerMode n = some x) : n ≤ 1 ∧ (n = 1 → x = .follower) := by
  match n with
  | 0 => exact ⟨by decide, nofun⟩
  | 1 => exact ⟨by decide, fun _ => (Option.some.inj h).symm⟩
  | _ + 2 => exact absurd h nofun

/-- Entries are read when each is. -/
theorem readEntries_each {α : Type} {read : Nat → Option α} {l : List α} (h : readEntries read n = some l) :
    ∀ j, j < n → ∃ x, read j = some x := by
  induction n generalizing l with
  | zero => exact nofun
  | succ n ih =>
    rw [readEntries] at h
    split at h
    · next m x entries own =>
      intro j low
      obtain rfl | below := Nat.eq_or_lt_of_le (Nat.le_of_lt_succ low)
      · exact ⟨x, own⟩
      · exact ih entries j below
    · exact absurd h nofun

theorem readWindow_each {α : Type} {first size start count : Nat} {read : Nat → Option α} {w : Window α}
    (h : readWindow first size start count read = some w) :
    (first ≤ start ∧ start < first + size ∧ 1 ≤ count ∧ count ≤ size) ∧ ∀ j, j < count → ∃ x, read j = some x := by
  unfold readWindow at h
  split at h
  · next bounds =>
    split at h
    · exact absurd h nofun
    · next entries => exact ⟨bounds, readEntries_each entries⟩
  · exact absurd h nofun

theorem readPackedDecimal_digits {i w x : Nat} (h : readPackedDecimal b i w = some x) :
    ∀ d, d < w → byteAt b (i + d) / 16 ≤ 9 ∧ byteAt b (i + d) % 16 ≤ 9 := by
  induction w generalizing x with
  | zero => exact nofun
  | succ w ih =>
    rw [readPackedDecimal] at h
    split at h
    · exact absurd h nofun
    · next m before =>
      dsimp only at h
      split at h
      · next digits =>
        intro d low
        obtain rfl | below := Nat.eq_or_lt_of_le (Nat.le_of_lt_succ low)
        · exact digits
        · exact ih before d below
      · exact absurd h nofun

theorem readSixChannels_distinct {i : Nat} {v : Vector Channel 6} (h : readSixChannels b i = some v) :
    ∀ c : Fin 6, byteAt b (i + c.val) ≤ 47 ∧ ∀ d : Fin 6, d < c → byteAt b (i + c.val) ≠ byteAt b (i + d.val) := by
  unfold readSixChannels at h
  split at h
  · next v0 v1 v2 i0 i1 i2 e0 e1 e2 e3 e4 e5 =>
    split at h
    · next nodup =>
      have each (c : Fin 6) : byteAt b (i + c.val) = ([v0, v1, v2, i0, i1, i2][c.val]'c.isLt).val ∧
          byteAt b (i + c.val) ≤ 47 := by
        match c with
        | 0 => exact readChannel_le e0
        | 1 => exact readChannel_le e1
        | 2 => exact readChannel_le e2
        | 3 => exact readChannel_le e3
        | 4 => exact readChannel_le e4
        | 5 => exact readChannel_le e5
      refine fun c => ⟨(each c).2, fun d below same => ?_⟩
      have values := ((each c).1.symm.trans same).trans (each d).1
      have index := (List.Nodup.getElem_inj_iff nodup).mp (Fin.ext values)
      exact absurd below (by rw [Fin.ext index]; exact lt_irrefl _)
    · exact absurd h nofun
  · exact absurd h nofun

end Sys2Proof.Machine
end


section
/-! SUPPORT. Requests whose fields are out of range (R159 step 3). -/

namespace Sys2Proof.Machine

set_option Elab.async false

open Sys2Proof

variable {s : State} {r : Request} {b : Bytes} {n : Nat}

/-! ## A body that is read is in range -/

theorem readTapId_inRange {x : TapId} (h : readTapId (byteAt b 0) = some x) :
    bodyInRange b .readTap = true ∧ bodyInRange b .clear = true ∧ bodyInRange b .readRecord = true := by
  have low := decide_eq_true (readTapId_le h)
  exact ⟨low, low, low⟩

theorem readChannelWindow_inRange {w : Window ChannelEntry} (h : readChannelWindow b = some w) :
    bodyInRange b .writeChannels = true := by
  obtain ⟨⟨-, start, low, high⟩, entries⟩ := readWindow_each h
  refine decide_eq_true ⟨by omega, low, high, fun j below => ?_⟩
  obtain ⟨x, own⟩ := entries j below
  dsimp only at own
  split at own
  · next range => exact range
  · exact absurd own nofun

theorem readTapWrite_inRange {x : TapId × TapEntry} (h : readTapWrite b = some x) : bodyInRange b .writeTap = true := by
  unfold readTapWrite at h
  split at h
  · next tap e own entry =>
    unfold readTapEntry at entry
    split at entry
    · next enabled tracker channels accounting e1 e2 e3 e4 =>
      split at entry
      · next range =>
        obtain ⟨cls, low, high⟩ := range
        exact decide_eq_true ⟨readTapId_le own, readBool_le e1, (readTrackerId_le e2).2, readSixChannels_distinct e3, cls,
          low, high, readBool_le e4⟩
      · exact absurd entry nofun
    · exact absurd entry nofun
  · exact absurd h nofun

theorem readGroupWindow_inRange {w : Window GroupEntry} (h : readGroupWindow b = some w) :
    bodyInRange b .writeGroups = true := by
  obtain ⟨⟨low, start, some_, high⟩, entries⟩ := readWindow_each h
  refine decide_eq_true ⟨low, by omega, some_, high, fun j below => ?_⟩
  obtain ⟨x, own⟩ := entries j below
  split at own
  · exact absurd own nofun
  · next group => exact readGroup_le group

theorem readCorrectionWindow_inRange {w : CorrectionWindow} (h : readCorrectionWindow b = some w) :
    bodyInRange b .writeCorrection = true := by
  unfold readCorrectionWindow at h
  split at h
  · next cls =>
    split at h
    · exact absurd h nofun
    · next window =>
      obtain ⟨⟨low, start, some_, high⟩, -⟩ := readWindow_each window
      exact decide_eq_true ⟨cls.1, cls.2, low, by omega, some_, high⟩
  · exact absurd h nofun

theorem readTrackerWrite_inRange {x : TrackerId × TrackerSettings} (h : readTrackerWrite b = some x) :
    bodyInRange b .writeTracker = true := by
  unfold readTrackerWrite at h
  split at h
  · next u enabled reference mode align auto e1 e2 e3 e4 e5 e6 =>
    split at h
    · next range =>
      obtain ⟨low, high, align_, limit, dip, follower⟩ := range
      obtain ⟨own, first⟩ := readTrackerId_le e1
      obtain ⟨small, follows⟩ := readTrackerMode_le e4
      refine decide_eq_true ⟨first, readBool_le e2, (readChannel_le e3).2, small, low, high, readAlignMode_le e5,
        by omega, by omega, readBool_le e6, dip, fun both => follower ⟨follows both.2, ?_⟩⟩
      exact Fin.ext (own.symm.trans both.1)
    · exact absurd h nofun
  · exact absurd h nofun

theorem readTariff_inRange {x : Tariff × Option (BitVec 32)} (h : readTariff b = some x) :
    bodyInRange b .setTariff = true := by
  unfold readTariff at h
  split at h
  · next low => exact decide_eq_true (Nat.le_of_lt_succ low)
  · exact absurd h nofun

theorem readConstant_inRange {x : TapId × Nat} (h : readConstant b = some x) : bodyInRange b .setConstant = true := by
  unfold readConstant at h
  split at h
  · exact absurd h nofun
  · next tap own =>
    split at h
    · next range => exact decide_eq_true ⟨readTapId_le own, range.1, Nat.lt_of_le_pred (by decide) range.2⟩
    · exact absurd h nofun

theorem readSelector_inRange {x : TapId × List Tariff} (h : readSelector b = some x) :
    bodyInRange b .readRegisters = true := by
  unfold readSelector at h
  split at h
  · exact absurd h nofun
  · next tap own =>
    split at h
    · next low => exact decide_eq_true ⟨readTapId_le own, Nat.le_of_lt low⟩
    · split at h
      · next all => exact decide_eq_true ⟨readTapId_le own, Nat.le_of_eq all⟩
      · exact absurd h nofun

theorem readRestore_allInRange {x : TapId × List (Nat × Nat)} (h : readRestore b = some x) :
    bodyInRange b .restore = true := by
  unfold readRestore at h
  split at h
  · next tap saved own entries =>
    have each := readEntries_each entries
    refine decide_eq_true ⟨readTapId_le own, fun i => ?_, fun j => ?_⟩
    · have low := i.isLt
      obtain ⟨x, found⟩ := each (i.val / 6) (by omega)
      split at found
      · exact absurd found nofun
      · next digits =>
        have own := readPackedDecimal_digits digits (i.val % 6) (Nat.mod_lt _ (by decide))
        rwa [Nat.add_assoc, Nat.div_add_mod] at own
    · obtain ⟨x, found⟩ := each j.val j.isLt
      split at found
      · exact absurd found nofun
      · split at found
        · next rollover => exact rollover
        · exact absurd found nofun
  · exact absurd h nofun

theorem readSpectrumPart_inRange {x : TapId × Bool} (h : readSpectrumPart b = some x) :
    bodyInRange b .readSpectrum = true := by
  unfold readSpectrumPart at h
  split at h
  · next tap part own bit => exact decide_eq_true ⟨readTapId_le own, readBool_le bit⟩
  · exact absurd h nofun

theorem readAgreement_inRange {x : AgreementMode × BitVec 8 × ProfileCode} (h : readAgreement b = some x) :
    bodyInRange b .setAgreement = true := by
  unfold readAgreement at h
  split at h
  · exact absurd h nofun
  · next mode own =>
    split at h
    · next code =>
      split at h
      · next mask =>
        obtain ⟨some_, offered⟩ := mask
        have bit : byteAt b 1 / 2 ^ byteAt b 2 % 2 = 1 := by
          have test := Nat.testBit_eq_decide_div_mod_eq (x := byteAt b 1) (i := byteAt b 2)
          exact of_decide_eq_true (test.symm.trans offered)
        refine decide_eq_true ⟨readAgreementMode_le own, fun zero => some_ ?_, Nat.le_of_lt_succ code, bit⟩
        exact BitVec.eq_of_toNat_eq zero
      · exact absurd h nofun
    · exact absurd h nofun

theorem readStation_inRange {x : StationSettings} (h : readStation b = some x) : bodyInRange b .setStation = true := by
  unfold readStation at h
  split at h
  · next forwarding notices e1 e2 =>
    split at h
    · exact absurd h nofun
    · next silence => exact decide_eq_true ⟨readBool_le e1, readBool_le e2, Nat.one_le_iff_ne_zero.mpr silence⟩
  · exact absurd h nofun

/-! ## A body out of range is refused -/

theorem eq_none_of_inRange {α : Type} {o : Option α} {x : Bool} (out : x = false) (reads : ∀ a, o = some a → x = true) :
    o = none := Option.eq_none_iff_forall_ne_some.mpr fun a h => absurd ((reads a h).symm.trans out) nofun

theorem serveHandoverStart_refuses (out : bodyInRange r.body .handover = false) (start : byteAt r.body 1 ≠ 1) :
    serveHandoverStart s r = s.refuse r .outOfRange := by
  unfold serveHandoverStart
  rw [if_neg start]
  split
  · next action =>
    split
    · next u c own channel =>
      have range : bodyInRange r.body .handover = true := by
        simp [bodyInRange, (readTrackerId_le own).2, (readChannel_le channel).2, action]
      exact absurd (range.symm.trans out) nofun
    · rfl
  · rfl

theorem serveHandoverCancel_refuses (out : bodyInRange r.body .handover = false) (cancel : byteAt r.body 1 = 1) :
    serveHandoverCancel s r = s.refuse r .outOfRange := by
  unfold serveHandoverCancel
  rw [if_pos cancel, eq_none_of_inRange (o := readTrackerId (byteAt r.body 0)) out fun u own => by
    simp [bodyInRange, (readTrackerId_le own).2, cancel]]

/-- Settles O6: what no reader of a body reads is refused. -/
theorem outOfRangeRequestsRefused : Obligations.OutOfRangeRequestsRefused := by
  intro s k r serving out window
  obtain ⟨answered, frame⟩ := s.refuse_answered r .outOfRange
  have next {f : State → Request → State} (refuses : f s r = s.refuse r .outOfRange) :
      s.serve k f = s.refuse r .outOfRange := (State.serve_of_serving s serving).trans refuses
  suffices serves : exec (commandOf r.body k) s = .next (s.refuse r .outOfRange) from ⟨_, serves, answered, frame⟩
  cases k with
  | readStatus | reset => exact absurd out nofun
  | writeChannels =>
    refine next_congr (next ?_)
    unfold serveWriteChannels
    rw [eq_none_of_inRange out fun _ => readChannelWindow_inRange]
  | writeTap =>
    refine next_congr (next ?_)
    unfold serveWriteTap
    rw [eq_none_of_inRange out fun _ => readTapWrite_inRange]
  | readTap =>
    refine next_congr (next ?_)
    unfold serveReadTap
    rw [eq_none_of_inRange out fun _ h => (readTapId_inRange h).1]
  | writeGroups =>
    refine next_congr (next ?_)
    unfold serveWriteGroups
    rw [eq_none_of_inRange out fun _ => readGroupWindow_inRange]
  | writeCorrection =>
    refine next_congr (next ?_)
    unfold serveWriteCorrection
    rw [window rfl, eq_none_of_inRange out fun _ => readCorrectionWindow_inRange]
  | writeTracker =>
    refine next_congr (next ?_)
    unfold serveWriteTracker
    rw [eq_none_of_inRange out fun _ => readTrackerWrite_inRange]
  | handover =>
    unfold commandOf
    dsimp only
    split
    · next cancel => exact next_congr (next (serveHandoverCancel_refuses out cancel))
    · next start => exact next_congr (next (serveHandoverStart_refuses out start))
  | setTariff =>
    refine next_congr (next ?_)
    unfold serveSetTariff
    rw [eq_none_of_inRange out fun _ => readTariff_inRange]
  | setConstant =>
    refine next_congr (next ?_)
    unfold serveSetConstant
    rw [eq_none_of_inRange out fun _ => readConstant_inRange]
  | readRegisters =>
    refine next_congr (next ?_)
    unfold serveReadRegisters
    rw [eq_none_of_inRange out fun _ => readSelector_inRange]
  | restore =>
    refine next_congr (next ?_)
    unfold serveRestore
    rw [eq_none_of_inRange out fun _ => readRestore_allInRange]
  | clear =>
    refine next_congr (next ?_)
    unfold serveClear
    rw [eq_none_of_inRange out fun _ h => (readTapId_inRange h).2.1]
  | readRecord =>
    refine next_congr (next ?_)
    unfold serveReadRecord
    rw [eq_none_of_inRange out fun _ h => (readTapId_inRange h).2.2]
  | readSpectrum =>
    refine next_congr (next ?_)
    unfold serveReadSpectrum
    rw [eq_none_of_inRange out fun _ => readSpectrumPart_inRange]
  | setAgreement =>
    refine next_congr (next ?_)
    unfold serveSetAgreement
    rw [eq_none_of_inRange out fun _ => readAgreement_inRange]
  | setStation =>
    refine next_congr (next ?_)
    unfold serveSetStation
    rw [eq_none_of_inRange out fun _ => readStation_inRange]

end Sys2Proof.Machine
end


section
/-! SUPPORT. The layout of a block record and of the other frames that the part sends (R173, R176 to R179). -/

namespace Sys2Proof.Machine

set_option Elab.async false

open Sys2Proof

/-! ## Masks -/

theorem testBit_maskBits (l : List Bool) (i : Nat) : (maskBits l).testBit i = l.getD i false := by
  induction l generalizing i with
  | nil => exact Nat.zero_testBit i
  | cons x l ih =>
    cases i with
    | zero =>
      rw [maskBits, Nat.testBit_zero, List.getD_cons_zero]
      cases x <;> simp
    | succ i =>
      have half : ((if x then 1 else 0) + 2 * maskBits l) / 2 = maskBits l := by
        split <;> omega
      rw [maskBits, Nat.testBit_succ, half, ih, List.getD_cons_succ]

theorem maskBits_lt (l : List Bool) : maskBits l < 2 ^ l.length := by
  induction l with
  | nil => exact Nat.one_pos
  | cons x l ih =>
    rw [maskBits, List.length_cons, Nat.pow_succ]
    split <;> omega

/-- A mask written to two bytes and read. -/
theorem getLsbD_maskBits (l : List Bool) {i : Nat} (h : i < 16) :
    (BitVec.ofNat 16 (maskBits l % 256 ^ 2)).getLsbD i = l.getD i false := by
  have wide : BitVec.ofNat 16 (maskBits l % 256 ^ 2) = BitVec.ofNat 16 (maskBits l) :=
    BitVec.eq_of_toNat_eq (by rw [BitVec.toNat_ofNat, BitVec.toNat_ofNat]; exact Nat.mod_mod _ _)
  rw [wide, BitVec.getLsbD_ofNat, testBit_maskBits, decide_eq_true h, Bool.true_and]

/-! ## Lists of fields -/

theorem length_fields {w : Nat} (l : List Nat) : (l.flatMap fun x => toBE w x).length = w * l.length := by
  induction l with
  | nil => rfl
  | cons x l ih => rw [List.flatMap_cons, List.length_append, length_toBE, ih, List.length_cons, Nat.mul_succ, Nat.add_comm]

theorem beNat_fields {w : Nat} (l : List Nat) {i : Nat} (h : i < l.length) (rest : Bytes) :
    beNat ((l.flatMap fun x => toBE w x) ++ rest) (w * i) w = l[i] % 256 ^ w := by
  induction l generalizing i with
  | nil => exact absurd h (Nat.not_lt_zero _)
  | cons x l ih =>
    rw [List.flatMap_cons, List.append_assoc]
    cases i with
    | zero => exact beNat_toBE_append w x _
    | succ i =>
      rw [beNat_append_right (by rw [length_toBE, Nat.mul_succ]; omega), length_toBE, Nat.mul_succ, Nat.add_sub_cancel]
      exact ih (Nat.lt_of_succ_lt_succ h)

/-! ## The block record -/

/-- A block record's fields before its lists. -/
def BlockRecord.names (r : BlockRecord) : Bytes :=
  oneByte r.tap.val ++ oneByte r.tracker.val ++ oneByte r.tariff.val ++ oneByte r.profile.val ++
    toBE 4 r.block.toNat ++ toBE 2 r.generation.toNat ++
    oneByte r.cls.val ++ oneByte r.hMax ++ oneByte r.reason.code ++ oneByte r.disposition.code ++
    toBE 2 r.cycles ++ toBE 2 r.analysed ++ toBE 2 r.estimated ++ toBE 2 r.dropped ++ toBE 2 r.late ++
    oneByte r.outstanding ++ oneByte r.exceed.bits ++ toBE 2 r.flags.bits ++
    toBE 4 r.unaccounted ++ toBE 2 r.clipTotal ++ toBE 4 r.meanFrequency

/-- The THD part of a block record. -/
def thdBytes : Option (Vector Nat 6) → Bytes
  | none => oneByte 0
  | some l => oneByte 6 ++ l.toList.flatMap fun x => toBE 2 x

/-- The time stamp part of a block record. -/
def stampBytes (t : Option TimeStamp) : Bytes := optionalPart (fun t => toBE 4 t.second.toNat ++ toBE 2 t.cycleEnds) t

theorem BlockRecord.fields_eq (r : BlockRecord) : r.fields =
    r.names ++ ((r.increments.toList.flatMap fun q => toBE 6 q) ++ (thdBytes r.thd ++ stampBytes r.stamp)) := by
  unfold BlockRecord.fields BlockRecord.names thdBytes stampBytes
  cases r.thd <;> simp only [List.append_assoc]

theorem BlockRecord.length_names (r : BlockRecord) : r.names.length = 38 := by
  unfold BlockRecord.names
  simp only [List.length_append, length_oneByte, length_toBE]

theorem length_increments (v : Vector Nat 12) : (v.toList.flatMap fun q => toBE 6 q).length = 72 := by
  rw [length_fields, Vector.length_toList]

theorem length_thdBytes (x : Option (Vector Nat 6)) : (thdBytes x).length = if x.isSome then 13 else 1 := by
  cases x with
  | none => rfl
  | some l =>
    rw [thdBytes, List.length_append, length_fields, Vector.length_toList]
    rfl

theorem length_stampBytes (x : Option TimeStamp) : (stampBytes x).length = if x.isSome then 7 else 1 := by
  cases x <;> simp [stampBytes, optionalPart]

theorem BlockRecord.length_fields (r : BlockRecord) :
    r.fields.length = 112 + (if r.thd.isSome then 12 else 0) + (if r.stamp.isSome then 6 else 0) := by
  rw [r.fields_eq, List.length_append, List.length_append, List.length_append, r.length_names, length_increments,
    length_thdBytes, length_stampBytes]
  split <;> split <;> rfl

theorem BlockRecord.encode_eq (r : BlockRecord) :
    r.encode = oneByte 0xA5 ++ (oneByte 1 ++ (toBE 2 r.fields.length ++ r.fields)) := by
  rw [BlockRecord.encode, List.append_assoc, List.append_assoc]

theorem BlockRecord.byteAt_encode (r : BlockRecord) (i : Nat) : byteAt r.encode (4 + i) = byteAt r.fields i := by
  have length : (oneByte 0xA5 ++ oneByte 1 ++ toBE 2 r.fields.length).length = 4 := by simp
  rw [BlockRecord.encode, byteAt_append_right (by omega), length, Nat.add_sub_cancel_left]

theorem BlockRecord.beNat_encode (r : BlockRecord) (i w : Nat) : beNat r.encode (4 + i) w = beNat r.fields i w :=
  beNat_congr fun k _ => by rw [Nat.add_assoc, r.byteAt_encode]

theorem BlockRecord.byteAt_names (r : BlockRecord) {i : Nat} (h : i < 38) : byteAt r.fields i = byteAt r.names i := by
  rw [r.fields_eq, byteAt_append_left (by rw [r.length_names]; exact h)]

theorem BlockRecord.beNat_names (r : BlockRecord) {i w : Nat} (h : i + w ≤ 38) : beNat r.fields i w = beNat r.names i w := by
  rw [r.fields_eq, beNat_append_left (by rw [r.length_names]; exact h)]

theorem mod_of_fin {n m : Nat} (x : Fin n) (h : n ≤ m) : x.val % m = x.val :=
  Nat.mod_eq_of_lt (Nat.lt_of_lt_of_le x.isLt h)

theorem beNat_word (x : BitVec 32) (b : Bytes) : beNat (toBE 4 x.toNat ++ b) 0 4 = x.toNat :=
  (beNat_toBE_append _ _ b).trans (Nat.mod_eq_of_lt x.isLt)

theorem beNat_half (x : BitVec 16) (b : Bytes) : beNat (toBE 2 x.toNat ++ b) 0 2 = x.toNat :=
  (beNat_toBE_append _ _ b).trans (Nat.mod_eq_of_lt x.isLt)

theorem exceed_bits (x : ExceedFlags) : x.bits % 256 = (if x.g0 then 1 else 0) + (if x.g1 then 2 else 0) +
    (if x.g2 then 4 else 0) + (if x.g3 then 8 else 0) + (if x.thd then 16 else 0) := by
  have all : ∀ a b c d e : Bool, maskBits [a, b, c, d, e] % 256 = (if a then 1 else 0) + (if b then 2 else 0) +
    (if c then 4 else 0) + (if d then 8 else 0) + (if e then 16 else 0) := by decide
  exact all _ _ _ _ _

theorem CloseReason.code_lt (x : CloseReason) : x.code % 256 = x.code := by cases x <;> rfl

theorem Disposition.code_lt (x : Disposition) : x.code % 256 = x.code := by cases x <;> rfl

theorem BlockRecord.names_bytes (r : BlockRecord) : byteAt r.names 0 = r.tap.val ∧ byteAt r.names 1 = r.tracker.val ∧
    byteAt r.names 2 = r.tariff.val ∧ byteAt r.names 3 = r.profile.val ∧ byteAt r.names 10 = r.cls.val ∧
    byteAt r.names 11 = r.hMax % 256 ∧ byteAt r.names 12 = r.reason.code ∧ byteAt r.names 13 = r.disposition.code ∧
    byteAt r.names 24 = r.outstanding % 256 ∧ byteAt r.names 25 = r.exceed.bits % 256 := by
  have tap := mod_of_fin r.tap (m := 256) (by decide)
  have tracker := mod_of_fin r.tracker (m := 256) (by decide)
  have tariff := mod_of_fin r.tariff (m := 256) (by decide)
  have profile := mod_of_fin r.profile (m := 256) (by decide)
  have cls := mod_of_fin r.cls (m := 256) (by decide)
  unfold BlockRecord.names
  simp [byteAt_append, byteAt_oneByte, tap, tracker, tariff, profile, cls, CloseReason.code_lt, Disposition.code_lt]

theorem BlockRecord.names_fields (r : BlockRecord) : beNat r.names 4 4 = r.block.toNat ∧
    beNat r.names 8 2 = r.generation.toNat ∧ beNat r.names 14 2 = r.cycles % 256 ^ 2 ∧
    beNat r.names 16 2 = r.analysed % 256 ^ 2 ∧ beNat r.names 18 2 = r.estimated % 256 ^ 2 ∧
    beNat r.names 20 2 = r.dropped % 256 ^ 2 ∧ beNat r.names 22 2 = r.late % 256 ^ 2 ∧
    beNat r.names 26 2 = r.flags.bits % 256 ^ 2 ∧ beNat r.names 28 4 = r.unaccounted % 256 ^ 4 ∧
    beNat r.names 32 2 = r.clipTotal % 256 ^ 2 ∧ beNat r.names 34 4 = r.meanFrequency % 256 ^ 4 := by
  unfold BlockRecord.names
  simp [beNat_append_after, beNat_toBE_append, beNat_toBE]
  exact ⟨r.block.isLt, r.generation.isLt⟩

theorem BlockRecord.increment_field (r : BlockRecord) (i : Fin 12) :
    beNat r.fields (38 + 6 * i.val) 6 = r.increments[i] % 256 ^ 6 := by
  rw [r.fields_eq, beNat_append_right (by rw [r.length_names]; omega), r.length_names, Nat.add_sub_cancel_left,
    beNat_fields _ (by rw [Vector.length_toList]; exact i.isLt), Vector.getElem_toList]
  rfl

/-- The lists of a block record come after 110 bytes. -/
theorem BlockRecord.fields_after (r : BlockRecord) (i : Nat) :
    byteAt r.fields (110 + i) = byteAt (thdBytes r.thd ++ stampBytes r.stamp) i := by
  rw [r.fields_eq, byteAt_append_right (by rw [r.length_names]; omega), r.length_names,
    byteAt_append_right (by rw [length_increments]; omega), length_increments]
  exact congrArg _ (by omega)

theorem BlockRecord.thd_fields (r : BlockRecord) : match r.thd with
    | none => byteAt r.fields 110 = 0
    | some l => byteAt r.fields 110 = 6 ∧ ∀ c : Fin 6, beNat r.fields (111 + 2 * c.val) 2 = l[c] % 256 ^ 2 := by
  have after := r.fields_after
  have first := after 0
  cases thd : r.thd with
  | none =>
    rw [thd] at first
    exact first
  | some l =>
    rw [thd] at first after
    refine ⟨first, fun c => ?_⟩
    have list : beNat r.fields (111 + 2 * c.val) 2 =
        beNat ((l.toList.flatMap fun x => toBE 2 x) ++ stampBytes r.stamp) (2 * c.val) 2 := by
      refine beNat_congr fun k _ => ?_
      rw [show 111 + 2 * c.val + k = 110 + (2 * c.val + k + 1) by omega, after]
      rfl
    rw [list, beNat_fields _ (by rw [Vector.length_toList]; exact c.isLt), Vector.getElem_toList]
    rfl

theorem BlockRecord.stamp_fields (r : BlockRecord) : let n := if r.thd.isSome then 123 else 111
    match r.stamp with
    | none => byteAt r.fields n = 0
    | some x => byteAt r.fields n = 1 ∧ beNat r.fields (n + 1) 4 = x.second.toNat ∧
        beNat r.fields (n + 5) 2 = x.cycleEnds % 256 ^ 2 := by
  intro n
  have at_ (i : Nat) : byteAt r.fields (n + i) = byteAt (stampBytes r.stamp) i := by
    have place : n + i = 110 + ((thdBytes r.thd).length + i) := by
      rw [length_thdBytes]
      dsimp only [n]
      split <;> omega
    rw [place, r.fields_after, byteAt_append_right (by omega), Nat.add_sub_cancel_left]
  have field (i w : Nat) : beNat r.fields (n + i) w = beNat (stampBytes r.stamp) i w :=
    beNat_congr fun k _ => by rw [Nat.add_assoc, at_]
  have first := at_ 0
  have second := field 1 4
  have third := field 5 2
  cases stamp : r.stamp with
  | none =>
    rw [stamp] at first
    exact first
  | some x =>
    rw [stamp] at first second third
    refine ⟨first, second.trans ?_, third.trans ?_⟩
    · exact (beNat_cons_succ _ _ 0 4).trans (beNat_word x.second _)
    · rw [stampBytes, optionalPart, ← List.append_assoc, beNat_append_right (by simp)]
      simp [beNat_toBE]

/-- Every field of a block record stands where R178 places it. -/
theorem BlockRecord.encode_laidOut (r : BlockRecord) : RecordLaidOut r.encode r := by
  have length : r.encode.length = 4 + r.fields.length := by
    rw [r.encode_eq, List.length_append, List.length_append, List.length_append, length_oneByte, length_oneByte,
      length_toBE]
    omega
  have byte {i : Nat} (h : i < 38) : byteAt r.encode (4 + i) = byteAt r.names i :=
    (r.byteAt_encode i).trans (r.byteAt_names h)
  have field {i w : Nat} (h : i + w ≤ 38) : beNat r.encode (4 + i) w = beNat r.names i w :=
    (r.beNat_encode i w).trans (r.beNat_names h)
  obtain ⟨tap, tracker, tariff, profile, cls, hMax, reason, disposition, outstanding, exceed⟩ := r.names_bytes
  obtain ⟨block, generation, cycles, analysed, estimated, dropped, late, flags, unaccounted, clips, frequency⟩ :=
    r.names_fields
  have size : r.fields.length < 256 ^ 2 := by
    rw [r.length_fields]
    split <;> split <;> decide
  refine ⟨?_, ⟨?_, ?_, ?_⟩, ⟨(byte (i := 0) (by decide)).trans tap, (byte (i := 1) (by decide)).trans tracker,
    (byte (i := 2) (by decide)).trans tariff, (byte (i := 3) (by decide)).trans profile,
    (field (i := 4) (by decide)).trans block, (field (i := 8) (by decide)).trans generation,
    (byte (i := 10) (by decide)).trans cls, (byte (i := 11) (by decide)).trans hMax,
    (byte (i := 12) (by decide)).trans reason, (byte (i := 13) (by decide)).trans disposition⟩,
    ⟨(field (i := 14) (by decide)).trans cycles, (field (i := 16) (by decide)).trans analysed,
    (field (i := 18) (by decide)).trans estimated, (field (i := 20) (by decide)).trans dropped,
    (field (i := 22) (by decide)).trans late, (byte (i := 24) (by decide)).trans outstanding,
    (field (i := 28) (by decide)).trans unaccounted, (field (i := 32) (by decide)).trans clips,
    (field (i := 34) (by decide)).trans frequency⟩,
    (byte (i := 25) (by decide)).trans (exceed.trans (exceed_bits _)), fun i => ?_, fun i => ?_, ?_, ?_⟩
  · rw [length, r.length_fields]
    omega
  · rw [r.encode_eq]
    rfl
  · rw [r.encode_eq]
    rfl
  · rw [length, Nat.add_sub_cancel_left, r.encode_eq, beNat_append_right (by simp), beNat_append_right (by simp)]
    exact (beNat_toBE_append _ _ _).trans (Nat.mod_eq_of_lt size)
  · rw [(field (i := 26) (by decide)).trans flags]
    exact getLsbD_maskBits _ i.isLt
  · rw [show 42 + 6 * i.val = 4 + (38 + 6 * i.val) by omega, r.beNat_encode]
    exact r.increment_field i
  · have thd := r.thd_fields
    have first := r.byteAt_encode 110
    split
    · next none =>
      rw [none] at thd
      exact first.trans thd
    · next l some =>
      rw [some] at thd
      refine ⟨first.trans thd.1, fun c => ?_⟩
      rw [show 115 + 2 * c.val = 4 + (111 + 2 * c.val) by omega, r.beNat_encode]
      exact thd.2 c
  · intro n
    have stamp := r.stamp_fields
    have place : n = 4 + if r.thd.isSome then 123 else 111 := by
      dsimp only [n]
      split <;> rfl
    rw [place]
    split
    · next none =>
      rw [none] at stamp
      exact (r.byteAt_encode _).trans stamp
    · next x some =>
      rw [some] at stamp
      obtain ⟨present, second, ends⟩ := stamp
      rw [Nat.add_assoc, Nat.add_assoc, r.beNat_encode, r.beNat_encode]
      exact ⟨(r.byteAt_encode _).trans present, second, ends⟩

end Sys2Proof.Machine
end


section
/-! SUPPORT. The requests that read (R42, R122, R141, R150). -/

namespace Sys2Proof.Machine

set_option Elab.async false

open Sys2Proof

variable {s : State} {r : Request} {tap : TapId}

/-! ## Bodies of single bytes and optional parts -/

theorem flatMap_oneByte {α : Type} (l : List α) (f : α → Nat) :
    (l.flatMap fun x => oneByte (f x)) = l.map fun x => BitVec.ofNat 8 (f x) := by
  simp only [oneByte_eq]
  exact List.flatMap_pure_eq_map _ l

theorem ofNat_byteAt (b : Bytes) (i : Nat) : BitVec.ofNat 8 (byteAt b i) = b.getD i 0 := by
  unfold byteAt
  rw [BitVec.ofNat_toNat, BitVec.setWidth_eq]

theorem boolByte_eq (x : Bool) : boolByte x = [if x then 1 else 0] := by cases x <;> rfl

/-! ## READ TAP and READ REGISTERS -/

theorem serveReadTap_body (own : byteAt r.body 0 = tap.val) : serveReadTap s r = s.answer r .done
    ([BitVec.ofNat 8 tap.val] ++ toBE 2 s.tables.taps[tap].generation.toNat ++ s.tables.taps[tap].entry.encode ++
      (match s.tables.taps[tap].staged with
       | none => [0]
       | some e => 1 :: e.encode)) := by
  unfold serveReadTap
  rw [own, readTapId_val]
  dsimp only
  rw [oneByte_eq]
  unfold optionalPart
  cases s.tables.taps[tap].staged <;> rfl

theorem registerIndex_eq (t : Tariff) (i : Fin 12) : registerIndex t i = Fin.ofNat 48 (12 * t.val + i.val) := by
  have low := t.isLt
  have fits := i.isLt
  exact Fin.ext (Nat.mod_eq_of_lt (by omega)).symm

/-- The registers of one tariff in the answer to READ REGISTERS. -/
def registerGroup (x : TapAccount) (tariff : Tariff) : Bytes :=
  ((List.finRange 12).flatMap fun i => packedDecimal
    x.registers[(Fin.ofNat 48 (12 * tariff.val + i.val) : Fin 48)].count) ++
    (List.finRange 12).map fun i => BitVec.ofNat 8
      x.registers[(Fin.ofNat 48 (12 * tariff.val + i.val) : Fin 48)].rollover

theorem TapAccount.tariffGroup_eq (x : TapAccount) (tariff : Tariff) : x.tariffGroup tariff = registerGroup x tariff := by
  have all : ([0, 1, 2, 3, 4, 5, 6, 7, 8, 9, 10, 11] : List (Fin 12)) = List.finRange 12 := by decide
  unfold TapAccount.tariffGroup registerGroup
  dsimp only
  rw [all, flatMap_oneByte, List.flatMap_map, List.map_map]
  simp only [registerIndex_eq]
  rfl

/-- The tariffs that a selector names. -/
theorem readSelector_flatMap (own : byteAt r.body 0 = tap.val) (low : byteAt r.body 1 ≤ 4) (f : Tariff → Bytes) :
    ∃ l, readSelector r.body = some (tap, l) ∧ l.flatMap f = (List.finRange 4).flatMap fun tariff =>
      if byteAt r.body 1 = 4 ∨ byteAt r.body 1 = tariff.val then f tariff else [] := by
  have tariffs : List.finRange 4 = [0, 1, 2, 3] := by decide
  unfold readSelector
  rw [own, readTapId_val, tariffs]
  dsimp only
  by_cases one : byteAt r.body 1 < 4
  · refine ⟨_, dif_pos one, ?_⟩
    generalize byteAt r.body 1 = n at *
    interval_cases n <;> simp
  · have all : byteAt r.body 1 = 4 := by omega
    exact ⟨_, (dif_neg one).trans (if_pos all), by simp [all]⟩

theorem length_filter_eq_sum {α : Type} (p : α → Prop) [DecidablePred p] (l : List α) :
    (l.filter fun x => decide (p x)).length = (l.map fun x => if p x then 1 else 0).sum := by
  induction l with
  | nil => rfl
  | cons x l ih =>
    rw [List.map_cons, List.sum_cons, ← ih]
    by_cases own : p x <;> simp [own, Nat.add_comm]

theorem State.outstandingJobs_eq (s : State) (tap : TapId) : s.outstandingJobs tap =
    (s.engine.queue.map fun j => if j.head.tap = tap then 1 else 0).sum + (match s.engine.flight with
      | none => 0
      | some f => if f.job.head.tap = tap then 1 else 0) := by
  exact congrArg (· + _) (length_filter_eq_sum (fun j : Job => j.head.tap = tap) s.engine.queue)

theorem restoreCode (x : RestoreState) : oneByte x.code = [if x = .closed then 1 else 0] := by cases x <;> rfl

theorem serveReadRegisters_body (own : byteAt r.body 0 = tap.val) (low : byteAt r.body 1 ≤ 4) :
    serveReadRegisters s r = s.answer r .done
      ([BitVec.ofNat 8 tap.val, r.body.getD 1 0] ++
        ((List.finRange 4).flatMap fun tariff => if byteAt r.body 1 = 4 ∨ byteAt r.body 1 = tariff.val then
          registerGroup s.accounts[tap] tariff else []) ++
        toBE 8 s.accounts[tap].constant ++ [if s.accounts[tap].restore = .closed then 1 else 0] ++
        (match s.accounts[tap].lastCycle with
         | none => [0]
         | some c => [1, BitVec.ofNat 8 c.tracker.val] ++ toBE 4 c.block.toNat ++ [BitVec.ofNat 8 c.index]) ++
        [BitVec.ofNat 8 (s.outstandingJobs tap)]) := by
  obtain ⟨l, reads, groups⟩ := readSelector_flatMap own low (registerGroup s.accounts[tap])
  unfold serveReadRegisters
  rw [reads]
  dsimp only
  simp only [TapAccount.tariffGroup_eq]
  rw [groups, restoreCode]
  simp only [oneByte_eq, ofNat_byteAt]
  unfold optionalPart
  cases s.accounts[tap].lastCycle <;> rfl

/-! ## READ SPECTRUM and READ RECORD -/

theorem readSpectrumPart_of {currents : Bool} (own : byteAt r.body 0 = tap.val)
    (part : byteAt r.body 1 = if currents then 1 else 0) : readSpectrumPart r.body = some (tap, currents) := by
  unfold readSpectrumPart
  rw [own, part, readTapId_val, readBool_bit]

theorem SpectrumStore.encode_eq (x : SpectrumStore) (tap : TapId) (currents : Bool) : x.encode tap currents =
    [BitVec.ofNat 8 tap.val, if currents then 1 else 0, BitVec.ofNat 8 x.tracker.val] ++ toBE 4 x.block.toNat ++
      [BitVec.ofNat 8 x.index] ++ toBE 2 x.generation.toNat ++ [BitVec.ofNat 8 x.cls.val, BitVec.ofNat 8 x.hMax] ++
      (if currents then x.phasors[3] ++ x.phasors[4] ++ x.phasors[5]
        else x.phasors[0] ++ x.phasors[1] ++ x.phasors[2]).flatMap fun p => intToBE 3 p.re ++ intToBE 3 p.im := by
  unfold SpectrumStore.encode
  simp only [oneByte_eq, boolByte_eq]
  cases currents <;> simp [List.flatMap_append] <;> rfl

theorem State.findRecord_held {block : BitVec 32} {x : BlockRecord} {rest : List BlockRecord}
    (held : s.records.ring.filter (fun y => decide (y.tap = tap ∧ y.block = block)) = x :: rest) :
    s.findRecord tap block = (.done, x.encode) := by
  unfold State.findRecord
  rw [← List.head?_filter, held]
  rfl

/-- A block that no stored record names. -/
theorem State.findRecord_missing {block : BitVec 32} (none : ∀ x ∈ s.records.ring, ¬(x.tap = tap ∧ x.block = block)) :
    s.findRecord tap block =
      if (s.accounts[tap].accumulators.any fun a => decide (a.block = block)) = true then (.notYet, [])
      else if (block - s.accounts[tap].blockNumber).toNat < 2 ^ 31 then (.notYet, []) else (.gone, []) := by
  have missing : s.records.ring.find? (fun r => decide (r.tap = tap ∧ r.block = block)) = Option.none :=
    List.find?_eq_none.mpr fun x mem => by simpa using none x mem
  unfold State.findRecord
  rw [missing]

theorem State.findRecord_open {block : BitVec 32} (none : ∀ x ∈ s.records.ring, ¬(x.tap = tap ∧ x.block = block))
    (due : (∃ a ∈ s.accounts[tap].accumulators, a.block = block) ∨
      (block - s.accounts[tap].blockNumber).toNat < 2 ^ 31) : s.findRecord tap block = (.notYet, []) := by
  rw [State.findRecord_missing none]
  split
  · rfl
  · next closed => exact if_pos (due.resolve_left fun held => closed (by simpa using held))

theorem State.findRecord_gone {block : BitVec 32} (none : ∀ x ∈ s.records.ring, ¬(x.tap = tap ∧ x.block = block))
    (closed : ∀ a ∈ s.accounts[tap].accumulators, a.block ≠ block)
    (past : 2 ^ 31 ≤ (block - s.accounts[tap].blockNumber).toNat) : s.findRecord tap block = (.gone, []) := by
  rw [State.findRecord_missing none, if_neg (by simpa using closed), if_neg (Nat.not_lt.mpr past)]

theorem serveReadRecord_finds (own : byteAt r.body 0 = tap.val) : serveReadRecord s r =
    s.answer r (s.findRecord tap (BitVec.ofNat 32 (beNat r.body 1 4))).1
      (s.findRecord tap (BitVec.ofNat 32 (beNat r.body 1 4))).2 := by
  unfold serveReadRecord
  rw [own, readTapId_val]

/-- Settles O57: each answer, from a state that keeps all but the slot. -/
theorem readRequests : Obligations.ReadRequests := by
  refine ⟨fun s r tap serving own => ?_, fun s r tap serving own low => ?_, fun s r tap currents serving own part => ?_,
    fun s r tap serving own => ?_⟩
  · exact ⟨_, next_congr ((State.serve_of_serving s serving).trans (serveReadTap_body own)), s.answer_frame r _ _,
      s.answer_answered r _ _⟩
  · intro x group job
    have serves := serveReadRegisters_body (s := s) own low
    rw [s.outstandingJobs_eq] at serves
    exact ⟨_, next_congr ((State.serve_of_serving s serving).trans serves), s.answer_frame r _ _, s.answer_answered r _ _⟩
  · have reads := readSpectrumPart_of own part
    cases store : s.engine.store[tap] with
    | none =>
      have serves : serveReadSpectrum s r = s.refuse r .wrongState := by
        unfold serveReadSpectrum
        rw [reads]
        dsimp only
        rw [store]
      exact ⟨_, next_congr ((State.serve_of_serving s serving).trans serves), s.refuse_frame r _,
        fun _ => (s.refuse_answered r _).1, nofun⟩
    | some x =>
      have serves : serveReadSpectrum s r = s.answer r .done (x.encode tap currents) := by
        unfold serveReadSpectrum
        rw [reads]
        dsimp only
        rw [store]
      refine ⟨_, next_congr ((State.serve_of_serving s serving).trans serves), s.answer_frame r _ _, nofun, fun y same => ?_⟩
      obtain rfl := Option.some.inj same
      rw [SpectrumStore.encode_eq]
      exact s.answer_answered r _ _
  · intro block
    refine ⟨_, next_congr ((State.serve_of_serving s serving).trans (serveReadRecord_finds own)), s.answer_frame r _ _,
      fun x rest held => ⟨x.encode_laidOut, ?_⟩, fun none => ⟨fun open_ => ?_, fun closed past => ?_⟩⟩
    · rw [State.findRecord_held held]
      exact s.answer_answered r _ _
    · rw [State.findRecord_open none open_]
      exact s.answer_answered r _ _
    · rw [State.findRecord_gone none closed past]
      exact s.answer_answered r _ _

end Sys2Proof.Machine
end


section
/-! SUPPORT. READ STATUS (R163 to R165). -/

namespace Sys2Proof.Machine

set_option Elab.async false

open Sys2Proof

variable {s : State} {r : Request}

/-- The READ STATUS body up to the stream state. -/
def State.statusHead (s : State) : Bytes :=
  toBE 2 s.latches.bits ++ oneByte s.management.startCause.code ++ oneByte s.straps.station.toNat ++
    oneByte (hertz s.straps.frequency) ++ oneByte s.agreement.mode.code ++ oneByte s.agreement.acceptMask.toNat ++
    oneByte s.agreement.fixedCode.val ++ oneByte s.agreement.state.code ++ oneByte s.agreement.profile.val ++
    oneByte s.intake.stream.code

theorem State.length_statusHead (s : State) : s.statusHead.length = 11 := by
  unfold State.statusHead
  simp only [List.length_append, length_oneByte, length_toBE]

theorem State.statusBody_eq (s : State) : s.statusBody = s.statusHead ++
    (s.trackerStatus 0 ++ s.trackerStatus 1 ++ optionalPart PendingTariff.encode s.former.pendingTariff ++
      optionalPart (fun n => toBE 4 n.toNat) s.former.second ++
      oneByte (maskBits (s.accounts.toList.map fun t => decide (t.restore = .closed)))) := by
  unfold State.statusBody State.statusHead
  simp only [List.append_assoc]

theorem State.statusHead_bytes (s : State) : byteAt s.statusHead 2 = s.management.startCause.code ∧
    byteAt s.statusHead 3 = s.straps.station.toNat ∧ byteAt s.statusHead 4 = hertz s.straps.frequency ∧
    byteAt s.statusHead 5 = s.agreement.mode.code ∧ byteAt s.statusHead 6 = s.agreement.acceptMask.toNat ∧
    byteAt s.statusHead 7 = s.agreement.fixedCode.val ∧ byteAt s.statusHead 8 = s.agreement.state.code ∧
    byteAt s.statusHead 9 = s.agreement.profile.val ∧ byteAt s.statusHead 10 = s.intake.stream.code := by
  have cause : s.management.startCause.code % 256 = s.management.startCause.code := by
    cases s.management.startCause <;> rfl
  have station : s.straps.station.toNat % 256 = s.straps.station.toNat :=
    Nat.mod_eq_of_lt (Nat.lt_trans s.straps.station.isLt (by decide))
  have frequency : hertz s.straps.frequency % 256 = hertz s.straps.frequency := by cases s.straps.frequency <;> rfl
  have mode : s.agreement.mode.code % 256 = s.agreement.mode.code := by cases s.agreement.mode <;> rfl
  have mask : s.agreement.acceptMask.toNat % 256 = s.agreement.acceptMask.toNat :=
    Nat.mod_eq_of_lt s.agreement.acceptMask.isLt
  have fixed := mod_of_fin s.agreement.fixedCode (m := 256) (by decide)
  have state : s.agreement.state.code % 256 = s.agreement.state.code := by cases s.agreement.state <;> rfl
  have profile := mod_of_fin s.agreement.profile (m := 256) (by decide)
  have stream : s.intake.stream.code % 256 = s.intake.stream.code := by cases s.intake.stream <;> rfl
  unfold State.statusHead
  simp [byteAt_append, byteAt_oneByte, cause, station, frequency, mode, mask, fixed, state, profile, stream]

theorem State.statusBody_byte (s : State) {i : Nat} (h : i < 11) : byteAt s.statusBody i = byteAt s.statusHead i := by
  rw [s.statusBody_eq, byteAt_append_left (by rw [s.length_statusHead]; exact h)]

theorem State.statusBody_latch (s : State) {i : Nat} (h : i < 16) :
    (BitVec.ofNat 16 (beNat s.statusBody 0 2)).getLsbD i = [s.latches.badCheck, s.latches.forwardDropped,
      s.latches.relayDropped, s.latches.gapFilled, s.latches.profileMismatch, s.latches.clipped,
      s.latches.requestDropped, s.latches.noticeDropped, s.latches.streamIntact].getD i false := by
  have field : beNat s.statusBody 0 2 = s.latches.bits % 256 ^ 2 := by
    unfold State.statusBody
    simp only [List.append_assoc, beNat_toBE_append]
  rw [field]
  exact getLsbD_maskBits _ h

/-- A bit of a mask byte. -/
theorem getLsbD_maskByte (l : List Bool) {i : Nat} (h : i < 8) : (BitVec.ofNat 8 (maskBits l)).getLsbD i = l.getD i false := by
  rw [BitVec.getLsbD_ofNat, testBit_maskBits, decide_eq_true h, Bool.true_and]

theorem PendingTariff.encode_eq (p : PendingTariff) : p.encode = [BitVec.ofNat 8 p.tariff.val] ++
    p.effective.elim [0] (fun n => 1 :: toBE 4 n.toNat) ++
    [((if p.applied[0] then 1 else 0) + (if p.applied[1] then 2 else 0) : Byte)] := by
  unfold PendingTariff.encode
  rw [oneByte_eq, oneByte_eq]
  cases p.effective <;> cases p.applied[0] <;> cases p.applied[1] <;> rfl

/-- Settles O56: each field at its byte, the tail in its order, and the latches reset. -/
theorem readStatus : Obligations.ReadStatus := by
  refine ⟨⟨fun _ => rfl, rfl, rfl, rfl, rfl⟩, fun s r serving => ?_⟩
  obtain ⟨cause, station, frequency, mode, mask, fixed, state, profile, stream⟩ := s.statusHead_bytes
  have byte {i : Nat} (h : i < 11) := s.statusBody_byte h
  have latch (i : Nat) (h : i < 16) := s.statusBody_latch h
  have frame := s.setLatches_frame { Latches.cleared with streamIntact := decide (s.intake.stream = .running) }
  refine ⟨_, s.statusBody, next_congr (State.serve_of_serving s serving), frame.wider.answered r .done s.statusBody,
    (frame.answer r .done s.statusBody).wider, (State.answer_frame _ r .done _).get .latches,
    ⟨latch 0 (by decide), latch 1 (by decide), latch 2 (by decide), latch 3 (by decide), latch 4 (by decide),
      latch 5 (by decide), latch 6 (by decide), latch 7 (by decide), latch 8 (by decide)⟩,
    (byte (by decide)).trans cause, (byte (by decide)).trans station, (byte (by decide)).trans frequency,
    (byte (by decide)).trans mode, (byteAt_eq_iff _ _ _).mpr ((byte (by decide)).trans mask),
    (byte (by decide)).trans fixed, (byte (by decide)).trans state, (byte (by decide)).trans profile,
    (byte (by decide)).trans stream, ?_⟩
  intro tracker
  have status (u : TrackerId) : s.trackerStatus u = tracker u := by
    dsimp only [tracker]
    unfold State.trackerStatus State.lfix optionalPart
    simp only [oneByte_eq, boolByte_eq]
    cases s.trackers[u].handover <;> simp
  refine ⟨BitVec.ofNat 8 (maskBits (s.accounts.toList.map fun t => decide (t.restore = .closed))), ?_, fun tap => ?_⟩
  · have tail := List.drop_left' (l₂ := s.trackerStatus 0 ++ s.trackerStatus 1 ++
      optionalPart PendingTariff.encode s.former.pendingTariff ++ optionalPart (fun n => toBE 4 n.toNat) s.former.second ++
      oneByte (maskBits (s.accounts.toList.map fun t => decide (t.restore = .closed)))) s.length_statusHead
    rw [s.statusBody_eq, tail, status, status, oneByte_eq]
    cases s.former.second <;> cases s.former.pendingTariff with
    | none => rfl
    | some p =>
      unfold optionalPart
      dsimp only
      rw [p.encode_eq]
      cases p.effective <;> rfl
  · rw [getLsbD_maskByte _ tap.isLt, List.getD_eq_getElem _ _ (by simp), List.getElem_map, Vector.getElem_toList]
    rfl

end Sys2Proof.Machine
end


section
/-! SUPPORT. The frames that the part sends of its own, and the transmit choices (R10 to R14). -/

namespace Sys2Proof.Machine

set_option Elab.async false

open Sys2Proof

variable {p : Ports} {station : BitVec 6}

/-! ## Frames of the part -/

theorem toBE_linkAddress (station : BitVec 6) : toBE 6 (linkAddress station).toNat =
    [0x02, 0x4E, 0x42, 0x00, 0x00, station.setWidth 8] := by
  have small := station.isLt
  have value : (linkAddress station).toNat = 0x024E42000000 + station.toNat := by
    rw [linkAddress, BitVec.toNat_ofNat]
    omega
  have last : BitVec.ofNat 8 (0x024E42000000 + station.toNat) = station.setWidth 8 :=
    BitVec.eq_of_toNat_eq (by rw [BitVec.toNat_ofNat, BitVec.toNat_setWidth]; omega)
  have byte (k : Nat) (x : Byte) (h : (0x024E42000000 + station.toNat) / k % 256 = x.toNat) :
      BitVec.ofNat 8 ((0x024E42000000 + station.toNat) / k) = x := BitVec.eq_of_toNat_eq (by rw [BitVec.toNat_ofNat]; exact h)
  rw [value]
  simp only [toBE, Nat.reducePow, Nat.div_one, last]
  rw [byte _ 0x02 (by simp; omega), byte _ 0x4E (by simp; omega), byte _ 0x42 (by simp; omega),
    byte _ 0 (by simp; omega), byte _ 0 (by simp; omega)]

/-- A frame that the part originates. -/
theorem ownFrame_eq (station : BitVec 6) (dest : Mac) (kind : FrameKind) (fields : Bytes) :
    ownFrame station dest kind fields = frameBytes station dest (BitVec.ofNat 8 kind.code) fields := by
  have type : toBE 2 Config.streamType = [0x9A, 0x4E] := rfl
  unfold ownFrame frameBytes
  dsimp only
  rw [toBE_linkAddress, type, oneByte_eq, oneByte_eq]
  simp [length_toBE]
  omega

theorem Offer.encode_eq (o : Offer) : o.encode = [o.mask, if o.ack then 1 else 0] := by
  unfold Offer.encode
  rw [oneByte_eq, boolByte_eq, BitVec.ofNat_toNat, BitVec.setWidth_eq]
  rfl

theorem Answer.encode_eq (a : Answer) : a.encode = [a.tag, a.kind, match a.result with
    | .done => 0
    | .malformed => 1
    | .outOfRange => 2
    | .wrongState => 3
    | .gone => 4
    | .notYet => 5, 0] ++ a.body := by
  unfold Answer.encode
  cases a.result <;> rfl

theorem Report.encode_eq (r : Report) : r.encode = BitVec.ofNat 8 r.skip :: r.record.encode := by
  rw [Report.encode, oneByte_eq]
  rfl

theorem TrackerState.code_lt (x : TrackerState) : x.code % 256 = x.code := by cases x <;> rfl

theorem TrackerCause.code_lt (x : TrackerCause) : x.code % 256 = x.code := by cases x <;> rfl

theorem HandoverOutcome.code_lt (x : HandoverOutcome) : x.code % 256 = x.code := by cases x <;> rfl

theorem LimitKind.code_lt (x : LimitKind) : x.code % 256 = x.code := by cases x <;> rfl

theorem LimitOutcome.code_lt (x : LimitOutcome) : x.code % 256 = x.code := by cases x <;> rfl

theorem AgreementOutcome.code_lt (x : AgreementOutcome) : x.code % 256 = x.code := by cases x <;> rfl

theorem StreamCause.code_lt (x : StreamCause) : x.code % 256 = x.code := by cases x <;> rfl

/-- Every field of a notice stands where R179 places it. -/
theorem NoticeBody.encode_laidOut (n : NoticeBody) : NoticeLaidOut n.encode n := by
  unfold NoticeBody.encode NoticeLaidOut
  cases n with
  | tracker u previous new cause reference lfix count =>
    have own := mod_of_fin u (m := 256) (by decide)
    have channel := mod_of_fin reference (m := 256) (by decide)
    have word : count.toNat < 4294967296 := count.isLt
    simp [byteAt_append, byteAt_oneByte, beNat_append_after, beNat_toBE_append, beNat_toBE, TrackerState.code_lt,
      TrackerCause.code_lt, own, channel, Nat.mod_eq_of_lt word]
  | handover u outcome old new timeout locked state ls =>
    have own := mod_of_fin u (m := 256) (by decide)
    have before := mod_of_fin old (m := 256) (by decide)
    have after := mod_of_fin new (m := 256) (by decide)
    simp [byteAt_append, byteAt_oneByte, byteAt_boolByte, beNat_append_after, beNat_toBE, TrackerState.code_lt,
      HandoverOutcome.code_lt, own, before, after]
  | limit tap kind outcome tariff block value bound =>
    have own := mod_of_fin tap (m := 256) (by decide)
    have rate := mod_of_fin tariff (m := 256) (by decide)
    have word : block.toNat < 4294967296 := block.isLt
    simp [byteAt_append, byteAt_oneByte, beNat_append_after, beNat_toBE_append, beNat_toBE, LimitKind.code_lt,
      LimitOutcome.code_lt, own, rate, Nat.mod_eq_of_lt word]
  | agreement subject outcome accept partner =>
    have own := mod_of_fin subject (m := 256) (by decide)
    have mask : accept.toNat < 256 := accept.isLt
    have other : partner.toNat < 256 := partner.isLt
    simp [byteAt_append, byteAt_oneByte, AgreementOutcome.code_lt, own, Nat.mod_eq_of_lt mask, Nat.mod_eq_of_lt other]
  | stream subject cause expected received silence count =>
    have own := mod_of_fin subject (m := 256) (by decide)
    have first : expected.toNat < 65536 := expected.isLt
    have second : received.toNat < 65536 := received.isLt
    have word : count.toNat < 4294967296 := count.isLt
    simp [byteAt_append, byteAt_oneByte, beNat_append_after, beNat_toBE_append, beNat_toBE, StreamCause.code_lt, own,
      Nat.mod_eq_of_lt first, Nat.mod_eq_of_lt second, Nat.mod_eq_of_lt word]

/-! ## The choices -/

/-- The report that port B takes. -/
theorem Ports.nextReport_eq_some {k : Fin 2} {r : Report} (h : p.nextReport = some (k, r)) : p.reportSlots[k] = some r ∧
    (p.reportSlots[1] = none → k = 0) ∧ (p.reportSlots[0] = none → k = 1) ∧
    (p.reportSlots[0].isSome → p.reportSlots[1].isSome → k = p.firstReport) := by
  unfold Ports.nextReport at h
  split at h
  · next a b first second =>
    have own := Option.some.inj h
    rw [first, second]
    by_cases zero : p.firstReport = 0
    · rw [if_pos zero] at own
      obtain ⟨rfl, rfl⟩ := Prod.mk.inj own
      exact ⟨first, nofun, nofun, fun _ _ => zero.symm⟩
    · rw [if_neg zero] at own
      obtain ⟨rfl, rfl⟩ := Prod.mk.inj own
      have one : p.firstReport = 1 := by omega
      exact ⟨second, nofun, nofun, fun _ _ => one.symm⟩
  · next a first second =>
    obtain ⟨rfl, rfl⟩ := Prod.mk.inj (Option.some.inj h)
    rw [first, second]
    exact ⟨first, fun _ => rfl, nofun, nofun⟩
  · next b first second =>
    obtain ⟨rfl, rfl⟩ := Prod.mk.inj (Option.some.inj h)
    rw [first, second]
    exact ⟨second, nofun, fun _ => rfl, nofun⟩
  · exact absurd h nofun

/-- Whatever of the own class is sent is sent with a new FCS, for its length. -/
theorem Ports.ownItem_own {y : Transmission} (h : p.ownItem station = some y) :
    y.fcsGenerated = true ∧ y.holdNs = (y.bytes.length + 24) * 80 := by
  unfold Ports.ownItem at h
  split at h
  case h_4 => exact absurd h nofun
  all_goals
    obtain rfl := Option.some.inj h
    exact ⟨rfl, rfl⟩

/-- The bytes of an OFFER on the wire. -/
theorem frameBytes_offer (station : BitVec 6) (mask flag : Byte) : frameBytes station broadcast 3 [mask, flag] =
    [0xFF, 0xFF, 0xFF, 0xFF, 0xFF, 0xFF, 0x02, 0x4E, 0x42, 0x00, 0x00, station.setWidth 8, 0x9A, 0x4E, 3, 0, 0, 2, mask,
      flag] ++ List.replicate 40 0 := by
  have address : toBE 6 broadcast.toNat = [0xFF, 0xFF, 0xFF, 0xFF, 0xFF, 0xFF] := by decide
  have stated : toBE 2 2 = [0, 2] := by decide
  unfold frameBytes
  rw [address, show [mask, flag].length = 2 from rfl, stated]
  rfl

theorem offer_transmission (station : BitVec 6) (o : Offer) :
    Transmission.own .offer (ownFrame station broadcast .offer o.encode) =
      ⟨.offer, frameBytes station broadcast 3 [o.mask, if o.ack then 1 else 0], true, (64 + 20) * 80⟩ := by
  have length : (frameBytes station broadcast 3 [o.mask, if o.ack then 1 else 0]).length = 60 := by
    rw [frameBytes_offer]
    rfl
  have frame : ownFrame station broadcast .offer o.encode =
      frameBytes station broadcast 3 [o.mask, if o.ack then 1 else 0] := by
    rw [ownFrame_eq, o.encode_eq]
    rfl
  rw [frame, Transmission.own, length]
  rfl

/-- Settles O14: the choice of each port, and the bytes of what it starts. -/
theorem transmitChoices : Obligations.TransmitChoices := by
  refine ⟨fun station p => ⟨Ports.freeA_iff, Ports.freeB_iff, fun busy => if_neg (by rw [busy]; exact nofun),
    fun busy => if_neg (by rw [busy]; exact nofun)⟩, fun station p up idle => ?_, fun station p up idle => ?_,
    ⟨rfl, rfl, rfl, rfl, rfl, rfl, rfl, rfl, rfl⟩⟩
  · have free := Ports.freeA_iff.mpr ⟨up, idle⟩
    refine ⟨fun o waits => ?_, fun f rest empty queue => Ports.chooseA_relays station free empty queue, Ports.chooseA_nothing station⟩
    rw [Ports.chooseA_offers station free waits, offer_transmission, frameBytes_offer]
  · have free := Ports.freeB_iff.mpr ⟨up, idle⟩
    intro own
    have none_iff : p.ownItem station = none ↔ ¬own := by
      rw [Ports.ownItem_eq_none]
      simp only [own, not_or, Option.not_isSome_iff_eq_none, not_not, ne_eq]
    refine ⟨fun f rest queue turn => Ports.chooseB_passes station free queue (turn.imp_left none_iff.mpr), fun waits turn => ?_,
      fun nothing queue => Ports.chooseB_nothing station (none_iff.mpr nothing) queue⟩
    obtain ⟨y, item⟩ := Option.ne_none_iff_exists'.mp fun h => none_iff.mp h waits
    obtain ⟨fcs, hold⟩ := Ports.ownItem_own item
    refine ⟨y, Ports.chooseB_sends station free item turn, fcs, hold, fun a slot => ?_, fun n rest slot queue => ?_,
      fun slot queue => ?_⟩
    · obtain rfl := Option.some.inj (item.symm.trans (Ports.ownItem_of_answer station slot))
      exact ⟨rfl, (ownFrame_eq _ _ _ _).trans (congrArg _ a.encode_eq)⟩
    · obtain rfl := Option.some.inj (item.symm.trans (Ports.ownItem_of_notice station slot queue))
      exact ⟨rfl, n.body.encode, n.body.encode_laidOut, ownFrame_eq _ _ _ _⟩
    · have next : p.nextReport ≠ none := fun none => by
        have empty := Ports.nextReport_eq_none.mp none
        exact absurd (item.symm.trans ((Ports.ownItem_eq_none station).mpr ⟨slot, queue, empty⟩)) nofun
      obtain ⟨⟨k, report⟩, taken⟩ := Option.ne_none_iff_exists'.mp next
      obtain rfl := Option.some.inj (item.symm.trans (Ports.ownItem_of_report station slot queue taken))
      obtain ⟨held, first, second, both⟩ := Ports.nextReport_eq_some taken
      refine ⟨fun h => congrArg TxSource.report (first h), fun h => congrArg TxSource.report (second h),
        fun a b => congrArg TxSource.report (both a b), fun k' r source slot' => ?_⟩
      obtain rfl := TxSource.report.inj source
      obtain rfl := Option.some.inj (held.symm.trans slot')
      exact ⟨report.record.encode, report.record.encode_laidOut, (ownFrame_eq _ _ _ _).trans (congrArg _ report.encode_eq)⟩

end Sys2Proof.Machine
end


section
/-! SUPPORT. The pin reset and the request reset (R16, R17, R90, R108, R169, R170). -/

namespace Sys2Proof.Machine

set_option Elab.async false

open Sys2Proof

variable {s m t : State}

/-! ## What a warm reset empties -/

theorem getElem_replicate_fin {α : Type} {n : Nat} (x : α) (i : Fin n) : (Vector.replicate n x)[i] = x :=
  Vector.getElem_replicate _

theorem Wire.ended_both (w : Wire) (x y : Option Transmission) (e d : Ending) :
    (w.ended .a x e).ended .b y d = ⟨endedAs x e w.a, endedAs y d w.b⟩ := by
  cases x <;> cases y <;> rfl

theorem State.emptyOut_trackers (s : State) (cause : StartCause) (u : TrackerId) :
    (s.emptyOut cause).trackers[u] = { s.trackers[u] with handover := none } := getElem_mapVec _ _ _

theorem State.emptyOut_taps (s : State) (cause : StartCause) (tap : TapId) :
    (s.emptyOut cause).tables.taps[tap] = { s.tables.taps[tap] with staged := none } := getElem_mapVec _ _ _

theorem State.emptyOut_emptied (s : State) (cause : StartCause) : Emptied (s.emptyOut cause) cause := by
  have limits (k : LimitKind) : (⟨.normal, .normal, .normal, .normal, .normal⟩ : TapLimits).get k = ⟨false, 0⟩ := by
    cases k <;> rfl
  refine ⟨rfl, rfl, rfl, rfl, rfl, rfl, rfl, rfl, fun c => getElem_replicate_fin _ c, rfl, rfl, rfl, rfl, rfl, rfl, rfl,
    fun tap => ⟨getElem_replicate_fin _ tap, getElem_replicate_fin _ tap, getElem_replicate_fin _ tap⟩,
    fun tap => ?_, rfl, rfl, fun tap k => ⟨getElem_replicate_fin _ tap, ?_⟩, rfl, fun tap => ?_, fun u => ?_⟩
  · rw [State.emptyOut_accounts]
    exact ⟨rfl, rfl, rfl, rfl⟩
  · exact (congrArg (TapLimits.get · k) (getElem_replicate_fin _ tap)).trans (limits k)
  · rw [State.emptyOut_taps]
  · rw [State.emptyOut_trackers]

theorem State.emptyOut_registers (s : State) (cause : StartCause) : RegistersKept s (s.emptyOut cause) := by
  intro tap
  rw [State.emptyOut_accounts]
  exact ⟨rfl, rfl, rfl⟩

/-! ## The pin reset -/

/-- Settles O8: the part is emptied, and what else it holds is kept. -/
theorem pinResetAssertion : Obligations.PinResetAssertion := by
  intro s running
  have asserts : (if s.resetLine then s else s.assertReset) = s.assertReset := if_neg (by rw [running]; exact nofun)
  refine ⟨s.assertReset, next_congr asserts, rfl, s.emptyOut_emptied .pin, s.emptyOut_registers .pin, rfl, rfl, rfl,
    Wire.ended_both _ _ _ _ _, rfl, s.emptyOut_taps .pin, s.emptyOut_trackers .pin, rfl, fun tap => ?_, ?_⟩
  · change (s.emptyOut .pin).accounts[tap].blockNumber = _
    rw [State.emptyOut_accounts]
    rfl
  · intro b out
    cases b
    case straps | former | choices | pending => rfl
    all_goals exact absurd (by decide) out

/-! ## Trackers and cycle former restarted -/

/-- The state that a reset gives a tracker. -/
def resetState (u : TrackerId) (x : TrackerSettings) : TrackerState :=
  if x.enabled = false then .idle else if u = 1 ∧ x.mode = .follower then .following else .acquiring

theorem resetTracker_eq (u : TrackerId) (x : TrackerSettings) (l : Nat) :
    resetTracker u x l = .fresh (resetState u x) l := by
  unfold resetTracker resetState
  cases x.enabled
  · rfl
  · exact (apply_ite (Tracker.fresh · l) _ _ _).symm

theorem resetState_cases (u : TrackerId) (x : TrackerSettings) :
    resetState u x = .idle ∨ resetState u x = .following ∨ resetState u x = .acquiring := by
  unfold resetState
  split
  · exact .inl rfl
  · split
    · exact .inr (.inl rfl)
    · exact .inr (.inr rfl)

theorem Marks.ofState_reset {x : TrackerState} (h : x = .idle ∨ x = .following ∨ x = .acquiring) :
    Marks.ofState x = ⟨decide (x = .acquiring), false, false, decide (x = .following), false⟩ := by
  obtain rfl | rfl | rfl := h <;> rfl

/-- The fresh trackers and resamplers of a reset, in a part that the reset has otherwise settled; an IDLE tracker's
period is not read. -/
structure FreshTrackers (s t : State) : Prop where
  tracker : ∀ u : TrackerId, ∃ l, t.trackers[u] =
    .fresh (resetState u t.tables.settings[u]) l ∧ (t.trackers[u].state ≠ .idle → l = t.lnom)
  former : ∀ u : TrackerId, t.former.trackers[u] = .cleared
    (if t.trackers[u].state.isRunning then some (.start t.lnom) else none) t.tables.settings[u].written
    s.former.trackers[u].tariff
  taps : ∀ tap : TapId, t.former.taps[tap] = .cleared
    (if (t.tapEntry tap).enabled && t.makesCycles (t.tapTracker tap) then .collecting else .inactive)
  time : t.former.second = none ∧ t.former.pendingTariff = none

theorem FreshTrackers.restarted (h : FreshTrackers s t)
    (blocks : ∀ tap : TapId, t.accounts[tap].blockNumber = s.accounts[tap].blockNumber + 1) : TrackersRestarted s t := by
  refine ⟨fun u => ?_, fun tap => ?_, h.time⟩
  · obtain ⟨l, tracker, period⟩ := h.tracker u
    have state : t.trackers[u].state = resetState u t.tables.settings[u] := congrArg Tracker.state tracker
    have lfix : t.lfix u = t.lnom := by
      unfold State.lfix
      split
      · rfl
      · next active => exact (congrArg Tracker.lfix tracker).trans (period active)
    have resampler : (if t.trackers[u].state.isRunning then some (Resampler.start t.lnom) else none) =
        if t.trackers[u].state.isRunning then some ⟨0, 0, 2 ^ 39 / t.lnom, 0, t.lnom, false⟩ else none := rfl
    rw [h.former u]
    refine ⟨state, lfix, ?_, ?_, ?_, ?_, ?_, ?_, resampler, rfl, rfl, rfl, rfl, rfl, rfl⟩
    case refine_6 =>
      rw [state, tracker]
      exact Marks.ofState_reset (resetState_cases _ _)
    all_goals
      rw [tracker]
      rfl
  · rw [h.taps tap]
    refine ⟨if_congr (Bool.and_eq_true _ _ ▸ Iff.rfl) rfl rfl, rfl, rfl, rfl, rfl, blocks tap⟩

theorem State.resetTrackers_fresh (s : State) : FreshTrackers s s.resetTrackers := by
  have tracker (u : TrackerId) : s.resetTrackers.trackers[u] = resetTracker u s.tables.settings[u] s.lnom :=
    getElem_ofFn_fin _ _
  refine ⟨fun u => ⟨s.lnom, ?_, fun _ => rfl⟩, fun u => ?_, fun tap => getElem_ofFn_fin _ _, rfl, rfl⟩
  · rw [tracker, resetTracker_eq]
    rfl
  · have fresh (x : TrackerState) (l : Nat) : (if (Tracker.fresh x l).state.isRunning then
        some (Resampler.start (Tracker.fresh x l).lfix) else none) =
          if (Tracker.fresh x l).state.isRunning then some (.start l) else none := rfl
    have own : s.resetTrackers.former.trackers[u] = resetFormerTracker s.resetTrackers.trackers[u] s.tables.settings[u]
        s.former.trackers[u].tariff := getElem_ofFn_fin _ _
    rw [own, tracker, resetTracker_eq, resetFormerTracker, fresh]
    rfl

/-- What the restart of the trackers reads of the part, and what it leaves. -/
theorem FreshTrackers.congr {n : State} (h : FreshTrackers m n) (former : m.former = s.former)
    (trackers : t.trackers = n.trackers) (after : t.former = n.former) (tables : t.tables = n.tables)
    (lnom : t.lnom = n.lnom) : FreshTrackers s t := by
  have source (v : TrackerId) : t.cycleSource v = n.cycleSource v :=
    State.cycleSource_congr (s := n) (t := t) (fun w => by rw [trackers]) v
  obtain ⟨tracker, own, taps, time⟩ := h
  refine ⟨fun u => ?_, fun u => ?_, fun tap => ?_, ?_⟩
  · rw [trackers, tables, lnom]
    exact tracker u
  · rw [trackers, tables, lnom, after, ← former]
    exact own u
  · have tapTracker : t.tapTracker tap = n.tapTracker tap := State.tapTracker_congr tables tap
    unfold State.tapEntry State.makesCycles
    rw [after, tables, tapTracker, source]
    exact taps tap
  · rw [after]
    exact time

/-! ## The release -/

theorem Tables.default_taps (v : Vector (BitVec 16) 8) (tap : TapId) :
    (Tables.default v).taps[tap] = ⟨.default, v[tap], none⟩ := getElem_ofFn_fin _ _

theorem State.atPowerOn_entry (tap : TapId) : (State.atPowerOn 0 .hz50).tables.taps[tap].entry = .default :=
  congrArg TapSlot.entry (Tables.default_taps _ tap)

/-- Settles O9: tables and settings by default, LISTEN entered, and the trackers restarted. -/
theorem pinResetRelease : Obligations.PinResetRelease := by
  intro s asserted
  let d := ((s.setTables (.default (mapVec (fun slot => slot.generation + 1) s.tables.taps))).setResetLine
    false).setAgreement (.cleared .negotiate 0xFF 0 0)
  let b := d.resetTrackers.advanceAllBlocks
  have restart := d.restartTrackers_frame
  obtain ⟨frame, agreement, holds, ports⟩ := State.enterListen_enters (s := b) (restart.get .resetLine)
  have offered : b.offered false =
      Ports.chooseA s.straps.station { s.ports with offer := s.ports.offer.place ⟨0xFF, false⟩ } := rfl
  have tables : s.releaseReset.tables = .default (mapVec (fun slot => slot.generation + 1) s.tables.taps) :=
    s.releaseReset_tables
  have accounts (tap : TapId) : s.releaseReset.accounts[tap] =
      { s.accounts[tap] with blockNumber := s.accounts[tap].blockNumber + 1 } := by
    have same : s.releaseReset.accounts = b.accounts := frame.get .accounts
    rw [same]
    exact d.resetTrackers.advanceAllBlocks_accounts tap
  have fresh : FreshTrackers s s.releaseReset := by
    refine d.resetTrackers_fresh.congr rfl (frame.get .trackers) (frame.get .former) (frame.get .tables) ?_
    have straps : s.releaseReset.straps = s.straps := frame.get .straps
    have profile : s.releaseReset.agreement.profile = 0 := congrArg Agreement.profile agreement
    unfold State.lnom
    rw [straps, profile]
    rfl
  have started : s.releaseReset.ports =
      Ports.chooseA s.straps.station { s.ports with offer := s.ports.offer.place ⟨0xFF, false⟩ } := ports.trans offered
  refine ⟨s.releaseReset, exec_pinResetRelease_of_asserted asserted, frame.get .resetLine,
    fresh.restarted fun tap => congrArg TapAccount.blockNumber (accounts tap), accounts, ?_, ?_, ?_, ?_, ?_,
    fun tap => ?_, agreement, started, holds, ?_, ?_, ?_⟩
  case refine_6 =>
    rw [tables, State.atPowerOn_entry, Tables.default_taps, getElem_mapVec]
  case refine_7 | refine_8 =>
    rw [started]
    simp only [Ports.chooseA_linkA, Ports.chooseA_linkB]
  case refine_9 =>
    have before : SameOutside [.tables, .resetLine, .agreement] s d :=
      ((s.setTables_frame _).andThen (State.setResetLine_frame _ _) (n := [.tables, .resetLine])).andThen
        (State.setAgreement_frame _ _)
    exact (before.andThen restart (n := [.tables, .resetLine, .agreement, .trackers, .former, .accounts])).andThen frame
  all_goals
    rw [tables]
    rfl

end Sys2Proof.Machine
end


section
/-! SUPPORT. The request reset at the end of the answer to RESET (R17, R33, R169). -/

namespace Sys2Proof.Machine

set_option Elab.async false

open Sys2Proof

variable {s m n t : State}

/-! ## Restarted trackers through the entry into AGREED(fixed code) -/

/-- A restarted tracker brought to another rate is a tracker restarted at that rate. -/
theorem Tracker.fresh_rated {x : TrackerState} (h : x = .idle ∨ x = .following ∨ x = .acquiring) (l lnom : Nat) :
    (Tracker.fresh x l).rated lnom = .fresh x (if x = .idle then l else lnom) := by
  obtain rfl | rfl | rfl := h <;> rfl

theorem FreshTrackers.changeRate (h : FreshTrackers s n) (trackers : m.trackers = n.trackers)
    (former : m.former = n.former) (tables : m.tables = n.tables) : FreshTrackers s m.changeRate := by
  have frame := m.changeRate_frame
  have lnom := m.changeRate_lnom
  have tables' : m.changeRate.tables = n.tables := (frame.get .tables).trans tables
  obtain ⟨taps, second, tariff⟩ := m.changeRate_clock
  have tracker (u : TrackerId) : ∃ l, n.trackers[u] = .fresh (resetState u n.tables.settings[u]) l ∧
      m.changeRate.trackers[u] = .fresh (resetState u n.tables.settings[u])
        (if resetState u n.tables.settings[u] = .idle then l else m.lnom) := by
    obtain ⟨l, own, -⟩ := h.tracker u
    refine ⟨l, own, ?_⟩
    rw [State.changeRate_trackers, trackers, own, Tracker.fresh_rated (resetState_cases _ _)]
  have state (u : TrackerId) : m.changeRate.trackers[u].state = n.trackers[u].state := by
    obtain ⟨l, before, after⟩ := tracker u
    rw [before, after]
    rfl
  refine ⟨fun u => ?_, fun u => ?_, fun tap => ?_, ?_⟩
  · obtain ⟨l, -, after⟩ := tracker u
    rw [tables', lnom]
    refine ⟨_, after, fun active => if_neg ?_⟩
    rw [after] at active
    exact active
  · obtain ⟨l, before, after⟩ := tracker u
    have rated : m.trackers[u].rated m.lnom = m.changeRate.trackers[u] := (m.changeRate_trackers u).symm
    rw [State.changeRate_former, former, h.former u, tables', lnom, state u, rated, after, before]
    cases reset : resetState u n.tables.settings[u] <;> rfl
  · have source (v : TrackerId) := State.cycleSource_congr (s := n) (t := m.changeRate) state v
    have tapTracker : m.changeRate.tapTracker tap = n.tapTracker tap := State.tapTracker_congr tables' tap
    rw [taps, former, h.taps tap]
    unfold State.tapEntry State.makesCycles
    rw [tapTracker, source, tables']
  · rw [second, tariff, former]
    exact h.time

/-- No notice handed over changes nothing. -/
theorem HandedOver.eq_of_nil {p q : Ports} {x y : Latches} (h : HandedOver s p x q y []) : q = p ∧ y = x := by
  obtain ⟨tx, turn⟩ := h.sending (.inr (.inr (.inr (.inr rfl))))
  have ports := h.ports
  have latches := h.latches
  rw [queueNotices_nil, tx, turn] at ports
  refine ⟨ports, latches.trans ?_⟩
  simp

theorem FreshTrackers.rateNotices (h : FreshTrackers s n) (trackers : m.trackers = n.trackers) (lnom : Nat) :
    rateNotices m lnom = [] := by
  have silent (u : TrackerId) : rateNotice m lnom u = [] := by
    obtain ⟨l, own, -⟩ := h.tracker u
    have state : m.trackers[u].state = resetState u n.tables.settings[u] := by
      rw [trackers, own]
      rfl
    refine if_neg ?_
    rw [state]
    obtain reset | reset | reset := resetState_cases u n.tables.settings[u] <;> rw [reset] <;> decide
  rw [rateNotices_eq, silent, silent]
  rfl

/-- The entry into AGREED of a part whose trackers were just restarted: no notice, and the trackers at the new rate. -/
theorem FreshTrackers.enterAgreed (h : FreshTrackers s n) (p : ProfileCode) :
    FreshTrackers s (n.enterAgreed p none) ∧ (n.enterAgreed p none).ports = n.ports.withdrawn ∧
    (n.enterAgreed p none).latches = n.latches := by
  obtain ⟨m, frame, agreement, -, noticed, eq⟩ := n.enterAgreed_from p none
  obtain ⟨ports, latches⟩ := noticed.eq_of_nil
  have trackers : m.trackers = n.trackers := frame.get .trackers
  have former : m.former = n.former := frame.get .former
  have tables : m.tables = n.tables := frame.get .tables
  rw [eq]
  split
  · have rated := m.changeRate_noticed
    rw [h.rateNotices trackers] at rated
    obtain ⟨ports', latches'⟩ := HandedOver.eq_of_nil rated
    exact ⟨h.changeRate trackers former tables, ports'.trans ports, latches'.trans latches⟩
  · next same =>
    have lnom : m.lnom = n.lnom := by
      have straps : m.straps = n.straps := frame.get .straps
      unfold State.lnom nominalPeriod
      rw [straps, agreement]
      exact congrArg (fun r => r * 65536 / _) (Decidable.not_not.mp same).symm
    exact ⟨h.congr (m := s) rfl trackers former tables lnom, ports, latches⟩

/-! ## The request reset -/

/-- The request reset before it enters LISTEN or AGREED(fixed code). -/
def State.requestRestart (m : State) : State :=
  ((m.emptyOut .request).setAgreement (.cleared m.agreement.mode m.agreement.acceptMask m.agreement.fixedCode
    m.agreement.profile)).resetTrackers.advanceAllBlocks

theorem State.requestReset_negotiate (mode : m.agreement.mode = .negotiate) :
    m.requestReset = m.requestRestart.enterListen := by
  unfold State.requestReset
  rw [mode]
  exact congrArg (fun x => State.enterListen (((m.emptyOut .request).setAgreement (.cleared x m.agreement.acceptMask
    m.agreement.fixedCode m.agreement.profile)).resetTrackers.advanceAllBlocks)) mode.symm

theorem State.requestReset_fixed (mode : m.agreement.mode = .fixed) :
    m.requestReset = m.requestRestart.enterAgreed m.agreement.fixedCode none := by
  unfold State.requestReset
  rw [mode]
  exact congrArg (fun x => State.enterAgreed (((m.emptyOut .request).setAgreement (.cleared x m.agreement.acceptMask
    m.agreement.fixedCode m.agreement.profile)).resetTrackers.advanceAllBlocks) m.agreement.fixedCode none) mode.symm

theorem State.requestRestart_fresh (m : State) : FreshTrackers m m.requestRestart :=
  (State.resetTrackers_fresh ((m.emptyOut .request).setAgreement (.cleared m.agreement.mode m.agreement.acceptMask
    m.agreement.fixedCode m.agreement.profile))).congr rfl rfl rfl rfl rfl

theorem State.requestRestart_accounts (m : State) (tap : TapId) : m.requestRestart.accounts[tap] =
    { m.accounts[tap].warmReset with blockNumber := m.accounts[tap].blockNumber + 1 } := by
  refine (State.advanceAllBlocks_accounts _ tap).trans ?_
  change ({ (m.emptyOut .request).accounts[tap] with
    blockNumber := (m.emptyOut .request).accounts[tap].blockNumber + 1 } : TapAccount) = _
  rw [State.emptyOut_accounts]
  rfl

/-- What the request reset makes of a part whose port B has ended its answer. -/
structure RequestReset (m t : State) : Prop where
  ports : ∃ a o, t.ports = { Ports.cleared m.ports.linkA m.ports.linkB with txA := a, offer := o }
  latches : t.latches = .cleared
  intake : t.intake = .cleared
  fresh : FreshTrackers m t
  accounts : ∀ tap : TapId, t.accounts[tap] =
    { m.accounts[tap].warmReset with blockNumber := m.accounts[tap].blockNumber + 1 }

theorem RequestReset.emptied (h : RequestReset m t) (frame : SameOutside (.accounts :: agreementBlocks)
    (m.emptyOut .request) t) : Emptied t .request := by
  obtain ⟨-, -, -, -, -, -, -, -, current, -, -, -, -, -, -, -, engine, -, -, -, records, -, staged, -⟩ :=
    m.emptyOut_emptied .request
  obtain ⟨a, o, ports⟩ := h.ports
  have engines : t.engine = (m.emptyOut .request).engine := frame.get .engine
  have recorded : t.records = (m.emptyOut .request).records := frame.get .records
  have tables : t.tables = (m.emptyOut .request).tables := frame.get .tables
  refine ⟨?_, ?_, ?_, ?_, ?_, ?_, ?_, h.latches, fun c => ?_, ?_, ?_, ?_, ?_, ?_, ?_, ?_, fun tap => ?_, fun tap => ?_,
    ?_, ?_, fun tap k => ?_, frame.get .management, fun tap => ?_, fun u => ?_⟩
  case refine_8 => rw [h.intake]; exact current c
  case refine_16 => rw [engines]; exact engine tap
  case refine_17 => rw [h.accounts]; exact ⟨rfl, rfl, rfl, rfl⟩
  case refine_20 => rw [recorded]; exact records tap k
  case refine_21 => rw [tables]; exact staged tap
  case refine_22 =>
    obtain ⟨l, tracker, -⟩ := h.fresh.tracker u
    rw [tracker]
    rfl
  case refine_9 | refine_10 | refine_11 | refine_12 => rw [h.intake]; rfl
  case refine_13 | refine_14 | refine_15 => rw [engines]; rfl
  case refine_18 | refine_19 => rw [recorded]; rfl
  all_goals rw [ports]; rfl

theorem State.requestReset_listens (running : m.resetLine = false) (mode : m.agreement.mode = .negotiate) :
    RequestReset m m.requestReset ∧
    m.requestReset.agreement = { m.agreement.restart m.agreement.mode m.agreement.acceptMask m.agreement.fixedCode with
      state := .listen, adoptionCode := 0, offerTimer := .running 10 } ∧
    m.requestReset.ports = Ports.chooseA m.straps.station
      { Ports.cleared m.ports.linkA m.ports.linkB with offer := .waiting ⟨m.agreement.acceptMask, false⟩ } := by
  obtain ⟨frame, agreement, -, ports⟩ := State.enterListen_enters (s := m.requestRestart) running
  have offered : m.requestRestart.offered false = Ports.chooseA m.straps.station
    { Ports.cleared m.ports.linkA m.ports.linkB with offer := .waiting ⟨m.agreement.acceptMask, false⟩ } := rfl
  have lnom : m.requestRestart.enterListen.lnom = m.requestRestart.lnom := by
    have straps : m.requestRestart.enterListen.straps = m.requestRestart.straps := frame.get .straps
    unfold State.lnom
    rw [straps, agreement]
    rfl
  rw [State.requestReset_negotiate mode]
  refine ⟨⟨⟨_, _, (ports.trans offered).trans (Ports.chooseA_eq _ _)⟩, frame.get .latches, frame.get .intake,
    m.requestRestart_fresh.congr rfl (frame.get .trackers) (frame.get .former) (frame.get .tables) lnom, fun tap => ?_⟩,
    agreement, ports.trans offered⟩
  have accounts : m.requestRestart.enterListen.accounts = m.requestRestart.accounts := frame.get .accounts
  rw [accounts]
  exact m.requestRestart_accounts tap

theorem State.requestReset_agrees (mode : m.agreement.mode = .fixed) : RequestReset m m.requestReset ∧
    m.requestReset.agreement = { m.agreement.restart m.agreement.mode m.agreement.acceptMask m.agreement.fixedCode with
      state := .agreed m.agreement.fixedCode, profile := m.agreement.fixedCode, adoptionCode := 0 } ∧
    m.requestReset.ports = Ports.cleared m.ports.linkA m.ports.linkB := by
  obtain ⟨frame, agreement, enters⟩ := m.requestRestart.enterAgreed_enters m.agreement.fixedCode none
  obtain ⟨fresh, ports, latches⟩ := m.requestRestart_fresh.enterAgreed m.agreement.fixedCode
  have cleared : m.requestRestart.ports.withdrawn = Ports.cleared m.ports.linkA m.ports.linkB := rfl
  rw [State.requestReset_fixed mode]
  refine ⟨⟨⟨none, .empty, ports.trans cleared⟩, latches, enters.intake, fresh, fun tap => ?_⟩, agreement,
    ports.trans cleared⟩
  have accounts : (m.requestRestart.enterAgreed m.agreement.fixedCode none).accounts = m.requestRestart.accounts :=
    frame.get .accounts
  rw [accounts]
  exact m.requestRestart_accounts tap

/-- The end of the answer to RESET, normal or cut off, before the request reset. -/
theorem exec_endOfAnswer {c : Instr} {x : Transmission} (running : s.resetLine = false)
    (waits : s.management.resetWaiting = true) (sending : s.ports.txB = some x) (source : x.source = .answer)
    (command : c = .transmissionEnd .b ∨ c = .linkDown .b) : ∃ m, exec c s = .next m.requestReset ∧
      SameOutside [.ports, .wire] s m ∧
      m.wire = { s.wire with b := some ⟨x, if c = .linkDown .b then .cutOff else .normal⟩ } ∧
      m.ports.txA = s.ports.txA ∧ m.ports.txB = none ∧ m.ports.linkA = s.ports.linkA ∧
      m.ports.linkB = if c = .linkDown .b then .down else s.ports.linkB := by
  obtain rfl | rfl := command
  · let m := (s.setPorts s.ports.finishB).setWire (s.wire.ended .b s.ports.txB .normal)
    have ports : m.ports = { s.ports with txB := none, answerSlot := none } := Ports.finishB_answer sending source
    refine ⟨m, next_congr (State.endTransmissionB_resets running waits sending source .normal),
      (s.setPorts_frame _).andThen (State.setWire_frame _ _), ?_, ?_, ?_, ?_, ?_⟩
    · change s.wire.ended .b s.ports.txB .normal = _
      rw [sending]
      rfl
    all_goals rw [ports]
    rfl
  · let d := s.setPorts { s.ports with linkB := .down }
    let m := (d.setPorts d.ports.finishB).setWire (d.wire.ended .b d.ports.txB .cutOff)
    have ports : m.ports = { s.ports with linkB := .down, txB := none, answerSlot := none } :=
      Ports.finishB_answer (p := { s.ports with linkB := .down }) sending source
    refine ⟨m, next_congr (State.endTransmissionB_resets (s := d) running waits sending source .cutOff),
      ((s.setPorts_frame _).trans (State.setPorts_frame _ _)).andThen (State.setWire_frame _ _), ?_, ?_, ?_, ?_, ?_⟩
    · change s.wire.ended .b s.ports.txB .cutOff = _
      rw [sending]
      rfl
    all_goals rw [ports]
    rfl

theorem State.emptyOut_frame (s : State) (cause : StartCause) : SameOutside [.ports, .wire, .latches, .tables, .intake,
    .trackers, .engine, .accounts, .records, .management] s (s.emptyOut cause) := by
  intro b out
  cases b
  case straps | resetLine | agreement | former | choices | pending => rfl
  all_goals exact absurd (by decide) out

/-- Port A's choice on emptied ports: the first OFFER of LISTEN, where the link is UP. -/
theorem Ports.chooseA_first (station : BitVec 6) (a b : Link) (mask : BitVec 8) :
    let p := Ports.chooseA station { Ports.cleared a b with offer := .waiting ⟨mask, false⟩ }
    p.offer = (if a = .up then .sending ⟨mask, false⟩ else .waiting ⟨mask, false⟩) ∧
    p.txA = if a = .up then some ⟨.offer, frameBytes station broadcast 3 [mask, 0], true, (64 + 20) * 80⟩ else none := by
  intro p
  cases a with
  | down => exact ⟨rfl, rfl⟩
  | up =>
    have offers : p = { { Ports.cleared .up b with offer := .waiting ⟨mask, false⟩ } with
        offer := .sending ⟨mask, false⟩
        txA := some (.own .offer (ownFrame station broadcast .offer (Offer.encode ⟨mask, false⟩))) } :=
      Ports.chooseA_offers station rfl rfl
    rw [offers, offer_transmission]
    exact ⟨rfl, rfl⟩

/-- Settles O10: the part emptied, then LISTEN or AGREED(fixed code). -/
theorem requestResetAtEndOfAnswer : Obligations.RequestResetAtEndOfAnswer := by
  intro s x c running waits sending source command
  obtain ⟨m, resets, moved, wire, txA, txB, linkA, linkB⟩ := exec_endOfAnswer running waits sending source command
  have frame := m.requestReset_frame
  have agreement : m.agreement = s.agreement := moved.get .agreement
  have accounts : m.accounts = s.accounts := moved.get .accounts
  have former : m.former = s.former := moved.get .former
  have tables : m.requestReset.tables = s.tables.discardStaged :=
    m.requestReset_tables.trans (congrArg Tables.discardStaged (moved.get .tables))
  have waits' : m.agreement.mode = .negotiate ∨ m.agreement.mode = .fixed := by cases m.agreement.mode <;> simp
  have line : m.resetLine = false := (moved.get .resetLine).trans running
  have reset : RequestReset m m.requestReset := waits'.elim (fun mode => (State.requestReset_listens line mode).1)
    fun mode => (State.requestReset_agrees mode).1
  have account (tap : TapId) : m.requestReset.accounts[tap] =
      { s.accounts[tap].warmReset with blockNumber := s.accounts[tap].blockNumber + 1 } := by
    rw [← accounts]
    exact reset.accounts tap
  have fresh : FreshTrackers s m.requestReset := reset.fresh.congr former rfl rfl rfl rfl
  obtain ⟨a, o, ports⟩ := reset.ports
  refine ⟨m.requestReset, resets, reset.emptied frame, fresh.restarted fun tap => ?_, fun tap => ?_, ?_, ?_, ?_, ?_, ?_, ?_,
    ?_, ?_, fun tap => ?_, ?_⟩
  · rw [account]
  · rw [account]
    exact ⟨rfl, rfl, rfl⟩
  · have ended : m.requestReset.wire = (m.emptyOut .request).wire := frame.get .wire
    rw [ended]
    refine (Wire.ended_both _ _ _ _ _).trans ?_
    rw [txA, txB, wire]
    rfl
  · rw [ports]
    exact linkA
  · rw [ports]
    exact linkB
  · rw [tables]; rfl
  · rw [tables]; rfl
  · rw [tables]; rfl
  · rw [tables]; rfl
  · rw [tables]; rfl
  · rw [tables]
    exact getElem_mapVec _ _ _
  have kept : SameOutside [.ports, .wire, .latches, .agreement, .tables, .intake, .trackers, .former, .engine, .accounts,
      .records, .management] s m.requestReset := (moved.andThen (m.emptyOut_frame .request) (n := [.ports, .wire, .latches,
    .tables, .intake, .trackers, .engine, .accounts, .records, .management])).andThen frame
  obtain mode | mode := waits'
  · obtain ⟨-, after, offered⟩ := State.requestReset_listens line mode
    have offer := Ports.chooseA_first m.straps.station m.ports.linkA m.ports.linkB m.agreement.acceptMask
    rw [← offered, moved.get .straps, linkA, agreement] at offer
    rw [after, agreement]
    rw [agreement] at mode
    exact ⟨rfl, rfl, rfl, rfl, fun _ => ⟨rfl, rfl, rfl, offer⟩, fun fixed => absurd (mode.symm.trans fixed) nofun, kept⟩
  · obtain ⟨-, after, cleared⟩ := State.requestReset_agrees mode
    rw [after, agreement, cleared]
    rw [agreement] at mode
    exact ⟨rfl, rfl, rfl, rfl, fun other => absurd (mode.symm.trans other) nofun, fun _ => ⟨rfl, rfl, rfl, rfl, rfl⟩, kept⟩

end Sys2Proof.Machine
end


section
/-! SUPPORT. The arithmetic of crossings, of the period filter and of the interpolation of a point (R67 to R69, R92). -/

namespace Sys2Proof.Machine

set_option Elab.async false

open Sys2Proof

/-! ## Crossing times (R67) -/

theorem crossing_fraction {previous x : Int} (below : previous < 0) (above : 0 ≤ x) :
    let q := -previous * 65536 / (x - previous)
    0 ≤ q ∧ q ≤ 65536 ∧ q * (x - previous) ≤ -previous * 65536 ∧ -previous * 65536 < (q + 1) * (x - previous) ∧
      (x = 0 → q = 65536) := by
  intro q
  have positive : 0 < x - previous := by omega
  have quotient : (x - previous) * q + -previous * 65536 % (x - previous) = -previous * 65536 :=
    Int.mul_ediv_add_emod _ _
  have range := Int.emod_nonneg (-previous * 65536) positive.ne'
  have small := Int.emod_lt_of_pos (-previous * 65536) positive
  refine ⟨Int.ediv_nonneg (by omega) positive.le, Int.ediv_le_of_le_mul positive (by nlinarith), ?_, ?_, ?_⟩
  · have order : q * (x - previous) = (x - previous) * q := mul_comm _ _
    omega
  · have order : (q + 1) * (x - previous) = (x - previous) * q + (x - previous) := by ring
    omega
  · rintro rfl
    have whole : -previous * 65536 = 65536 * (0 - previous) := by ring
    exact (congrArg (· / _) whole).trans (Int.mul_ediv_cancel _ positive.ne')

/-! ## The period filter (R69) -/

theorem clampInt_eq {lo hi : Int} (h : lo ≤ hi) (z : Int) : clampInt lo hi z = max lo (min hi z) := by
  unfold clampInt
  split
  · omega
  · split <;> omega

theorem filterPeriod_up {lnom lfix m : Nat} (low : 7 * lnom ≤ 8 * lfix) (high : 8 * lfix ≤ 9 * lnom) (h : lfix ≤ m) :
    filterPeriod lnom lfix m = min (9 * lnom / 8) (lfix + (m - lfix) / 8) := by
  have step : ((m : Int) - lfix).tdiv 8 = ((m - lfix) / 8 : Nat) := by
    rw [Int.tdiv_eq_ediv_of_nonneg (by omega)]
    omega
  have above : (7 * lnom + 7) / 8 ≤ lfix := by omega
  have below : lfix ≤ 9 * lnom / 8 := by omega
  unfold filterPeriod bandLow bandHigh
  rw [step, clampInt_eq (by omega)]
  generalize (7 * lnom + 7) / 8 = lo at *
  generalize 9 * lnom / 8 = hi at *
  omega

theorem filterPeriod_down {lnom lfix m : Nat} (low : 7 * lnom ≤ 8 * lfix) (high : 8 * lfix ≤ 9 * lnom) (h : m ≤ lfix) :
    filterPeriod lnom lfix m = max ((7 * lnom + 7) / 8) (lfix - (lfix - m) / 8) := by
  have step : ((m : Int) - lfix).tdiv 8 = -((lfix - m) / 8 : Nat) := by
    rw [show ((m : Int) - lfix) = -((lfix : Int) - m) by omega, Int.neg_tdiv, Int.tdiv_eq_ediv_of_nonneg (by omega)]
    omega
  have above : (7 * lnom + 7) / 8 ≤ lfix := by omega
  have below : lfix ≤ 9 * lnom / 8 := by omega
  unfold filterPeriod bandLow bandHigh
  rw [step, clampInt_eq (by omega)]
  generalize (7 * lnom + 7) / 8 = lo at *
  generalize 9 * lnom / 8 = hi at *
  omega

/-! ## A point between two samples (R92) -/

/-- A rounded fraction of a difference lies between 0 and the difference. -/
theorem roundDiv_between (d : Int) {num inc : Nat} (positive : 0 < inc) (h : num ≤ inc) :
    min 0 d ≤ roundDiv (d * num) inc ∧ roundDiv (d * num) inc ≤ max 0 d ∧ (num = inc → roundDiv (d * num) inc = d) := by
  obtain ⟨nearest, -⟩ := roundDiv_nearest (d * num) positive
  generalize roundDiv (d * num) inc = r at nearest ⊢
  have step : (0 : Int) < inc := by exact_mod_cast positive
  have part : (0 : Int) ≤ num := by positivity
  have whole : (num : Int) ≤ inc := by exact_mod_cast h
  have error : -(inc : Int) ≤ 2 * (d * num - r * inc) ∧ 2 * (d * num - r * inc) ≤ inc := by omega
  refine ⟨?_, ?_, ?_⟩
  · by_contra less
    obtain sign | sign := le_total 0 d
    · have below : r ≤ -1 := by omega
      nlinarith [mul_nonneg sign part]
    · have below : r ≤ d - 1 := by omega
      nlinarith [mul_le_mul_of_nonpos_left whole sign]
  · by_contra more
    obtain sign | sign := le_total 0 d
    · have above : d + 1 ≤ r := by omega
      nlinarith [mul_le_mul_of_nonneg_left whole sign]
    · have above : 1 ≤ r := by omega
      nlinarith [mul_nonneg (neg_nonneg.mpr sign) part]
  · rintro rfl
    by_contra other
    obtain less | more := lt_or_gt_of_ne other
    · have below : r ≤ d - 1 := by omega
      nlinarith
    · have above : d + 1 ≤ r := by omega
      nlinarith

/-! ## The statement -/

/-- Settles O32: the table of profiles, crossings, the filter and the interpolation. -/
theorem measurementArithmetic : Obligations.MeasurementArithmetic := by
  refine ⟨⟨by decide, by decide, by decide, by decide, fun s => ⟨rfl, fun u => rfl⟩⟩, fun n previous x below above => ?_,
    fun lnom l t => ⟨rfl, fun early => if_pos early, fun late => ?_, fun low high => ?_⟩,
    fun lnom lfix m low high => ⟨filterPeriod_up low high, filterPeriod_down low high⟩,
    fun previous x num inc positive fits => ?_⟩
  · obtain ⟨nonneg, top, floor, next, zero⟩ := crossing_fraction below above
    refine ⟨(-previous * 65536 / (x - previous)).toNat, by omega, rfl, ?_, ?_, fun touches => ?_⟩
    · rwa [Int.toNat_of_nonneg nonneg]
    · rwa [Int.toNat_of_nonneg nonneg]
    · rw [zero touches]
      rfl
  · exact (if_neg (by omega)).trans (if_pos late)
  · exact (if_neg (by omega)).trans (if_neg (by omega))
  · obtain ⟨low, high, -⟩ := roundDiv_between (x - previous) positive fits
    obtain ⟨nearest, -⟩ := roundDiv_nearest ((x - previous) * num) positive
    obtain ⟨-, -, end_⟩ := roundDiv_between (x - previous) positive (le_refl inc)
    unfold interpolate
    refine ⟨by omega, by omega, ?_, by rw [end_ rfl]; omega⟩
    rw [add_sub_cancel_left]
    omega

end Sys2Proof.Machine
end


section
/-! SUPPORT. The cosine table against the real cosine (R112), by an integer rotation in steps of pi / 64. -/

namespace Sys2Proof.Machine

set_option Elab.async false

open Sys2Proof

/-! ## The cosine and the sine of the step, to a unit in 10^12 -/

theorem sqrt_near {x : ℝ} {a b d : ℕ} (low : (a : ℝ) ≤ 10 ^ 12 * x) (high : 10 ^ 12 * x ≤ a + 2)
    (below : b * b ≤ a * 10 ^ 12) (above : (a + 2) * 10 ^ 12 ≤ (b + d) * (b + d)) :
    (b : ℝ) ≤ 10 ^ 12 * √x ∧ 10 ^ 12 * √x ≤ b + d := by
  have scaled : (10 : ℝ) ^ 12 * √x = √(10 ^ 24 * x) := by
    rw [Real.sqrt_mul (by positivity), show (10 : ℝ) ^ 24 = (10 ^ 12) ^ 2 by norm_num, Real.sqrt_sq (by positivity)]
  have lower : (b * b : ℝ) ≤ a * 10 ^ 12 := by exact_mod_cast below
  have upper : ((a + 2) * 10 ^ 12 : ℝ) ≤ (b + d) * (b + d) := by exact_mod_cast above
  rw [scaled]
  exact ⟨Real.le_sqrt_of_sq_le (by nlinarith), Real.sqrt_le_iff.mpr ⟨by positivity, by nlinarith⟩⟩

/-- One more level of the half-angle roots √(2 + √(2 + …)). -/
theorem sqrtTwoAddSeries_near {n a b : ℕ} (below : b * b ≤ (2 * 10 ^ 12 + a) * 10 ^ 12)
    (above : (2 * 10 ^ 12 + a + 2) * 10 ^ 12 ≤ (b + 2) * (b + 2))
    (h : (a : ℝ) ≤ 10 ^ 12 * Real.sqrtTwoAddSeries 0 n ∧ 10 ^ 12 * Real.sqrtTwoAddSeries 0 n ≤ a + 2) :
    (b : ℝ) ≤ 10 ^ 12 * Real.sqrtTwoAddSeries 0 (n + 1) ∧ 10 ^ 12 * Real.sqrtTwoAddSeries 0 (n + 1) ≤ b + 2 :=
  sqrt_near (a := 2 * 10 ^ 12 + a) (d := 2) (by push_cast; linarith [h.1]) (by push_cast; linarith [h.2]) below above

theorem sqrtTwoAddSeries_four_near : (1990369453344 : ℝ) ≤ 10 ^ 12 * Real.sqrtTwoAddSeries 0 4 ∧
    10 ^ 12 * Real.sqrtTwoAddSeries 0 4 ≤ 1990369453344 + 2 := by
  have zero : ((0 : ℕ) : ℝ) ≤ 10 ^ 12 * Real.sqrtTwoAddSeries 0 0 ∧
      10 ^ 12 * Real.sqrtTwoAddSeries 0 0 ≤ ((0 : ℕ) : ℝ) + 2 := by simp
  have one := sqrtTwoAddSeries_near (b := 1414213562373) (by norm_num) (by norm_num) zero
  have two := sqrtTwoAddSeries_near (b := 1847759065022) (by norm_num) (by norm_num) one
  have three := sqrtTwoAddSeries_near (b := 1961570560806) (by norm_num) (by norm_num) two
  exact_mod_cast sqrtTwoAddSeries_near (b := 1990369453344) (by norm_num) (by norm_num) three

theorem cos_pi_div_64_near : |10 ^ 12 * Real.cos (Real.pi / 64) - 998795456205| ≤ 1 := by
  have five := sqrtTwoAddSeries_near (a := 1990369453344) (b := 1997590912410) (by norm_num) (by norm_num)
    (by exact_mod_cast sqrtTwoAddSeries_four_near)
  have root := Real.cos_pi_over_two_pow 5
  norm_num at root five
  rw [root, abs_le]
  constructor <;> linarith [five.1, five.2]

theorem sin_pi_div_64_near : |10 ^ 12 * Real.sin (Real.pi / 64) - 49067674328| ≤ 7 := by
  have four := sqrtTwoAddSeries_four_near
  have difference := sqrt_near (x := 2 - Real.sqrtTwoAddSeries 0 4) (a := 9630546654) (b := 98135348645) (d := 24)
    (by push_cast; linarith [four.2]) (by push_cast; linarith [four.1]) (by norm_num) (by norm_num)
  have root := Real.sin_pi_over_two_pow_succ 4
  norm_num at root difference
  rw [root, abs_le]
  constructor <;> linarith [difference.1, difference.2]

/-! ## The rotation -/

/-- The integer rotation by pi / 64 at the scale 10^12. -/
def rotate (w : Int × Int) : Int × Int :=
  ((w.1 * 998795456205 - w.2 * 49067674328) / 10 ^ 12, (w.1 * 49067674328 + w.2 * 998795456205) / 10 ^ 12)

/-- Near 10^12 (cos, sin) of 2 pi m / 128. -/
def rotations : Nat → Int × Int
  | 0 => (10 ^ 12, 0)
  | m + 1 => rotate (rotations m)

/-- A pair of integers as a complex number. -/
def complexOf (w : Int × Int) : ℂ := ⟨w.1, w.2⟩

/-- The rotation's step at the scale 10^12. -/
def turn : ℂ := ⟨998795456205, 49067674328⟩

theorem ofReal_scale : (10 : ℂ) ^ 12 = ((10 ^ 12 : ℝ) : ℂ) := by push_cast; rfl

theorem floor_near (z : Int) : |(z : ℝ) - 10 ^ 12 * ((z / 10 ^ 12 : Int) : ℝ)| ≤ 10 ^ 12 := by
  have parts : 10 ^ 12 * (z / 10 ^ 12) + z % 10 ^ 12 = z := Int.mul_ediv_add_emod _ _
  have real : (10 ^ 12 : ℝ) * ((z / 10 ^ 12 : Int) : ℝ) + ((z % 10 ^ 12 : Int) : ℝ) = z := by exact_mod_cast parts
  have low : (0 : ℝ) ≤ ((z % 10 ^ 12 : Int) : ℝ) := by exact_mod_cast Int.emod_nonneg z (by norm_num)
  have high : ((z % 10 ^ 12 : Int) : ℝ) ≤ 10 ^ 12 := by exact_mod_cast (Int.emod_lt_of_pos z (by norm_num)).le
  generalize (((z / 10 ^ 12 : Int) : ℝ)) = q at real ⊢
  rw [abs_le]
  constructor <;> linarith

theorem rotate_near (w : Int × Int) : ‖complexOf w * turn - 10 ^ 12 * complexOf (rotate w)‖ ≤ 2 * 10 ^ 12 := by
  have re := floor_near (w.1 * 998795456205 - w.2 * 49067674328)
  have im := floor_near (w.1 * 49067674328 + w.2 * 998795456205)
  refine (Complex.norm_le_abs_re_add_abs_im _).trans ?_
  rw [ofReal_scale, Complex.sub_re, Complex.sub_im, Complex.re_ofReal_mul, Complex.im_ofReal_mul]
  simp only [complexOf, turn, rotate, Complex.mul_re, Complex.mul_im]
  push_cast at re im ⊢
  linarith

theorem norm_turn_le : ‖turn‖ ≤ 10 ^ 12 := by
  rw [← Real.sqrt_sq (norm_nonneg turn), Complex.sq_norm, Complex.normSq_apply]
  exact Real.sqrt_le_iff.mpr ⟨by norm_num, by norm_num [turn]⟩

theorem turn_near : ‖10 ^ 12 * Complex.exp (↑(Real.pi / 64) * Complex.I) - turn‖ ≤ 8 := by
  refine (Complex.norm_le_abs_re_add_abs_im _).trans ?_
  rw [ofReal_scale, Complex.sub_re, Complex.sub_im, Complex.re_ofReal_mul, Complex.im_ofReal_mul, Complex.exp_ofReal_mul_I_re,
    Complex.exp_ofReal_mul_I_im]
  have re : |10 ^ 12 * Real.cos (Real.pi / 64) - turn.re| ≤ 1 := cos_pi_div_64_near
  have im : |10 ^ 12 * Real.sin (Real.pi / 64) - turn.im| ≤ 7 := sin_pi_div_64_near
  linarith

/-- The error of the rotation grows by at most 10 units in a step: 2 of the rounding and 8 of the step itself. -/
theorem rotations_near (m : Nat) :
    ‖10 ^ 12 * Complex.exp (↑(Real.pi / 64) * Complex.I) ^ m - complexOf (rotations m)‖ ≤ 10 * (m : ℝ) := by
  induction m with
  | zero => norm_num [complexOf, rotations, Complex.ext_iff, ofReal_scale]
  | succ m ih =>
    set z := Complex.exp (↑(Real.pi / 64) * Complex.I)
    set w := complexOf (rotations m)
    have unit : ‖z ^ m‖ = 1 := by rw [norm_pow, Complex.norm_exp_ofReal_mul_I, one_pow]
    have split : 10 ^ 12 * (10 ^ 12 * z ^ (m + 1) - complexOf (rotate (rotations m))) =
        10 ^ 12 * z ^ m * (10 ^ 12 * z - turn) + (10 ^ 12 * z ^ m - w) * turn +
          (w * turn - 10 ^ 12 * complexOf (rotate (rotations m))) := by ring
    have scaled := norm_add₃_le (a := 10 ^ 12 * z ^ m * (10 ^ 12 * z - turn)) (b := (10 ^ 12 * z ^ m - w) * turn)
      (c := w * turn - 10 ^ 12 * complexOf (rotate (rotations m)))
    rw [← split, norm_mul, norm_mul, norm_mul, norm_mul, unit, norm_pow, Complex.norm_ofNat] at scaled
    have first : (10 : ℝ) ^ 12 * 1 * ‖10 ^ 12 * z - turn‖ ≤ 10 ^ 12 * 8 := by
      have close : ‖10 ^ 12 * z - turn‖ ≤ 8 := turn_near
      linarith
    have second : ‖10 ^ 12 * z ^ m - w‖ * ‖turn‖ ≤ 10 * m * 10 ^ 12 :=
      mul_le_mul ih norm_turn_le (norm_nonneg _) (by positivity)
    have third := rotate_near (rotations m)
    push_cast
    change ‖10 ^ 12 * z ^ (m + 1) - complexOf (rotate (rotations m))‖ ≤ _
    linarith

theorem cos_near (m : Nat) : |10 ^ 12 * Real.cos (2 * Real.pi * m / 128) - (rotations m).1| ≤ 10 * (m : ℝ) := by
  have angle : Complex.exp (↑(Real.pi / 64) * Complex.I) ^ m = Complex.exp (↑(2 * Real.pi * m / 128) * Complex.I) := by
    rw [← Complex.exp_nat_mul]
    congr 1
    push_cast
    ring
  have near := (Complex.abs_re_le_norm _).trans (rotations_near m)
  rwa [angle, ofReal_scale, Complex.sub_re, Complex.re_ofReal_mul, Complex.exp_ofReal_mul_I_re] at near

theorem cosine_near_rotations :
    ∀ m : Fin 128, 2 * |cosine m * 10 ^ 12 - 32767 * (rotations m).1| + 2 * 32767 * 1280 ≤ 10 ^ 12 := by
  decide +kernel

/-- C[m] against the real cosine (R112). -/
theorem cosine_near (m : Nat) (h : m < 128) :
    |(cosine m : ℝ) - 32767 * Real.cos (2 * Real.pi * m / 128)| ≤ 1 / 2 := by
  have table : (2 * |(cosine m : ℝ) * 10 ^ 12 - 32767 * (rotations m).1| + 2 * 32767 * 1280 : ℝ) ≤ 10 ^ 12 := by
    exact_mod_cast cosine_near_rotations ⟨m, h⟩
  have size : (10 * m : ℝ) ≤ 1280 := by
    have : (m : ℝ) ≤ 128 := by exact_mod_cast h.le
    linarith
  have near := (cos_near m).trans size
  have apart : |(cosine m : ℝ) * 10 ^ 12 - 32767 * (rotations m).1| ≤ 10 ^ 12 / 2 - 32767 * 1280 := by
    generalize |(cosine m : ℝ) * 10 ^ 12 - 32767 * (rotations m).1| = distance at table ⊢
    linarith
  rw [abs_le] at near apart ⊢
  constructor <;> linarith [near.1, near.2, apart.1, apart.2]

end Sys2Proof.Machine
end


section
/-! SUPPORT. The phasors of a job (R112 to R115). -/

namespace Sys2Proof.Machine

set_option Elab.async false

open Sys2Proof

theorem pointSum_eq (k phase : Nat) (l : List Int) (n : Nat) :
    pointSum k phase l n = ∑ i : Fin l.length, l[i] * cosine (k * (n + i.val) + phase) := by
  induction l generalizing n with
  | nil => rfl
  | cons y l ih =>
    have rest : ∀ i : Fin l.length, n + 1 + i.val = n + (i.val + 1) := by omega
    simp [pointSum, ih, Fin.sum_univ_succ, rest]

theorem pointSum_vector (points : Vector Int 128) (k phase : Nat) :
    pointSum k phase points.toList 0 = ∑ n : Fin 128, points[n] * cosine (k * n.val + phase) := by
  rw [pointSum_eq]
  refine Fintype.sum_equiv (finCongr (by simp)) _ _ fun i => ?_
  simp

theorem correctionFor_class {tables : Vector (Vector CorrectionEntry 50) 4} {cls : Fin 5} {x : Fin 4}
    (h : cls.val = x.val + 1) (k : Fin 50) : correctionFor tables cls (k.val + 1) = some tables[x][k] := by
  have present : cls.val ≠ 0 := by omega
  have index : cls.val - 1 = x.val := by omega
  simp only [correctionFor, dif_neg present, index]
  simp

theorem jobPhasor_plain {tables : Vector (Vector CorrectionEntry 50) 4} {j : Job} {c : Fin 6} {k : Nat}
    (h : c.val < 3 ∨ j.head.snapshot.cls = 0) : jobPhasor tables j c k = (phasorOf j.points[c] k).clamp := by
  rcases h with voltage | plain
  · simp only [jobPhasor, if_pos voltage]
  · have none : correctionFor tables j.head.snapshot.cls k = none := by simp [correctionFor, plain]
    simp only [jobPhasor, none, ite_self]

theorem jobPhasor_corrected {tables : Vector (Vector CorrectionEntry 50) 4} {j : Job} {c : Fin 6} {k : Nat}
    {e : CorrectionEntry} (current : 3 ≤ c.val) (found : correctionFor tables j.head.snapshot.cls k = some e) :
    jobPhasor tables j c k = ((phasorOf j.points[c] k).correct e).clamp := by
  simp only [jobPhasor, if_neg (Nat.not_lt.mpr current), found]

/-- Settles O46: the table by the integer rotation, the phasors by the sums over the points. -/
theorem cosineTableAndPhasors : Obligations.CosineTableAndPhasors := by
  unfold Obligations.CosineTableAndPhasors
  refine ⟨cosine_near, fun m => ?_, fun points k => ?_, fun tables j c k => ⟨jobPhasor_plain, fun x current cls => ?_⟩,
    fun tables j c => ?_, fun p => ⟨clampInt_eq (by decide) _, clampInt_eq (by decide) _⟩⟩
  · simp only [cosine, Nat.mod_mod]
  · simp only [phasorOf, pointSum_vector, Nat.add_zero]
  · exact jobPhasor_corrected current (correctionFor_class cls k)
  · rw [jobPhasors, ← orders_eq_range']
    exact Vector.getElem_ofFn _

end Sys2Proof.Machine
end


section
/-! SUPPORT. The receipt of a closed block: its record, the limit states with their notices, and the report (R143 to
R154). -/

namespace Sys2Proof.Machine

set_option Elab.async false

open Sys2Proof

/-! ## The record (R144 to R148) -/

theorem noFundamental_eq (acc : Accumulator) : noFundamental acc =
    decide ((0 < acc.cycles ∧ 1 < acc.snapshot.hMax) ∧ ∃ ch : Fin 6, acc.fundamentalSums[ch] = 0) := by
  have zero : (acc.fundamentalSums.toList.any fun f => decide (f = 0)) = true ↔ ∃ ch : Fin 6, acc.fundamentalSums[ch] = 0 := by
    rw [Vector.toList_eq_map, List.any_map]
    simp
  rw [Bool.eq_iff_iff, noFundamental, Bool.and_eq_true, zero, decide_eq_true_iff, thdList]
  split <;> simp_all

theorem ClosedBlock.record_fields (c : ClosedBlock) (p : ProfileCode) (e : TapEntry) (d : Disposition) :
    c.record p e d = { c.record p e d with
      flags := { c.acc.flags with
        unrestored := c.unrestored
        noFundamental := decide ((0 < c.acc.cycles ∧ 1 < c.acc.snapshot.hMax) ∧ ∃ ch : Fin 6, c.acc.fundamentalSums[ch] = 0) }
      stamp := if c.acc.close = none then none else c.acc.stamp } := by
  rw [← noFundamental_eq]
  unfold ClosedBlock.record
  cases c.acc.close <;> rfl

/-! ## The limit states (R151, R152) -/

/-- What a closed block makes of the limit state of a kind (R151). -/
def State.limitMove (s : State) (c : ClosedBlock) (k : LimitKind) : LimitState × Option LimitOutcome :=
  (s.records.limits[c.tap].get k).move (c.value k).isSome (c.exceeds (s.tapEntry c.tap) k)

/-- The LIMIT notices of a closed block, for kinds in the given order (R152). -/
def State.limitNotices (s : State) (c : ClosedBlock) (l : List LimitKind) : List NoticeBody :=
  l.filterMap fun k => (s.limitMove c k).2.map fun o =>
    .limit c.tap k o c.acc.tariff c.acc.block ((c.value k).getD 0) ((s.tapEntry c.tap).limit k)

/-- From s to t the limit states of the kinds `l` have moved for a closed block, and nothing else of the records. -/
structure LimitsMoved (s t : State) (c : ClosedBlock) (l : List LimitKind) : Prop where
  frame : SameOutside [.records, .ports, .latches] s t
  records : t.records = { s.records with limits := t.records.limits }
  others : ∀ tap : TapId, tap ≠ c.tap → t.records.limits[tap] = s.records.limits[tap]
  moved : ∀ k ∈ l, t.records.limits[c.tap].get k = (s.limitMove c k).1
  kept : ∀ k, k ∉ l → t.records.limits[c.tap].get k = s.records.limits[c.tap].get k
  notices : Noticed s t (s.limitNotices c l)

theorem TapLimits.get_set_same (l : TapLimits) (x : LimitState) (k : LimitKind) : (l.set x k).get k = x := by
  cases k <;> rfl

theorem TapLimits.get_set_other (l : TapLimits) (x : LimitState) {j k : LimitKind} (h : j ≠ k) :
    (l.set x k).get j = l.get j := by
  cases k <;> cases j <;> trivial

theorem State.moveLimit_records (s : State) (c : ClosedBlock) (k : LimitKind) : (s.moveLimit c k).records =
    { s.records with limits := modAt s.records.limits c.tap fun l => l.set (s.limitMove c k).1 k } := by
  unfold State.moveLimit
  dsimp only
  split
  · rfl
  · exact (State.handOver_frame _ _).get .records

theorem State.moveLimit_noticed (s : State) (c : ClosedBlock) (k : LimitKind) :
    Noticed s (s.moveLimit c k) (s.limitNotices c [k]) := by
  unfold State.moveLimit State.limitNotices State.limitMove
  dsimp only
  split
  next none =>
    rw [List.filterMap_cons_none (by rw [none]; rfl)]
    exact .nil rfl rfl
  next o some =>
    rw [List.filterMap_cons_some (by rw [some]; rfl)]
    have quiet (x : Records) : Noticed s (s.setRecords x) [] := .nil rfl rfl
    refine (quiet _).handOver ?_ ?_ ?_ _ <;> rfl

theorem State.moveLimit_moved (s : State) (c : ClosedBlock) (k : LimitKind) : LimitsMoved s (s.moveLimit c k) c [k] := by
  have records := s.moveLimit_records c k
  refine ⟨s.moveLimit_frame c k, by rw [records], fun tap other => ?_, fun j member => ?_, fun j out => ?_,
    s.moveLimit_noticed c k⟩
  · rw [records]
    exact getElem_modAt_other other
  · obtain rfl := List.mem_singleton.mp member
    rw [records, getElem_modAt_same, TapLimits.get_set_same]
  · rw [records, getElem_modAt_same, TapLimits.get_set_other _ _ (by simpa using out)]

/-- The kinds not yet moved stand as before, so that each kind moves by its own state. -/
theorem LimitsMoved.cons {s m t : State} {c : ClosedBlock} {k : LimitKind} {l : List LimitKind} (fresh : k ∉ l)
    (first : LimitsMoved s m c [k]) (rest : LimitsMoved m t c l) : LimitsMoved s t c (k :: l) := by
  have tables : m.tables = s.tables := first.frame.get .tables
  have entry : m.tapEntry c.tap = s.tapEntry c.tap := congrArg (fun x : Tables => x.taps[c.tap].entry) tables
  have same : ∀ j ∈ l, m.limitMove c j = s.limitMove c j := fun j member => by
    have other : j ≠ k := fun h => fresh (h ▸ member)
    rw [State.limitMove, State.limitMove, entry, first.kept j (by simpa using other)]
  have notices : m.limitNotices c l = s.limitNotices c l := by
    rw [State.limitNotices, State.limitNotices, entry]
    exact List.filterMap_congr fun j member => by rw [same j member]
  refine ⟨first.frame.andThen rest.frame, ?_, fun tap other => (rest.others tap other).trans (first.others tap other),
    fun j member => ?_, fun j out => ?_, ?_⟩
  · rw [rest.records, first.records]
  · rcases List.mem_cons.mp member with rfl | later
    · exact (rest.kept j fresh).trans (first.moved j (List.mem_singleton_self j))
    · exact (rest.moved j later).trans (congrArg Prod.fst (same j later))
  · rw [List.mem_cons, not_or] at out
    exact (rest.kept j out.2).trans (first.kept j (by simpa using out.1))
  · have both := first.notices.andThen s (rest.notices.congr (congrArg Tables.station tables)
      (first.frame.get .straps) (first.frame.get .resetLine))
    rw [notices] at both
    simpa only [State.limitNotices, ← List.filterMap_append, List.singleton_append] using both

theorem State.moveLimits_of_nodup (c : ClosedBlock) {l : List LimitKind} (nodup : l.Nodup) :
    ∀ s : State, LimitsMoved s (l.foldl (fun s k => s.moveLimit c k) s) c l := by
  induction l with
  | nil =>
    exact fun s => ⟨.refl _ _, rfl, fun _ _ => rfl, nofun, fun _ _ => rfl, .nil rfl rfl⟩
  | cons k l ih =>
    exact fun s => (s.moveLimit_moved c k).cons (List.nodup_cons.mp nodup).1 (ih (List.nodup_cons.mp nodup).2 _)

theorem State.moveLimits_moved (s : State) (c : ClosedBlock) : LimitsMoved s (s.moveLimits c) c allLimitKinds :=
  State.moveLimits_of_nodup c (by decide) s

end Sys2Proof.Machine
end


section
/-! SUPPORT. The report of a receipt, and the receipt as a whole (R143, R149, R153, R154). -/

namespace Sys2Proof.Machine

set_option Elab.async false

open Sys2Proof

theorem State.chooseB_chosen (s : State) : s.chooseB.ports = s.chosenB s.ports := by
  unfold State.chooseB State.chosenB
  split <;> rfl

theorem State.chosenB_congr {s m : State} (straps : m.straps = s.straps) (line : m.resetLine = s.resetLine) (p : Ports) :
    m.chosenB p = s.chosenB p := by rw [State.chosenB, State.chosenB, straps, line]

/-! ## The report slots (R153) -/

theorem freeReportSlot_marked {p : Ports} {marker : Fin 2} (free : p.reportSlots[marker] = none) :
    freeReportSlot p marker = some marker := by
  simp only [freeReportSlot, free, Option.isNone_none, if_true]

theorem freeReportSlot_other {p : Ports} {marker : Fin 2} (taken : p.reportSlots[marker].isSome = true)
    (free : p.reportSlots[1 - marker] = none) : freeReportSlot p marker = some (1 - marker) := by
  obtain ⟨x, held⟩ := Option.isSome_iff_exists.mp taken
  rw [freeReportSlot, held, free]
  rfl

theorem freeReportSlot_none {p : Ports} {marker : Fin 2} (taken : p.reportSlots[marker].isSome = true)
    (other : p.reportSlots[1 - marker].isSome = true) : freeReportSlot p marker = none := by
  obtain ⟨x, held⟩ := Option.isSome_iff_exists.mp taken
  obtain ⟨y, heldToo⟩ := Option.isSome_iff_exists.mp other
  rw [freeReportSlot, held, heldToo]
  rfl

theorem State.disposition_off {s : State} {t : TrackerId} (off : s.tables.settings[t].autoReport = false) :
    s.disposition t = .off := by
  rw [State.disposition, off]
  rfl

theorem State.disposition_placed {s : State} {t : TrackerId} {k : Fin 2} (auto : s.tables.settings[t].autoReport = true)
    (free : freeReportSlot s.ports s.records.nextSlot = some k) : s.disposition t = .placed := by
  rw [State.disposition, if_pos auto, free]

theorem State.disposition_skipped {s : State} {t : TrackerId} (auto : s.tables.settings[t].autoReport = true)
    (full : freeReportSlot s.ports s.records.nextSlot = none) : s.disposition t = .skipped := by
  rw [State.disposition, if_pos auto, full]

/-- A report placed in slot k of the ports of s, as the newest (R14, R153). -/
def State.withReport (s : State) (k : Fin 2) (r : BlockRecord) : Ports :=
  { s.ports with
    reportSlots := upd s.ports.reportSlots k (some ⟨s.tables.station.destination, s.records.skips[r.tap], r⟩)
    firstReport := firstReportAfter s.ports k }

theorem State.placeReport_off {s : State} {r : BlockRecord} (h : r.disposition = .off) : s.placeReport r = s := by
  rw [State.placeReport, h]

theorem State.placeReport_skipped {s : State} {r : BlockRecord} (h : r.disposition = .skipped) : s.placeReport r =
    s.setRecords { s.records with skips := modAt s.records.skips r.tap fun n => satAdd 255 n 1 } := by
  rw [State.placeReport, h]

theorem State.placeReport_placed {s : State} {r : BlockRecord} {k : Fin 2} (h : r.disposition = .placed)
    (free : freeReportSlot s.ports s.records.nextSlot = some k) : s.placeReport r =
    ((s.setPorts (s.withReport k r)).setRecords
      { s.records with skips := upd s.records.skips r.tap 0, nextSlot := 1 - k }).chooseB := by
  rw [State.placeReport, h]
  dsimp only
  rw [free]
  rfl

/-! ## The receipt up to its report -/

/-- The record of a closed block with the disposition that its receipt gives it (R143). -/
def State.recordOf (s : State) (c : ClosedBlock) : BlockRecord :=
  c.record s.agreement.profile (s.tapEntry c.tap) (s.disposition c.acc.tracker)

/-- The part after steps 1 to 3 of a receipt: the record stored and the limit states moved (R143, R149, R151). -/
def State.judged (s : State) (c : ClosedBlock) : State := (s.storeRecord (s.recordOf c)).moveLimits c

/-- The part with the report of that receipt in slot k, before port B's choice (R153). -/
def State.reported (s : State) (c : ClosedBlock) (k : Fin 2) : State :=
  ((s.judged c).setPorts ((s.judged c).withReport k (s.recordOf c))).setRecords
    { (s.judged c).records with skips := upd s.records.skips c.tap 0, nextSlot := 1 - k }

theorem State.receive_eq (s : State) (c : ClosedBlock) : s.receive c = (s.judged c).placeReport (s.recordOf c) := rfl

theorem State.judged_moved (s : State) (c : ClosedBlock) :
    LimitsMoved (s.storeRecord (s.recordOf c)) (s.judged c) c allLimitKinds := State.moveLimits_moved _ c

section
variable (s : State) (c : ClosedBlock)

theorem State.judged_noticed : Noticed s (s.judged c) (s.limitNotices c allLimitKinds) :=
  (s.judged_moved c).notices.congr rfl rfl rfl

theorem State.judged_frame : SameOutside [.records, .ports, .latches] s (s.judged c) :=
  (s.storeRecord_frame _).andThen (s.judged_moved c).frame

theorem State.judged_reportSlots : (s.judged c).ports.reportSlots = s.ports.reportSlots := by
  rw [(s.judged_noticed c).ports]

theorem State.judged_firstReport : (s.judged c).ports.firstReport = s.ports.firstReport := by
  rw [(s.judged_noticed c).ports]

theorem State.judged_records : (s.judged c).records =
    { (s.storeRecord (s.recordOf c)).records with limits := (s.judged c).records.limits } := (s.judged_moved c).records

theorem State.judged_nextSlot : (s.judged c).records.nextSlot = s.records.nextSlot :=
  (congrArg Records.nextSlot (s.judged_records c) :)

theorem State.judged_skips : (s.judged c).records.skips = s.records.skips := (congrArg Records.skips (s.judged_records c) :)

theorem State.judged_ring : (s.judged c).records.ring =
    (if s.records.ring.length < 64 then s.records.ring else s.records.ring.tail) ++ [s.recordOf c] :=
  (congrArg Records.ring (s.judged_records c) :)

theorem State.judged_free : freeReportSlot (s.judged c).ports (s.judged c).records.nextSlot =
    freeReportSlot s.ports s.records.nextSlot := by
  rw [freeReportSlot, freeReportSlot, s.judged_reportSlots, s.judged_nextSlot]

theorem State.receive_off (off : s.tables.settings[c.acc.tracker].autoReport = false) : s.receive c = s.judged c :=
  State.placeReport_off (State.disposition_off off)

theorem State.receive_skipped (auto : s.tables.settings[c.acc.tracker].autoReport = true)
    (full : freeReportSlot s.ports s.records.nextSlot = none) : s.receive c = (s.judged c).setRecords
      { (s.judged c).records with skips := modAt s.records.skips c.tap fun n => satAdd 255 n 1 } := by
  rw [s.receive_eq, State.placeReport_skipped (State.disposition_skipped auto full), s.judged_skips]
  rfl

theorem State.receive_placed {k : Fin 2} (auto : s.tables.settings[c.acc.tracker].autoReport = true)
    (free : freeReportSlot s.ports s.records.nextSlot = some k) : s.receive c =
    (s.reported c k).chooseB := by
  rw [s.receive_eq, State.placeReport_placed (State.disposition_placed auto free) ((s.judged_free c).trans free),
    s.judged_skips]
  rfl

end

/-! ## The receipt with its report placed -/

/-- What the receipt of a closed block leaves where its report is placed in slot k (R153). -/
structure ReportPlaced (s t : State) (c : ClosedBlock) (k : Fin 2) : Prop where
  stored : t.records.ring = (if s.records.ring.length < 64 then s.records.ring else s.records.ring.tail) ++
    [c.record s.agreement.profile s.tables.taps[c.tap].entry .placed]
  noticed : ∃ q, HandedOver s s.ports s.latches q t.latches (s.limitNotices c allLimitKinds) ∧
    t.ports = s.chosenB { q with reportSlots := t.ports.reportSlots, firstReport := t.ports.firstReport }
  placed : t.ports.reportSlots[k] = some ⟨s.tables.station.destination, s.records.skips[c.tap],
    c.record s.agreement.profile s.tables.taps[c.tap].entry .placed⟩
  kept : t.ports.reportSlots[1 - k] = s.ports.reportSlots[1 - k]
  first : t.ports.firstReport = (if s.ports.reportSlots[1 - k].isSome then 1 - k else k)
  skips : t.records.skips = upd s.records.skips c.tap 0
  next : t.records.nextSlot = 1 - k
  limits : t.records.limits = (s.judged c).records.limits

theorem State.receive_places (s : State) (c : ClosedBlock) {k : Fin 2}
    (auto : s.tables.settings[c.acc.tracker].autoReport = true)
    (free : freeReportSlot s.ports s.records.nextSlot = some k) : ReportPlaced s (s.receive c) c k := by
  have record : s.recordOf c = c.record s.agreement.profile s.tables.taps[c.tap].entry .placed := by
    rw [State.recordOf, State.disposition_placed auto free]
    rfl
  have frame := s.judged_frame c
  have ports := (s.reported c k).chooseB_ports
  have chosen := (s.reported c k).chooseB_chosen
  have records := (s.reported c k).chooseB_frame.get .records
  have latches := (s.reported c k).chooseB_frame.get .latches
  rw [← s.receive_placed c auto free] at ports chosen records latches
  have slots : (s.receive c).ports.reportSlots = upd s.ports.reportSlots k (some ⟨s.tables.station.destination,
      s.records.skips[c.tap], c.record s.agreement.profile s.tables.taps[c.tap].entry .placed⟩) := by
    rw [congrArg Ports.reportSlots ports]
    change upd (s.judged c).ports.reportSlots k _ = _
    rw [s.judged_reportSlots, s.judged_skips, record, frame.get .tables]
    rfl
  have first : (s.receive c).ports.firstReport = (if s.ports.reportSlots[1 - k].isSome then 1 - k else k) := by
    rw [congrArg Ports.firstReport ports, ← s.judged_reportSlots c]
    rfl
  refine ⟨?_, ⟨(s.judged c).ports, ?_, ?_⟩, ?_, ?_, first, (congrArg Records.skips records :),
    (congrArg Records.nextSlot records :), (congrArg Records.limits records :)⟩
  · rw [congrArg Records.ring records, ← record]
    exact s.judged_ring c
  · rw [latches]
    exact s.judged_noticed c
  · rw [State.chosenB_congr (s := s) (m := s.reported c k) (frame.get .straps) (frame.get .resetLine)] at chosen
    rw [slots, first]
    refine chosen.trans (congrArg s.chosenB ?_)
    have built : (s.receive c).ports.reportSlots = ((s.judged c).withReport k (s.recordOf c)).reportSlots :=
      (congrArg Ports.reportSlots ports :)
    have order : (s.receive c).ports.firstReport = ((s.judged c).withReport k (s.recordOf c)).firstReport :=
      (congrArg Ports.firstReport ports :)
    rw [← slots, ← first, built, order]
    rfl
  · rw [slots]
    exact (getElem_upd _ _ _ _).trans (if_pos rfl)
  · rw [slots]
    exact (getElem_upd _ _ _ _).trans (if_neg (by fin_cases k <;> decide))

/-! ## The receipt (R143) -/

theorem State.receive_limits (s : State) (c : ClosedBlock) :
    (s.receive c).records.limits = (s.judged c).records.limits := by
  cases auto : s.tables.settings[c.acc.tracker].autoReport with
  | false => rw [s.receive_off c auto]
  | true =>
    cases free : freeReportSlot s.ports s.records.nextSlot with
    | none =>
      rw [s.receive_skipped c auto free]
      rfl
    | some k => exact (s.receive_places c auto free).limits

theorem State.receive_limit (s : State) (c : ClosedBlock) (k : LimitKind) :
    (s.receive c).records.limits[c.tap].get k = (s.limitMove c k).1 := by
  rw [s.receive_limits c]
  exact (s.judged_moved c).moved k (by cases k <;> decide)

theorem State.receive_skips_other (s : State) (c : ClosedBlock) {tap : TapId} (other : tap ≠ c.tap) :
    (s.receive c).records.skips[tap] = s.records.skips[tap] := by
  cases auto : s.tables.settings[c.acc.tracker].autoReport with
  | false => rw [s.receive_off c auto, s.judged_skips c]
  | true =>
    cases free : freeReportSlot s.ports s.records.nextSlot with
    | none =>
      rw [s.receive_skipped c auto free]
      exact getElem_modAt_other other
    | some k =>
      rw [(s.receive_places c auto free).skips]
      exact (getElem_upd _ _ _ _).trans (if_neg other.symm)

/-- Settles O55: the record by its fields, the limits by their moves in kind order, and the report by the free slot. -/
theorem receiptOfABlock : Obligations.ReceiptOfABlock := by
  unfold Obligations.ReceiptOfABlock
  refine ⟨fun c p e d => c.record_fields p e d, fun s c => ⟨s.receive_frame c, s.receive_limit c, fun tap other => ⟨?_, ?_⟩,
    fun off => ?_, fun auto free => ?_, fun auto taken free => ?_, fun auto taken other => ?_⟩⟩
  · rw [s.receive_limits c]
    exact (s.judged_moved c).others tap other
  · exact s.receive_skips_other c other
  · rw [s.receive_off c off, s.judged_ring c, State.recordOf, State.disposition_off off]
    exact ⟨rfl, s.judged_noticed c, s.judged_skips c, s.judged_reportSlots c, s.judged_firstReport c, s.judged_nextSlot c⟩
  · obtain ⟨stored, noticed, placed, kept, first, skips, next, -⟩ :=
      s.receive_places c auto (freeReportSlot_marked free)
    exact ⟨stored, noticed, placed, kept, first, (congrArg (·[c.tap]) skips).trans ((getElem_upd _ _ _ _).trans (if_pos rfl)), next⟩
  · obtain ⟨stored, noticed, placed, kept, first, skips, next, -⟩ :=
      s.receive_places c auto (freeReportSlot_other taken free)
    exact ⟨stored, noticed, placed, kept, first, (congrArg (·[c.tap]) skips).trans ((getElem_upd _ _ _ _).trans (if_pos rfl)), next⟩
  · have full := freeReportSlot_none taken other
    have ring := s.judged_ring c
    rw [State.recordOf, State.disposition_skipped auto full] at ring
    rw [s.receive_skipped c auto full]
    exact ⟨ring, s.judged_noticed c, s.judged_reportSlots c, s.judged_firstReport c, s.judged_nextSlot c,
      getElem_modAt_same _ _ _⟩

end Sys2Proof.Machine
end


section
/-! SUPPORT. The record unit's receipts do not depend on the accounts or the engine, and the close test of a tap closes
the complete accumulators at the front (R134, R135, R143). -/

namespace Sys2Proof.Machine

set_option Elab.async false

open Sys2Proof

/-! ## Receipts beside the trackers, the cycle former, the engine and the accounts -/

/-- The part with other trackers, another cycle former, another engine and other accounts. -/
def State.withBooks (s : State) (x : Vector Tracker 2) (f : Former) (e : Engine) (a : Vector TapAccount 8) : State :=
  { s with trackers := x, former := f, engine := e, accounts := a }

section
variable (s : State) (x : Vector Tracker 2) (f : Former) (e : Engine) (a : Vector TapAccount 8)

theorem State.chooseB_withBooks : (s.withBooks x f e a).chooseB = s.chooseB.withBooks x f e a := by
  unfold State.chooseB
  split
  · next line => rw [if_pos (by exact line)]
  · next line =>
    rw [if_neg (by exact line)]
    rfl

theorem State.handOver_withBooks (n : NoticeBody) : (s.withBooks x f e a).handOver n = (s.handOver n).withBooks x f e a := by
  obtain ⟨notices, same⟩ | ⟨notices, full, lost⟩ | ⟨notices, room, placed⟩ := s.handOver_cases n
  · rw [same]
    exact if_neg fun on => Bool.false_ne_true (notices.symm.trans on)
  · rw [lost]
    exact (if_pos notices).trans (if_neg (Nat.not_lt.mpr full))
  · rw [placed, ← State.chooseB_withBooks]
    exact (if_pos notices).trans (if_pos room)

/-- The notice of a limit kind at a receipt, where its state passes a transition (R152). -/
def State.limitNotice (s : State) (c : ClosedBlock) (k : LimitKind) : Option NoticeBody :=
  (s.limitMove c k).2.map fun o =>
    .limit c.tap k o c.acc.tariff c.acc.block ((c.value k).getD 0) ((s.tapEntry c.tap).limit k)

/-- The part with the limit state of a kind moved (R151). -/
def State.movedLimit (s : State) (c : ClosedBlock) (k : LimitKind) : State :=
  s.setRecords { s.records with limits := modAt s.records.limits c.tap fun l => l.set (s.limitMove c k).1 k }

/-- A notice handed over, if there is one. -/
def State.handOverSome (s : State) : Option NoticeBody → State
  | none => s
  | some n => s.handOver n

theorem State.moveLimit_eq (c : ClosedBlock) (k : LimitKind) :
    s.moveLimit c k = (s.movedLimit c k).handOverSome (s.limitNotice c k) := by
  unfold State.moveLimit State.limitNotice State.movedLimit State.limitMove
  dsimp only
  cases ((s.records.limits[c.tap].get k).move (c.value k).isSome (c.exceeds (s.tapEntry c.tap) k)).2 <;> rfl

theorem State.handOverSome_withBooks (n : Option NoticeBody) :
    (s.withBooks x f e a).handOverSome n = (s.handOverSome n).withBooks x f e a := by
  cases n with
  | none => rfl
  | some n => exact s.handOver_withBooks x f e a n

theorem State.moveLimit_withBooks (c : ClosedBlock) (k : LimitKind) :
    (s.withBooks x f e a).moveLimit c k = (s.moveLimit c k).withBooks x f e a := by
  have here : s.moveLimit c k = (s.movedLimit c k).handOverSome (s.limitNotice c k) := s.moveLimit_eq c k
  rw [here, (s.withBooks x f e a).moveLimit_eq c k]
  exact (s.movedLimit c k).handOverSome_withBooks x f e a (s.limitNotice c k)

theorem State.moveLimits_withBooks (c : ClosedBlock) :
    (s.withBooks x f e a).moveLimits c = (s.moveLimits c).withBooks x f e a := by
  unfold State.moveLimits
  generalize allLimitKinds = kinds
  induction kinds generalizing s with
  | nil => rfl
  | cons k l ih => rw [List.foldl_cons, List.foldl_cons, State.moveLimit_withBooks, ih]

theorem State.placeReport_withBooks (r : BlockRecord) :
    (s.withBooks x f e a).placeReport r = (s.placeReport r).withBooks x f e a := by
  cases h : r.disposition with
  | off => rw [State.placeReport_off h, State.placeReport_off h]
  | skipped =>
    rw [State.placeReport_skipped h, State.placeReport_skipped h]
    rfl
  | placed =>
    cases free : freeReportSlot s.ports s.records.nextSlot with
    | none => simp only [State.placeReport, h, free, show (s.withBooks x f e a).ports = s.ports from rfl,
        show (s.withBooks x f e a).records = s.records from rfl]
    | some k =>
      rw [State.placeReport_placed h free, State.placeReport_placed (s := s.withBooks x f e a) h free,
        ← State.chooseB_withBooks]
      rfl

theorem State.receive_withBooks (c : ClosedBlock) : (s.withBooks x f e a).receive c = (s.receive c).withBooks x f e a := by
  rw [State.receive_eq, State.receive_eq, ← State.placeReport_withBooks, State.judged, State.judged,
    ← State.moveLimits_withBooks]
  rfl

theorem State.received_withBooks (l : List ClosedBlock) : (s.withBooks x f e a).received l = (s.received l).withBooks x f e a := by
  unfold State.received
  induction l generalizing s with
  | nil => rfl
  | cons c l ih => rw [List.foldl_cons, List.foldl_cons, State.receive_withBooks, ih]

end

theorem State.receive_modAccount (s : State) (c : ClosedBlock) (tap : TapId) (f : TapAccount → TapAccount) :
    (s.modAccount tap f).receive c = (s.receive c).modAccount tap f := by
  have apart := s.receive_withBooks s.trackers s.former s.engine (modAt s.accounts tap f) c
  have trackers : (s.receive c).trackers = s.trackers := (s.receive_frame c).get .trackers
  have former : (s.receive c).former = s.former := (s.receive_frame c).get .former
  have engine : (s.receive c).engine = s.engine := (s.receive_frame c).get .engine
  rw [← trackers, ← former, ← engine, ← s.receive_accounts c] at apart
  refine Eq.trans ?_ apart
  rw [trackers, former, engine, s.receive_accounts c]
  rfl

theorem State.received_frame (s : State) (l : List ClosedBlock) :
    SameOutside [.records, .ports, .latches] s (s.received l) := SameOutside.foldl (fun s c => s.receive_frame c) _ s

theorem State.received_accounts (s : State) (l : List ClosedBlock) : (s.received l).accounts = s.accounts :=
  (s.received_frame l).get .accounts

/-! ## One close -/

theorem modAt_modAt {α : Type} {n : Nat} (v : Vector α n) (i : Fin n) (f g : α → α) :
    modAt (modAt v i f) i g = modAt v i (fun x => g (f x)) := by
  ext j h
  have same := getElem_modAt (modAt v i f) i ⟨j, h⟩ g
  have once := getElem_modAt v i ⟨j, h⟩ f
  have both := getElem_modAt v i ⟨j, h⟩ fun x => g (f x)
  simp only [Fin.getElem_fin] at same once both
  rw [same, once, both]
  split <;> rfl

theorem modAt_eq_self {α : Type} {n : Nat} {v : Vector α n} {i : Fin n} {f : α → α} (h : f v[i] = v[i]) :
    modAt v i f = v := by
  unfold modAt upd
  rw [h]
  exact Vector.set_getElem_self _

theorem State.modAccount_modAccount (s : State) (tap : TapId) (f g : TapAccount → TapAccount) :
    (s.modAccount tap f).modAccount tap g = s.modAccount tap fun t => g (f t) := by
  unfold State.modAccount
  exact congrArg s.setAccounts (modAt_modAt _ _ _ _)

theorem State.modAccount_eq_self {s : State} {tap : TapId} {f : TapAccount → TapAccount}
    (h : f s.accounts[tap] = s.accounts[tap]) : s.modAccount tap f = s := by
  unfold State.modAccount
  rw [modAt_eq_self h]
  rfl

theorem State.modAccount_congr {s : State} {tap : TapId} {f g : TapAccount → TapAccount}
    (h : f s.accounts[tap] = g s.accounts[tap]) : s.modAccount tap f = s.modAccount tap g := by
  unfold State.modAccount modAt
  rw [h]

theorem Accumulator.complete_eq (a : Accumulator) : a.complete = a.isComplete := by
  rw [Accumulator.complete, Accumulator.isComplete]
  cases a.close <;> simp

/-- The block of an accumulator as the record unit receives it (R134). -/
def State.closedBlock (s : State) (tap : TapId) (reason : CloseReason) (a : Accumulator) (late : Nat) : ClosedBlock :=
  { tap := tap, acc := a, reason := reason, outstanding := a.outstanding, late := late
    unrestored := decide (s.accounts[tap].restore = .opened) }

/-- A tap's accounts with these accumulators and this late tally. -/
def TapAccount.holding (l : List Accumulator) (late : Nat) (t : TapAccount) : TapAccount :=
  { t with accumulators := l, late := late }

section
variable {s : State} {tap : TapId} {a : Accumulator} {rest : List Accumulator}

theorem State.closeOldest_cons (h : s.accounts[tap].accumulators = a :: rest) (forced : Bool) :
    s.closeOldest tap forced = (s.receive (s.closedBlock tap (if forced then .forced else a.close.getD .forced) a
      s.accounts[tap].late)).modAccount tap (TapAccount.holding rest 0) := by
  rw [← State.receive_modAccount, State.closeOldest, h]
  rfl

theorem State.closeTest_nil (h : s.accounts[tap].accumulators = []) : s.closeTest tap = s := by rw [State.closeTest, h]

theorem State.closeTest_open (h : s.accounts[tap].accumulators = a :: rest) (incomplete : a.isComplete = false) :
    s.closeTest tap = s := by
  rw [State.closeTest, h]
  exact if_neg (by rw [a.complete_eq, incomplete]; decide)

theorem State.closeTest_complete (h : s.accounts[tap].accumulators = a :: rest) (complete : a.isComplete = true) :
    s.closeTest tap = (s.receive (s.closedBlock tap (a.close.getD .forced) a s.accounts[tap].late)).modAccount tap
      (TapAccount.holding rest 0) := by
  have closed := State.closeOldest_cons h false
  rw [State.closeTest, h]
  exact (if_pos (by rw [a.complete_eq, complete])).trans closed

end

/-! ## The close test after an event (R134) -/

/-- Blocks handed to the record unit, with the accounts that stay behind. -/
def State.closing (s : State) (tap : TapId) (blocks : List ClosedBlock) (l : List Accumulator) (late : Nat) : State :=
  (s.received blocks).modAccount tap (TapAccount.holding l late)

theorem State.closing_account (s : State) (tap : TapId) (blocks : List ClosedBlock) (l : List Accumulator) (late : Nat) :
    (s.closing tap blocks l late).accounts[tap] = s.accounts[tap].holding l late := by
  rw [State.closing, State.modAccount_accounts, if_pos rfl, State.received_accounts]

theorem State.closing_restore (s : State) (tap : TapId) (blocks : List ClosedBlock) (l : List Accumulator) (late : Nat)
    (reason : CloseReason) (a : Accumulator) (n : Nat) :
    (s.closing tap blocks l late).closedBlock tap reason a n = s.closedBlock tap reason a n := by
  rw [State.closedBlock, State.closedBlock, State.closing_account]
  rfl

theorem State.closing_nil (s : State) (tap : TapId) :
    s.closing tap [] s.accounts[tap].accumulators s.accounts[tap].late = s := State.modAccount_eq_self rfl

/-- A further block closes after others have. -/
theorem State.closing_receive (s : State) (tap : TapId) (blocks : List ClosedBlock) (l m : List Accumulator)
    (late n : Nat) (c : ClosedBlock) : ((s.closing tap blocks l late).receive c).modAccount tap (TapAccount.holding m n) =
      s.closing tap (blocks ++ [c]) m n := by
  rw [State.closing, State.receive_modAccount, State.modAccount_modAccount, State.closing, State.received, State.received,
    List.foldl_append]
  rfl

theorem State.closing_closeTest (s : State) (tap : TapId) (blocks : List ClosedBlock) (a : Accumulator)
    (rest : List Accumulator) (late : Nat) (complete : a.isComplete = true) :
    (s.closing tap blocks (a :: rest) late).closeTest tap =
      s.closing tap (blocks ++ [s.closedBlock tap (a.close.getD .forced) a late]) rest 0 := by
  have account := s.closing_account tap blocks (a :: rest) late
  have held : (s.closing tap blocks (a :: rest) late).accounts[tap].accumulators = a :: rest := by rw [account]; rfl
  rw [State.closeTest_complete held complete, State.closing_restore, State.closing_receive, account]
  rfl

theorem State.closing_closeTest_kept (s : State) (tap : TapId) (blocks : List ClosedBlock) (l : List Accumulator)
    (late : Nat) (incomplete : ∀ a rest, l = a :: rest → a.isComplete = false) :
    (s.closing tap blocks l late).closeTest tap = s.closing tap blocks l late := by
  have account := s.closing_account tap blocks l late
  cases l with
  | nil => exact State.closeTest_nil (by rw [account]; rfl)
  | cons a rest => exact State.closeTest_open (by rw [account]; rfl) (incomplete a rest rfl)

end Sys2Proof.Machine
end


section
/-! SUPPORT. The close tests after an event of a tap, as the blocks that leave its accumulators, and a cycle accounting
on a tap (R126 to R136). -/

namespace Sys2Proof.Machine

set_option Elab.async false

open Sys2Proof

/-! ## Closed blocks in order (R134, R135) -/

/-- Accumulators closed with these reasons, as the record unit receives them; the first takes the late tally (R134). -/
def State.blocksOf (s : State) (tap : TapId) (l : List (CloseReason × Accumulator)) (late : Nat) : List ClosedBlock :=
  l.mapIdx fun i x => s.closedBlock tap x.1 x.2 (if i = 0 then late else 0)

/-- Accumulators that are forced out. -/
def forcedOut (l : List Accumulator) : List (CloseReason × Accumulator) := l.map fun a => (CloseReason.forced, a)

/-- The complete accumulators at the front, each with its close marker (R134). -/
def completeOut (l : List Accumulator) : List (CloseReason × Accumulator) :=
  (l.takeWhile Accumulator.isComplete).map fun a => (a.close.getD .forced, a)

/-- What stays behind the complete accumulators at the front (R134). -/
def stayBehind (l : List Accumulator) : List Accumulator := l.dropWhile Accumulator.isComplete

section
variable {a : Accumulator} {rest : List Accumulator}

theorem completeOut_cons (h : a.isComplete = true) :
    completeOut (a :: rest) = (a.close.getD .forced, a) :: completeOut rest := by simp [completeOut, h]

theorem stayBehind_cons (h : a.isComplete = true) : stayBehind (a :: rest) = stayBehind rest := by simp [stayBehind, h]

theorem completeOut_front (h : a.isComplete = false) : completeOut (a :: rest) = [] := by simp [completeOut, h]

theorem stayBehind_front (h : a.isComplete = false) : stayBehind (a :: rest) = a :: rest := by simp [stayBehind, h]

theorem front_incomplete (h : a.isComplete = false) (b : Accumulator) (l : List Accumulator) (same : a :: rest = b :: l) :
    b.isComplete = false := by
  obtain ⟨rfl, -⟩ := List.cons.inj same
  exact h

end

theorem closedBlocks_eq (s : State) (tap : TapId) (forced l : List Accumulator) (late : Nat) :
    closedBlocks s tap forced l late = s.blocksOf tap (forcedOut forced ++ completeOut l) late := rfl

section
variable (s : State) (tap : TapId)

theorem State.blocksOf_snoc (l : List (CloseReason × Accumulator)) (x : CloseReason × Accumulator) (late : Nat) :
    s.blocksOf tap (l ++ [x]) late =
      s.blocksOf tap l late ++ [s.closedBlock tap x.1 x.2 (if l = [] then late else 0)] := by
  simp only [State.blocksOf, List.mapIdx_append, List.mapIdx_cons, List.mapIdx_nil, Nat.zero_add,
    List.length_eq_zero_iff]

theorem State.blocksOf_eq_nil {l : List (CloseReason × Accumulator)} {late : Nat} :
    s.blocksOf tap l late = [] ↔ l = [] := List.mapIdx_eq_nil_iff

/-- Blocks depend on the state by the tap's restore state alone. -/
theorem State.blocksOf_congr {s m : State} {tap : TapId} (same : m.accounts[tap].restore = s.accounts[tap].restore)
    (l : List (CloseReason × Accumulator)) (late : Nat) : m.blocksOf tap l late = s.blocksOf tap l late := by
  simp only [State.blocksOf, State.closedBlock, same]

/-- The part after these accumulators have closed and `l` have stayed (R134, R135). -/
def State.closedAs (out : List (CloseReason × Accumulator)) (l : List Accumulator) (late : Nat) : State :=
  s.closing tap (s.blocksOf tap out late) l (if out = [] then late else 0)

theorem State.closedAs_nil : s.closedAs tap [] s.accounts[tap].accumulators s.accounts[tap].late = s :=
  s.closing_nil tap

theorem State.closedAs_test (out : List (CloseReason × Accumulator)) (a : Accumulator) (rest : List Accumulator)
    (late : Nat) (complete : a.isComplete = true) :
    (s.closedAs tap out (a :: rest) late).closeTest tap = s.closedAs tap (out ++ [(a.close.getD .forced, a)]) rest late := by
  rw [State.closedAs, s.closing_closeTest tap _ a rest _ complete, State.closedAs, State.blocksOf_snoc,
    if_neg (List.append_ne_nil_of_right_ne_nil _ (List.cons_ne_nil _ _))]

theorem State.closedAs_test_kept (out : List (CloseReason × Accumulator)) (l : List Accumulator) (late : Nat)
    (incomplete : ∀ a rest, l = a :: rest → a.isComplete = false) :
    (s.closedAs tap out l late).closeTest tap = s.closedAs tap out l late :=
  s.closing_closeTest_kept tap _ l _ incomplete

/-- One close test of a list of at most one accumulator closes all that is complete. -/
theorem State.closedAs_testOne (out : List (CloseReason × Accumulator)) (l : List Accumulator) (late : Nat)
    (one : l.length ≤ 1) :
    (s.closedAs tap out l late).closeTest tap = s.closedAs tap (out ++ completeOut l) (stayBehind l) late := by
  cases l with
  | nil =>
    rw [State.closedAs_test_kept s tap out [] late (fun _ _ same => nomatch same)]
    exact congrArg (fun out => s.closedAs tap out [] late) (List.append_nil out).symm
  | cons a rest =>
    obtain rfl : rest = [] := List.length_eq_zero_iff.mp (Nat.le_zero.mp (Nat.le_of_succ_le_succ one))
    cases complete : a.isComplete with
    | true =>
      rw [State.closedAs_test s tap out a [] late complete, completeOut_cons complete, stayBehind_cons complete]
      rfl
    | false =>
      rw [State.closedAs_test_kept s tap out [a] late (front_incomplete complete), completeOut_front complete,
        stayBehind_front complete, List.append_nil]

/-- The close tests after an event, of a tap with at most two accumulators (R134, R135). -/
theorem State.closedAs_complete (out : List (CloseReason × Accumulator)) (l : List Accumulator) (late : Nat)
    (two : l.length ≤ 2) :
    (s.closedAs tap out l late).closeComplete tap = s.closedAs tap (out ++ completeOut l) (stayBehind l) late := by
  unfold State.closeComplete
  cases l with
  | nil =>
    rw [State.closedAs_test_kept s tap out [] late (fun _ _ same => nomatch same),
      s.closedAs_testOne tap out [] late (Nat.zero_le _)]
  | cons a rest =>
    cases complete : a.isComplete with
    | true =>
      rw [s.closedAs_test tap out a rest late complete,
        s.closedAs_testOne tap _ rest late (Nat.le_of_succ_le_succ two), completeOut_cons complete,
        stayBehind_cons complete, List.append_assoc]
      rfl
    | false =>
      rw [s.closedAs_test_kept tap out _ late (front_incomplete complete),
        s.closedAs_test_kept tap out _ late (front_incomplete complete), completeOut_front complete,
        stayBehind_front complete, List.append_nil]

theorem State.closedAs_frame (out : List (CloseReason × Accumulator)) (l : List Accumulator) (late : Nat) :
    SameOutside [.accounts, .records, .ports, .latches] s (s.closedAs tap out l late) :=
  (s.received_frame _).andThen (State.modAccount_frame _ _ _)

theorem State.closedAs_account (out : List (CloseReason × Accumulator)) (l : List Accumulator) (late : Nat) :
    (s.closedAs tap out l late).accounts[tap] = s.accounts[tap].holding l (if out = [] then late else 0) :=
  s.closing_account tap _ l _

theorem State.closedAs_other (out : List (CloseReason × Accumulator)) (l : List Accumulator) (late : Nat) {other : TapId}
    (h : other ≠ tap) : (s.closedAs tap out l late).accounts[other] = s.accounts[other] := by
  rw [State.closedAs, State.closing, State.modAccount_accounts, if_neg h.symm, State.received_accounts]

end

/-- A state that differs in the trackers, the cycle former, the engine and the accounts alone. -/
theorem SameOutside.eq_withBooks {s m : State} (h : SameOutside [.trackers, .former, .engine, .accounts] s m) :
    m = s.withBooks m.trackers m.former m.engine m.accounts := by
  obtain ⟨_, _, _, _, _, _, _, _, _, _, _, _, _, _, _, _⟩ := m
  have straps := h.get .straps
  have line := h.get .resetLine
  have ports := h.get .ports
  have wire := h.get .wire
  have latches := h.get .latches
  have agreement := h.get .agreement
  have tables := h.get .tables
  have intake := h.get .intake
  have records := h.get .records
  have management := h.get .management
  have choices := h.get .choices
  have pending := h.get .pending
  dsimp only [Block.same] at straps line ports wire latches agreement tables intake records management choices pending
  subst straps line ports wire latches agreement tables intake records management choices pending
  rfl

/-- What the record unit makes of blocks does not depend on the engine and the accounts. -/
theorem SameOutside.received {s m : State} (h : SameOutside [.engine, .accounts] s m) (l : List ClosedBlock) :
    (m.received l).records = (s.received l).records ∧ (m.received l).ports = (s.received l).ports ∧
      (m.received l).latches = (s.received l).latches := by
  rw [h.wider.eq_withBooks, State.received_withBooks]
  exact ⟨rfl, rfl, rfl⟩

/-- The closes of a state m that differs from s in the engine and the accounts, as s's own (R134, R135). -/
theorem State.closedAs_closes {s m : State} {tap : TapId} (same : SameOutside [.engine, .accounts] s m)
    (restore : m.accounts[tap].restore = s.accounts[tap].restore) (forced l : List Accumulator) (late : Nat) :
    BlocksClose s (m.closedAs tap (forcedOut forced ++ completeOut l) (stayBehind l) late) tap forced l late ∧
      (m.closedAs tap (forcedOut forced ++ completeOut l) (stayBehind l) late).ports =
        (s.received (closedBlocks s tap forced l late)).ports := by
  have account := m.closedAs_account tap (forcedOut forced ++ completeOut l) (stayBehind l) late
  have blocks : m.blocksOf tap (forcedOut forced ++ completeOut l) late = closedBlocks s tap forced l late :=
    State.blocksOf_congr restore _ _
  have empty : closedBlocks s tap forced l late = [] ↔ forcedOut forced ++ completeOut l = [] :=
    s.blocksOf_eq_nil tap
  obtain ⟨records, ports, latches⟩ := same.received (closedBlocks s tap forced l late)
  rw [← blocks] at records ports latches
  refine ⟨⟨congrArg TapAccount.accumulators account, ?_, ?_, ?_⟩, ?_⟩
  · rw [account]
    exact if_congr empty.symm rfl rfl
  · rw [← blocks]
    exact records
  · rw [← blocks]
    exact latches
  · rw [← blocks]
    exact ports

end Sys2Proof.Machine
end


section
/-! SUPPORT. The take of a job, a cycle accounting, and the completion of the job in flight (R110, R118 to R136). -/

namespace Sys2Proof.Machine

set_option Elab.async false

open Sys2Proof

/-! ## A cycle accounting on a tap (R126 to R133) -/

theorem Accumulator.account_eq (a : Accumulator) (estimate accounting : Bool) (period : Nat) (q : Vector Nat 12)
    (x : Spectrum) : a.account estimate accounting period q x = a.counted (!estimate) accounting period (fun r => q[r]) x := by
  cases estimate <;> cases accounting <;> simp [Accumulator.account, Accumulator.counted, satAdd]

section
variable (t : TapAccount) (groups : Vector GroupEntry 49) (e : EntryHead) (c : CycleInfo) (x : Spectrum) (h : Nat)

theorem TapAccount.cycleIncrements_eq (r : Fin 12) :
    (t.cycleIncrements groups e c x h)[r] = quotients t groups e c x h r := by
  have index : registerIndex e.tariff r = Fin.ofNat 48 (12 * e.tariff.val + r.val) :=
    Fin.ext (Nat.mod_eq_of_lt (registerIndex e.tariff r).isLt).symm
  rw [TapAccount.cycleIncrements, incrementsOf, getElem_ofFn_fin]
  exact congrArg (fun i : Fin 48 => (t.registers[i].residue + _) / t.constant) index

theorem TapAccount.account_accumulators (estimate : Bool) : (t.account groups estimate e c x h).accumulators =
    t.accumulators.map fun y => if y.block = e.block then
      y.counted (!estimate) e.snapshot.accounting c.period (quotients t groups e c x h) x else y := by
  have increments : (fun r : Fin 12 => (t.cycleIncrements groups e c x h)[r]) = quotients t groups e c x h :=
    funext (t.cycleIncrements_eq groups e c x h)
  simp only [TapAccount.account, onBlock, Accumulator.account_eq, increments]

theorem TapAccount.account_registers (estimate : Bool) (i : Fin 48) : (t.account groups estimate e c x h).registers[i] =
    if e.snapshot.accounting = true ∧ i.val / 12 = e.tariff.val then
      (t.registers[i].addEnergy t.constant (contributions groups x.active x.reactive h c.length)[i.val % 12]).1
    else t.registers[i] := by
  change (if e.snapshot.accounting then addContributions t.registers t.constant e.tariff _ else t.registers)[i] = _
  cases e.snapshot.accounting with
  | false => rw [if_neg Bool.false_ne_true, if_neg fun both => Bool.false_ne_true both.1]
  | true =>
    rw [if_pos rfl, addContributions, getElem_ofFn_fin]
    by_cases own : i.val / 12 = e.tariff.val
    · rw [dif_pos own, if_pos ⟨rfl, own⟩]
    · rw [dif_neg own, if_neg fun both => own both.2]

end

theorem TapAccount.hasBlock_iff (t : TapAccount) (block : BitVec 32) :
    t.hasBlock block = true ↔ ∃ y ∈ t.accumulators, y.block = block := by
  simp [TapAccount.hasBlock]

/-- The late tally after a job of a block (R136). -/
def TapAccount.lateAfter (t : TapAccount) (block : BitVec 32) : Nat :=
  if ∃ y ∈ t.accumulators, y.block = block then t.late else min 65535 (t.late + 1)

/-- The account of a tap after the accounting of a completed job, before the close tests (R126, R133, R136). -/
def TapAccount.afterJob (t : TapAccount) (groups : Vector GroupEntry 49) (e : EntryHead) (c : CycleInfo) (x : Spectrum) :
    TapAccount := { t.account groups false e c x e.snapshot.hMax with late := t.lateAfter e.block }

theorem State.accountJob_eq (s : State) (e : EntryHead) (c : CycleInfo) (x : Spectrum) : s.accountJob e c x =
    (s.modAccount e.tap fun t => t.afterJob s.tables.groups e c x).closeComplete e.tap := by
  have known := (s.accounts[e.tap]).hasBlock_iff e.block
  unfold State.accountJob
  refine congrArg (State.closeComplete · e.tap) ?_
  cases has : (s.accounts[e.tap]).hasBlock e.block with
  | true =>
    rw [if_neg (by decide)]
    refine State.modAccount_congr ?_
    rw [TapAccount.afterJob, TapAccount.lateAfter, if_pos (known.mp has)]
    rfl
  | false =>
    rw [if_pos (by decide), State.modAccount_modAccount]
    refine State.modAccount_congr ?_
    rw [TapAccount.afterJob, TapAccount.lateAfter, if_neg (by rw [← known, has]; exact Bool.false_ne_true)]
    rfl

/-! ## What the close tests keep of the accounts -/

section
variable (s : State) (tap : TapId)

theorem State.closeTest_account : ∃ l n, (s.closeTest tap).accounts[tap] = s.accounts[tap].holding l n := by
  cases held : s.accounts[tap].accumulators with
  | nil => exact ⟨_, _, congrArg (fun m : State => m.accounts[tap]) (State.closeTest_nil held)⟩
  | cons a rest =>
    cases complete : a.isComplete with
    | false => exact ⟨_, _, congrArg (fun m : State => m.accounts[tap]) (State.closeTest_open held complete)⟩
    | true =>
      refine ⟨rest, 0, ?_⟩
      rw [State.closeTest_complete held complete, State.modAccount_accounts, if_pos rfl, State.receive_accounts]

theorem State.closeTest_other {other : TapId} (h : other ≠ tap) :
    (s.closeTest tap).accounts[other] = s.accounts[other] := by
  cases held : s.accounts[tap].accumulators with
  | nil => rw [State.closeTest_nil held]
  | cons a rest =>
    cases complete : a.isComplete with
    | false => rw [State.closeTest_open held complete]
    | true =>
      rw [State.closeTest_complete held complete, State.modAccount_accounts, if_neg h.symm, State.receive_accounts]

theorem State.closeComplete_account : ∃ l n, (s.closeComplete tap).accounts[tap] = s.accounts[tap].holding l n := by
  obtain ⟨l, n, first⟩ := s.closeTest_account tap
  obtain ⟨m, k, second⟩ := (s.closeTest tap).closeTest_account tap
  exact ⟨m, k, by rw [State.closeComplete, second, first]; rfl⟩

theorem State.closeComplete_other {other : TapId} (h : other ≠ tap) :
    (s.closeComplete tap).accounts[other] = s.accounts[other] :=
  (State.closeTest_other _ tap h).trans (s.closeTest_other tap h)

/-- The close tests after an event, by the accumulators that close (R134). -/
theorem State.closeComplete_eq (two : s.accounts[tap].accumulators.length ≤ 2) : s.closeComplete tap =
    s.closedAs tap (completeOut s.accounts[tap].accumulators) (stayBehind s.accounts[tap].accumulators)
      s.accounts[tap].late := by
  have closed := s.closedAs_complete tap [] s.accounts[tap].accumulators s.accounts[tap].late two
  rwa [s.closedAs_nil tap] at closed

end

/-! ## The accounting of a completed job (R126, R133, R134, R136) -/

/-- What the accounting of a job leaves of its tap's registers and of the other taps. -/
structure JobAccounted (s t : State) (e : EntryHead) (c : CycleInfo) (x : Spectrum) : Prop where
  registers : ∀ i : Fin 48, t.accounts[e.tap].registers[i] =
    if e.snapshot.accounting = true ∧ i.val / 12 = e.tariff.val then
      (s.accounts[e.tap].registers[i].addEnergy s.accounts[e.tap].constant
        (contributions s.tables.groups x.active x.reactive e.snapshot.hMax c.length)[i.val % 12]).1
    else s.accounts[e.tap].registers[i]
  constant : t.accounts[e.tap].constant = s.accounts[e.tap].constant
  lastCycle : t.accounts[e.tap].lastCycle = some ⟨e.tracker, e.block, c.index⟩
  other : ∀ other : TapId, other ≠ e.tap → t.accounts[other] = s.accounts[other]

theorem State.accountJob_accounted (s : State) (e : EntryHead) (c : CycleInfo) (x : Spectrum) :
    JobAccounted s (s.accountJob e c x) e c x := by
  obtain ⟨l, n, account⟩ := (s.modAccount e.tap fun t => t.afterJob s.tables.groups e c x).closeComplete_account e.tap
  rw [← s.accountJob_eq, State.modAccount_accounts, if_pos rfl] at account
  refine ⟨fun i => ?_, ?_, ?_, fun other h => ?_⟩
  · rw [account]
    exact TapAccount.account_registers _ _ _ _ _ _ false _
  · rw [account]
    rfl
  · rw [account]
    rfl
  · rw [s.accountJob_eq, State.closeComplete_other _ _ h, State.modAccount_accounts, if_neg h.symm]

theorem State.accountJob_closes {s m : State} (same : SameOutside [.engine] s m) (e : EntryHead) (c : CycleInfo)
    (x : Spectrum) (two : s.accounts[e.tap].accumulators.length ≤ 2) :
    let l := s.accounts[e.tap].accumulators.map fun y => if y.block = e.block then
      y.counted true e.snapshot.accounting c.period
        (quotients s.accounts[e.tap] s.tables.groups e c x e.snapshot.hMax) x else y
    BlocksClose s (m.accountJob e c x) e.tap [] l (s.accounts[e.tap].lateAfter e.block) ∧
      (m.accountJob e c x).ports =
        (s.received (closedBlocks s e.tap [] l (s.accounts[e.tap].lateAfter e.block))).ports := by
  intro l
  have accounts : m.accounts = s.accounts := same.get .accounts
  have tables : m.tables = s.tables := same.get .tables
  let n := m.modAccount e.tap fun t => t.afterJob m.tables.groups e c x
  have account : n.accounts[e.tap] = s.accounts[e.tap].afterJob s.tables.groups e c x := by
    rw [State.modAccount_accounts, if_pos rfl, accounts, tables]
  have held : n.accounts[e.tap].accumulators = l := by
    rw [account]
    exact TapAccount.account_accumulators _ _ _ _ _ _ _
  have late : n.accounts[e.tap].late = s.accounts[e.tap].lateAfter e.block := by
    rw [account]
    rfl
  have frame : SameOutside [.engine, .accounts] s n := same.andThen (State.modAccount_frame _ _ _)
  have closed : m.accountJob e c x = n.closedAs e.tap (forcedOut [] ++ completeOut l) (stayBehind l)
      (s.accounts[e.tap].lateAfter e.block) := by
    rw [m.accountJob_eq, State.closeComplete_eq n e.tap (by rw [held]; simpa [l] using two), held, late]
    rfl
  rw [closed]
  exact State.closedAs_closes frame (by rw [account]; rfl) [] l _

end Sys2Proof.Machine
end


section
/-! SUPPORT. The take of a job and the completion of the job in flight (R110, R118, R119, R121). -/

namespace Sys2Proof.Machine

set_option Elab.async false

open Sys2Proof

/-! ## The engine -/

section
variable {e : Engine} (idle : e.flight = none)
include idle

theorem Engine.take_empty (empty : e.queue = []) : e.take = e := by rw [Engine.take, idle, empty]

theorem Engine.take_oldest {j : Job} {rest : List Job} (queue : e.queue = j :: rest) :
    e.take = { e with queue := rest, flight := some ⟨j, 1000 + 1536 * j.head.snapshot.hMax⟩ } := by
  rw [Engine.take, idle, queue]
  rfl

end

theorem Engine.take_keeps (e : Engine) :
    e.take.store = e.store ∧ e.take.held = e.held ∧ e.take.stale = e.stale ∧ e.take.window = e.window := by
  unfold Engine.take
  split <;> exact ⟨rfl, rfl, rfl, rfl⟩

section
variable (e : Engine) (j : Job) (phasors : Vector (List Phasor) 6)

theorem Engine.record_store : (e.record j phasors).store = upd e.store j.head.tap (some (storeOf j phasors)) := by
  unfold Engine.record
  dsimp only
  split <;> rfl

theorem Engine.record_flight : (e.record j phasors).flight = none := by
  unfold Engine.record
  dsimp only
  split <;> rfl

theorem Engine.record_window : (e.record j phasors).window = e.window := by
  unfold Engine.record
  dsimp only
  split <;> rfl

/-- A stale job is counted off, and its spectrum is not held (R119). -/
theorem Engine.record_stale (stale : 0 < e.stale[j.head.tap]) : (e.record j phasors).held = e.held ∧
    (e.record j phasors).stale = modAt e.stale j.head.tap (· - 1) := by
  unfold Engine.record
  dsimp only
  rw [if_pos stale]
  exact ⟨rfl, rfl⟩

theorem Engine.record_held (fresh : e.stale[j.head.tap] = 0) :
    (e.record j phasors).held = upd e.held j.head.tap (some (spectrumOf j.head.snapshot.hMax phasors)) ∧
      (e.record j phasors).stale = e.stale := by
  unfold Engine.record
  dsimp only
  rw [if_neg (by omega)]
  exact ⟨rfl, rfl⟩

theorem Engine.record_other {other : TapId} (h : other ≠ j.head.tap) :
    (e.record j phasors).store[other] = e.store[other] ∧ (e.record j phasors).held[other] = e.held[other] ∧
      (e.record j phasors).stale[other] = e.stale[other] := by
  refine ⟨?_, ?_⟩
  · rw [e.record_store j phasors]
    exact (getElem_upd _ _ _ _).trans (if_neg h.symm)
  · rcases Nat.eq_zero_or_pos e.stale[j.head.tap] with fresh | stale
    · obtain ⟨held, kept⟩ := e.record_held j phasors fresh
      rw [held, kept]
      exact ⟨(getElem_upd _ _ _ _).trans (if_neg h.symm), rfl⟩
    · obtain ⟨held, counted⟩ := e.record_stale j phasors stale
      rw [held, counted]
      exact ⟨rfl, getElem_modAt_other h⟩

end

/-! ## The waiting correction window (R45, R161) -/

section
variable {s : State}

theorem State.applyWaitingWindow_none (none : s.engine.window = none) : s.applyWaitingWindow = s := by
  rw [State.applyWaitingWindow, none]

theorem State.applyWaitingWindow_unserved {w : CorrectionWindow} (some : s.engine.window = some w)
    (idle : s.management.inService = none) :
    s.applyWaitingWindow = (s.applyCorrection w).setEngine { s.engine with window := none } := by
  have unserved : ((s.applyCorrection w).setEngine { s.engine with window := Option.none }).management.inService = none := idle
  rw [State.applyWaitingWindow, some]
  dsimp only
  rw [unserved]

theorem State.applyWaitingWindow_served {w : CorrectionWindow} {r : Request} (some : s.engine.window = some w)
    (serving : s.management.inService = .some r) :
    s.applyWaitingWindow = ((s.applyCorrection w).setEngine { s.engine with window := none }).answer r .done [] := by
  have served : ((s.applyCorrection w).setEngine { s.engine with window := none }).management.inService = .some r := serving
  rw [State.applyWaitingWindow, some]
  dsimp only
  rw [served]

theorem State.applyWaitingWindow_engine (s : State) : s.applyWaitingWindow.engine = { s.engine with window := none } := by
  cases window : s.engine.window with
  | none =>
    rw [State.applyWaitingWindow_none window, ← window]
  | some w =>
    cases serving : s.management.inService with
    | none =>
      rw [State.applyWaitingWindow_unserved window serving]
      rfl
    | some r =>
      rw [State.applyWaitingWindow_served window serving]
      exact (State.answer_frame _ r .done []).get .engine

theorem State.applyWaitingWindow_ports (h : s.engine.window = none ∨ s.management.inService = none) :
    s.applyWaitingWindow.ports = s.ports := by
  cases window : s.engine.window with
  | none => rw [State.applyWaitingWindow_none window]
  | some w =>
    have idle : s.management.inService = none := h.resolve_left (by rw [window]; exact Option.some_ne_none w)
    rw [State.applyWaitingWindow_unserved window idle]
    rfl

end

/-- The completion in its steps (R118). -/
theorem State.complete_engine (s : State) (j : Job) : (s.complete j).engine =
    ({ s.engine.record j (jobPhasors s.tables.corrections j) with window := none } : Engine).take := by
  unfold State.complete
  dsimp only
  rw [State.setEngine_engine, State.applyWaitingWindow_engine, (State.accountJob_frame _ _ _ _).get .engine]
  rfl

/-- The part after steps 1 to 3 of a completion: stores and accounts (R118). -/
def State.computed (s : State) (j : Job) : State :=
  (s.setEngine (s.engine.record j (jobPhasors s.tables.corrections j))).accountJob j.head j.cycle
    (spectrumOf j.head.snapshot.hMax (jobPhasors s.tables.corrections j))

theorem State.complete_eq (s : State) (j : Job) : s.complete j =
    (s.computed j).applyWaitingWindow.setEngine (s.computed j).applyWaitingWindow.engine.take := rfl

theorem State.computed_frame (s : State) (j : Job) :
    SameOutside [.engine, .accounts, .records, .ports, .latches] s (s.computed j) :=
  (s.setEngine_frame _).andThen (State.accountJob_frame _ _ _ _)

theorem State.computed_window (s : State) (j : Job) : (s.computed j).engine.window = s.engine.window := by
  rw [State.computed, (State.accountJob_frame _ _ _ _).get .engine]
  exact Engine.record_window _ _ _

theorem State.complete_computed (s : State) (j : Job) :
    SameOutside [.tables, .engine, .ports, .management] (s.computed j) (s.complete j) :=
  (State.applyWaitingWindow_frame _).andThen (State.setEngine_frame _ _)

/-! ## The completion (R118) -/

section
variable (s : State) (j : Job)

theorem State.complete_store : (s.complete j).engine.store[j.head.tap] =
    some (storeOf j (jobPhasors s.tables.corrections j)) := by
  rw [s.complete_engine j, (Engine.take_keeps _).1]
  change (s.engine.record j _).store[j.head.tap] = _
  rw [Engine.record_store]
  exact (getElem_upd _ _ _ _).trans (if_pos rfl)

theorem State.complete_window : (s.complete j).engine.window = none := by
  rw [s.complete_engine j, (Engine.take_keeps _).2.2.2]

theorem State.complete_held_stale : (s.complete j).engine.held =
      (s.engine.record j (jobPhasors s.tables.corrections j)).held ∧
    (s.complete j).engine.stale = (s.engine.record j (jobPhasors s.tables.corrections j)).stale := by
  obtain ⟨-, held, stale, -⟩ := Engine.take_keeps
    { s.engine.record j (jobPhasors s.tables.corrections j) with window := none }
  rw [s.complete_engine j]
  exact ⟨held, stale⟩

theorem State.complete_other {other : TapId} (h : other ≠ j.head.tap) :
    (s.complete j).engine.store[other] = s.engine.store[other] ∧
      (s.complete j).engine.held[other] = s.engine.held[other] ∧
      (s.complete j).engine.stale[other] = s.engine.stale[other] := by
  obtain ⟨held, stale⟩ := s.complete_held_stale j
  have store : (s.complete j).engine.store = (s.engine.record j (jobPhasors s.tables.corrections j)).store := by
    rw [s.complete_engine j, (Engine.take_keeps _).1]
  rw [store, held, stale]
  exact s.engine.record_other j _ h

theorem State.complete_empty (empty : s.engine.queue = []) :
    (s.complete j).engine.queue = [] ∧ (s.complete j).engine.flight = none := by
  have idle := s.engine.record_flight j (jobPhasors s.tables.corrections j)
  have queue := (s.engine.record_queue j (jobPhasors s.tables.corrections j)).trans empty
  rw [s.complete_engine j, Engine.take_empty (by exact idle) (by exact queue)]
  exact ⟨queue, idle⟩

theorem State.complete_next {next : Job} {rest : List Job} (waiting : s.engine.queue = next :: rest) :
    (s.complete j).engine.queue = rest ∧
      (s.complete j).engine.flight = some ⟨next, 1000 + 1536 * next.head.snapshot.hMax⟩ := by
  have idle := s.engine.record_flight j (jobPhasors s.tables.corrections j)
  have queue := (s.engine.record_queue j (jobPhasors s.tables.corrections j)).trans waiting
  rw [s.complete_engine j, Engine.take_oldest (by exact idle) (by exact queue)]
  exact ⟨rfl, rfl⟩

theorem State.complete_accounted : JobAccounted s (s.complete j) j.head j.cycle
    (spectrumOf j.head.snapshot.hMax (jobPhasors s.tables.corrections j)) := by
  obtain ⟨registers, constant, lastCycle, other⟩ :=
    State.accountJob_accounted (s.setEngine (s.engine.record j (jobPhasors s.tables.corrections j))) j.head j.cycle
      (spectrumOf j.head.snapshot.hMax (jobPhasors s.tables.corrections j))
  have accounts : (s.complete j).accounts = (s.computed j).accounts := (s.complete_computed j).get .accounts
  rw [← State.computed, ← accounts] at registers constant lastCycle other
  exact ⟨registers, constant, lastCycle, other⟩

/-- The accumulators of a tap after a completed job, before the close tests (R133). -/
def State.countedJob : List Accumulator :=
  s.accounts[j.head.tap].accumulators.map fun y => if y.block = j.head.block then
    y.counted true j.head.snapshot.accounting j.cycle.period
      (quotients s.accounts[j.head.tap] s.tables.groups j.head j.cycle
        (spectrumOf j.head.snapshot.hMax (jobPhasors s.tables.corrections j)) j.head.snapshot.hMax)
      (spectrumOf j.head.snapshot.hMax (jobPhasors s.tables.corrections j)) else y

theorem State.complete_closes (two : s.accounts[j.head.tap].accumulators.length ≤ 2) :
    BlocksClose s (s.complete j) j.head.tap [] (s.countedJob j) (s.accounts[j.head.tap].lateAfter j.head.block) ∧
      (s.computed j).ports = (s.received (closedBlocks s j.head.tap [] (s.countedJob j)
        (s.accounts[j.head.tap].lateAfter j.head.block))).ports := by
  obtain ⟨⟨left, late, records, latches⟩, ports⟩ := State.accountJob_closes
    (s.setEngine_frame (s.engine.record j (jobPhasors s.tables.corrections j))) j.head j.cycle
    (spectrumOf j.head.snapshot.hMax (jobPhasors s.tables.corrections j)) two
  rw [← State.computed] at left late records latches ports
  have accounts : (s.complete j).accounts = (s.computed j).accounts := (s.complete_computed j).get .accounts
  refine ⟨⟨?_, ?_, ?_, ?_⟩, ports⟩
  · rw [accounts]
    exact left
  · rw [accounts]
    exact late
  · exact ((s.complete_computed j).get .records).trans records
  · exact ((s.complete_computed j).get .latches).trans latches

/-- A job that finds no open accumulator is late, and no block closes (R136). -/
theorem State.complete_late (none : s.accounts[j.head.tap].accumulators = []) :
    (s.complete j).accounts[j.head.tap].late = min 65535 (s.accounts[j.head.tap].late + 1) ∧
      (s.complete j).records = s.records := by
  obtain ⟨⟨-, late, records, -⟩, -⟩ := s.complete_closes j (by rw [none]; exact Nat.zero_le 2)
  have counted : s.countedJob j = [] := by rw [State.countedJob, none, List.map_nil]
  have tally : s.accounts[j.head.tap].lateAfter j.head.block = min 65535 (s.accounts[j.head.tap].late + 1) := by
    rw [TapAccount.lateAfter, none]
    exact if_neg fun ⟨_, member, _⟩ => List.not_mem_nil member
  rw [counted, tally] at late records
  exact ⟨late, records⟩

theorem State.complete_ports_quiet (h : s.engine.window = none ∨ s.management.inService = none) :
    (s.complete j).ports = (s.computed j).ports :=
  State.applyWaitingWindow_ports (s := s.computed j)
    (by rwa [s.computed_window j, (s.computed_frame j).get .management])

end

/-- A waiting window is written to its class, and its request answered (R45, R161). -/
theorem State.applyWaitingWindow_answers {s : State} {w : CorrectionWindow} {r : Request}
    (window : s.engine.window = some w) (serving : s.management.inService = some r) :
    s.applyWaitingWindow.management.inService = none ∧
    s.applyWaitingWindow.ports = s.chosenB { s.ports with answerSlot := some ⟨r.source, r.tag, r.kind, .done, []⟩ } ∧
    s.applyWaitingWindow.tables = { s.tables with
      corrections := modAt s.tables.corrections w.table fun t => writeWindow t w.start w.entries } := by
  rw [State.applyWaitingWindow_served window serving]
  exact ⟨(State.answer_answered _ r .done []).idle, State.answer_ports _ r .done [],
    (State.answer_frame _ r .done []).get .tables⟩

theorem State.complete_served {s : State} (j : Job) {w : CorrectionWindow} {r : Request}
    (window : s.engine.window = some w) (serving : s.management.inService = some r) :
    (s.complete j).management.inService = none ∧
    (s.complete j).ports = s.chosenB { (s.computed j).ports with answerSlot := some ⟨r.source, r.tag, r.kind, .done, []⟩ } ∧
    (s.complete j).tables = { s.tables with
      corrections := modAt s.tables.corrections w.table fun t => writeWindow t w.start w.entries } := by
  have frame := s.computed_frame j
  have serves : (s.computed j).management.inService = some r :=
    (congrArg Management.inService (frame.get .management)).trans serving
  obtain ⟨idle, placed, tables⟩ := State.applyWaitingWindow_answers ((s.computed_window j).trans window) serves
  have same : (s.computed j).tables = s.tables := frame.get .tables
  rw [s.complete_eq j]
  refine ⟨idle, placed.trans (State.chosenB_congr (frame.get .straps) (frame.get .resetLine) _), ?_⟩
  rw [← same]
  exact tables

theorem writeWindow_at {α : Type} {l : List α} (v : Vector α 50) (i : Nat) (k : Fin 50) (fits : l.length ≤ 50) :
    (writeWindow v i l)[k] = (l[(k.val + 50 - i % 50) % 50]?).getD v[k] := by
  have low := k.isLt
  have own : (i + (k.val + 50 - i % 50) % 50) % 50 = k.val := by omega
  rcases Nat.lt_or_ge ((k.val + 50 - i % 50) % 50) l.length with inside | outside
  · rw [writeWindow_inside fits inside own, List.getElem?_eq_getElem inside]
    rfl
  · rw [writeWindow_outside fun m below same => by omega, List.getElem?_eq_none outside]
    rfl

/-- Settles O45: the completion as the engine's record, the job's accounting, the waiting window and the next take. -/
theorem engineTakeAndCompletion : Obligations.EngineTakeAndCompletion := by
  unfold Obligations.EngineTakeAndCompletion
  refine ⟨fun s j rest running idle queue => ?_, fun s f running flight => ?_⟩
  · refine ⟨_, congrArg Host.Outcome.next (if_neg (by rw [running]; exact Bool.false_ne_true)), s.setEngine_frame _, ?_⟩
    exact Engine.take_oldest idle queue
  obtain ⟨held, stale⟩ := s.complete_held_stale f.job
  obtain ⟨registers, constant, lastCycle, other⟩ := s.complete_accounted f.job
  have completes : exec .jobCompletion s = .next (s.complete f.job) := by
    change execJobCompletion s = _
    rw [execJobCompletion, flight]
    exact congrArg Host.Outcome.next (if_neg (by rw [running]; exact Bool.false_ne_true))
  refine ⟨s.complete f.job, completes, (s.complete_frame f.job).wider, s.complete_store f.job, fun stales => ?_,
    fun fresh => ?_, fun tap h => ?_, s.complete_empty f.job, fun j rest => s.complete_next f.job, registers, constant,
    lastCycle, s.complete_late f.job, fun two => ?_, s.complete_window f.job, fun none => ?_, fun w r window serving => ?_⟩
  · obtain ⟨kept, counted⟩ := s.engine.record_stale f.job (jobPhasors s.tables.corrections f.job) stales
    rw [held, stale, kept, counted]
    exact ⟨rfl, getElem_modAt_same _ _ _⟩
  · obtain ⟨new, kept⟩ := s.engine.record_held f.job (jobPhasors s.tables.corrections f.job) fresh
    rw [held, stale, new, kept]
    exact ⟨(getElem_upd _ _ _ _).trans (if_pos rfl), fresh⟩
  · obtain ⟨store, spectrum, count⟩ := s.complete_other f.job h
    exact ⟨store, spectrum, count, other tap h⟩
  · obtain ⟨closes, ports⟩ := s.complete_closes f.job two
    refine ⟨closes, fun quiet => (s.complete_ports_quiet f.job quiet).trans ports, fun r waits serving => ?_⟩
    obtain ⟨w, window⟩ := Option.isSome_iff_exists.mp waits
    obtain ⟨-, placed, -⟩ := State.complete_served f.job window serving
    rw [placed, ports]
    exact s.chosenB_running running _
  · have unchanged := State.applyWaitingWindow_none ((s.computed_window f.job).trans none)
    rw [s.complete_eq, unchanged]
    exact ⟨(s.computed_frame f.job).get .tables, (s.computed_frame f.job).get .management⟩
  · obtain ⟨served, placed, tables⟩ := State.complete_served f.job window serving
    refine ⟨by rw [tables], fun y h => ?_, fun fits k => ?_, ?_, served⟩
    · rw [tables]
      exact getElem_modAt_other h
    · rw [tables]
      exact (congrArg (fun v : Vector CorrectionEntry 50 => v[k]) (getElem_modAt_same _ _ _)).trans (writeWindow_at _ _ k fits)
    · rw [placed, State.chosenB_running running, Ports.chooseB_answerSlot]

end Sys2Proof.Machine
end


section
/-! SUPPORT. An admitted SAMPLE SET at the intake: calibration, the samples handed on, and what a taken frame leaves of
the intake and the latches (R51 to R62). -/

namespace Sys2Proof.Machine

set_option Elab.async false

open Sys2Proof

variable {s t u : State} {x : SampleSet}

/-! ## Calibration and clips (R59 to R61) -/

theorem calibrateSet_eq (s : State) (x : SampleSet) :
    calibrateSet s.tables.channels (channelCount s.agreement.profile) x = Vector.ofFn (calibratedValue s x) := by
  unfold calibrateSet calibratedValue
  refine congrArg Vector.ofFn (funext fun c => ?_)
  split
  · exact clampInt_eq (by decide) _
  · rfl

theorem getElem_clampedSet (s : State) (x : SampleSet) (c : Channel) :
    (clampedSet s.tables.channels (channelCount s.agreement.profile) x)[c] = clamped s x c := by
  rw [clampedSet, getElem_ofFn_fin, clamped, ← Bool.decide_and, decide_eq_decide]
  refine and_congr_right fun present => ?_
  rw [calibratedValue, if_pos present, clampValue, clampInt_eq (by decide)]
  exact ne_comm

theorem clampedSet_any (s : State) (x : SampleSet) :
    (clampedSet s.tables.channels (channelCount s.agreement.profile) x).toList.any id =
      decide (∃ c : Channel, clamped s x c = true) := by
  rw [Bool.eq_iff_iff, Vector.toList_eq_map, List.any_map, List.any_eq_true, decide_eq_true_iff]
  refine ⟨fun ⟨c, _, h⟩ => ⟨c, ?_⟩, fun ⟨c, h⟩ => ⟨c, List.mem_finRange c, ?_⟩⟩
  · rw [← getElem_clampedSet s x c]
    exact h
  · rw [← getElem_clampedSet s x c] at h
    exact h

/-- The clips of a frame, as the intake counts them. -/
def State.clipped (s : State) (x : SampleSet) : State :=
  s.countClips (clampedSet s.tables.channels (channelCount s.agreement.profile) x)

theorem State.clipped_counted (s : State) (x : SampleSet) : ClipsCounted s (s.clipped x) x := by
  have filter (tap : TapId) : ((s.tapEntry tap).channels.toList.filter fun c =>
      (clampedSet s.tables.channels (channelCount s.agreement.profile) x)[c]) =
        (s.tapEntry tap).channels.toList.filter (clamped s x) :=
    List.filter_congr fun c _ => getElem_clampedSet s x c
  refine ⟨s.countClips_frame _, ?_, ?_, fun tap => ?_⟩
  · unfold State.clipped State.countClips
    rw [clampedSet_any]
    cases decide (∃ c : Channel, clamped s x c = true) <;> simp [State.mapFormerTaps]
  · unfold State.clipped State.countClips
    dsimp only
    split <;> rfl
  · have taps : (s.clipped x).former.taps[tap] = if s.former.taps[tap].collect = .collecting then
        { s.former.taps[tap] with clips := satAdd 65535 s.former.taps[tap].clips (((s.tapEntry tap).channels.toList.filter fun c =>
              (clampedSet s.tables.channels (channelCount s.agreement.profile) x)[c])).length }
        else s.former.taps[tap] := by
      unfold State.clipped State.countClips
      dsimp only
      split <;> exact State.mapFormerTaps_taps _ _ tap
    rw [taps, filter]
    rfl

/-! ## Input samples (R61, R62, R80, R92) -/

theorem State.namesAbsent_eq (s : State) (tap : TapId) : s.namesAbsent tap =
    decide (∃ c ∈ (s.tapEntry tap).channels.toList, channelCount s.agreement.profile ≤ c.val) := by
  rw [Bool.eq_iff_iff, State.namesAbsent, List.any_eq_true, decide_eq_true_iff]
  simp [State.channelAbsent]

theorem State.sampleTaps_former (s : State) :
    s.sampleTaps.former = { s.former with taps := Vector.ofFn (sampledTap s) } := by
  unfold State.sampleTaps State.mapFormerTaps
  simp only [State.setFormer_former, State.namesAbsent_eq]
  congr 1

theorem State.trackerOrder_free (s : State) : s.trackerOrder = [0, 1] ∨
    (s.trackerOrder = [1, 0] ∧ ∀ u : TrackerId, s.trackers[u].state.isRunning = true) := by
  unfold State.trackerOrder
  split
  · next both =>
    obtain ⟨zero, one⟩ := Bool.and_eq_true_iff.mp both
    refine (ite_eq_or_eq _ _ _).symm.imp id fun order => ⟨order, fun u => ?_⟩
    fin_cases u
    · exact zero
    · exact one
  · exact .inl rfl

/-- The part with an input sample counted and brought to the taps, before the trackers work. -/
def State.sampled (s : State) (values : ChannelValues) : State :=
  (s.setIntake { s.intake with current := values, count := s.intake.count + 1 }).sampleTaps

theorem State.handOn_handed (s : State) (values : ChannelValues) (filled start : Bool) :
    SampleHandedOn s (s.handOn values filled start) values filled start := by
  let m := (s.sampled values).advanceChoice
  have chosen : SameOutside [.choices] (s.sampled values) m := State.advanceChoice_frame _
  have frame : SameOutside [.intake, .former, .choices] s m :=
    ((s.setIntake_frame _).andThen (State.sampleTaps_frame _) (n := [.intake, .former, .choices])).andThen
      (State.advanceChoice_frame _)
  refine ⟨m, (s.sampled values).trackerOrder, frame, chosen.get .intake, ?_, State.trackerOrder_free _, rfl⟩
  exact (chosen.get .former).trans (State.sampleTaps_former (s.setIntake _))

theorem State.fill_filled (g : Nat) : ∀ s : State, SamplesFilled g s (s.fill g) := by
  induction g with
  | zero => exact fun s => rfl
  | succ g ih => exact fun s => ⟨_, s.handOn_handed s.intake.current true false, ih _⟩

theorem State.takeFrame_eq (s : State) (x : SampleSet) (start : Bool) : s.takeFrame x start =
    ((s.clipped x).handOn (Vector.ofFn (calibratedValue s x)) false start).awaitNext x.sequence := by
  rw [← calibrateSet_eq]
  rfl

theorem State.takeFrame_taken (s : State) (x : SampleSet) (start : Bool) : FrameTaken s (s.takeFrame x start) x start :=
  ⟨s.clipped x, _, s.clipped_counted x, State.handOn_handed _ _ false start, s.takeFrame_eq x start⟩

/-! ## What samples leave of the intake and the latches -/

theorem State.handOn_intake (s : State) (values : ChannelValues) (filled start : Bool) :
    (s.handOn values filled start).intake = { s.intake with current := values, count := s.intake.count + 1 } := by
  have worked : SameOutside cycleBlocks (s.sampled values).advanceChoice (s.handOn values filled start) :=
    SameOutside.foldl (fun k u => k.trackerSample_frame _ values filled start u) _ _
  exact (worked.get .intake).trans ((State.advanceChoice_frame _).get .intake)

theorem State.fill_intake (g : Nat) : ∀ s : State, (s.fill g).intake =
    { s.intake with count := s.intake.count + BitVec.ofNat 32 g } := by
  induction g with
  | zero => exact fun s => by simp [State.fill]
  | succ g ih =>
    intro s
    rw [State.fill, ih, State.handOn_intake]
    have one : 1 + BitVec.ofNat 32 g = BitVec.ofNat 32 (g + 1) := by
      rw [Nat.add_comm]
      exact (BitVec.ofNat_add 1 g).symm
    dsimp only
    rw [BitVec.add_assoc, one]

/-- Facts of a frame that has been taken, `samples` input samples later: the intake, and the latches. -/
structure FrameCounted (s t : State) (x : SampleSet) (samples : Nat) : Prop where
  intake : t.intake = { s.intake with
    stream := .running, expected := some (x.sequence + 1), silence := .running s.tables.station.silenceMs
    current := Vector.ofFn (calibratedValue s x), count := s.intake.count + BitVec.ofNat 32 samples }
  clipped : (∃ c : Channel, clamped s x c = true) → t.latches.clipped = true
  latches : t.latches.gapFilled = s.latches.gapFilled ∧ t.latches.streamIntact = s.latches.streamIntact
  notices : s.ports.noticeQueue <+: t.ports.noticeQueue

theorem State.takeFrame_counted (s : State) (x : SampleSet) (start : Bool) :
    FrameCounted s (s.takeFrame x start) x 1 := by
  have counted := s.clipped_counted x
  have quiet := (s.clipped x).handOn_notifying (Vector.ofFn (calibratedValue s x)) false start
  have orderly := ((s.countClips_lawful (clampedSet s.tables.channels (channelCount s.agreement.profile) x)).trans
    (State.handOn_lawful (s.clipped x) (Vector.ofFn (calibratedValue s x)) false start)).orderly
  have samples := (s.clipped x).handOn_intake (Vector.ofFn (calibratedValue s x)) false start
  have awaits := ((s.clipped x).handOn (Vector.ofFn (calibratedValue s x)) false start).awaitNext_frame x.sequence
  rw [s.takeFrame_eq]
  generalize (s.clipped x).handOn (Vector.ofFn (calibratedValue s x)) false start = n at *
  generalize s.clipped x = m at *
  have intake : m.intake = s.intake := counted.frame.get .intake
  have ports : m.ports = s.ports := counted.frame.get .ports
  have latches : (n.awaitNext x.sequence).latches = n.latches := awaits.get .latches
  have kept : (n.awaitNext x.sequence).ports = n.ports := awaits.get .ports
  have station : n.tables.station = s.tables.station := by rw [orderly.tables]
  refine ⟨?_, fun clips => ?_, ⟨?_, ?_⟩, ?_⟩
  · rw [State.awaitNext, State.setIntake_intake, samples, station, intake]
    rfl
  · rw [latches, quiet.latches, counted.latches, decide_eq_true clips, Bool.or_true]
  · rw [latches, quiet.latches, counted.latches]
  · rw [latches, quiet.latches, counted.latches]
  · rw [kept, ← ports]
    exact quiet.notices

end Sys2Proof.Machine
end


section
/-! SUPPORT. An admitted SAMPLE SET by its distance from the expected number, beside its place in the forward queue (R5,
R52 to R58). -/

namespace Sys2Proof.Machine

set_option Elab.async false

open Sys2Proof

variable {s a b t m : State} {x : SampleSet}

/-! ## The forward queue's part (R5, R8) -/

/-- From s to t at most a frame has entered the forward queue, or been lost. -/
structure Passed (s t : State) : Prop where
  frame : SameOutside [.choices, .ports, .latches] s t
  latches : t.latches = { s.latches with forwardDropped := t.latches.forwardDropped }
  notices : t.ports.noticeQueue = s.ports.noticeQueue

theorem Passed.refl (s : State) : Passed s s := ⟨.refl _ s, rfl, rfl⟩

theorem Passed.trans (h : Passed s t) (g : Passed t m) : Passed s m :=
  ⟨h.frame.trans g.frame, by rw [g.latches, h.latches], g.notices.trans h.notices⟩

theorem Passed.setChoices (s : State) (n : Nat) : Passed s (s.setChoices n) := ⟨(s.setChoices_frame n).wider, rfl, rfl⟩

theorem Entered.passed {bytes : Bytes} (h : Entered s t bytes) : Passed s t := by
  rcases Nat.lt_or_ge s.ports.forwardQueue.length 32 with room | full
  · rw [h.room room]
    exact ⟨(s.setPorts_frame _).wider, rfl, Ports.chooseB_noticeQueue _ _⟩
  · rw [h.full full]
    exact ⟨(s.setLatches_frame _).wider, rfl, rfl⟩

theorem Forwarded.passed {bytes : Bytes} (h : Forwarded s a b t bytes) : Passed s a ∧ Passed b t := by
  cases forwarding : s.tables.station.forwarding with
  | false =>
    obtain ⟨rfl, rfl⟩ := h.off forwarding
    exact ⟨.refl _, .refl _⟩
  | true =>
    obtain ⟨n, ⟨rfl, entered⟩ | ⟨entered, rfl⟩⟩ := h.on forwarding
    · exact ⟨.setChoices s n, entered.passed⟩
    · exact ⟨(Passed.setChoices s n).trans entered.passed, .refl _⟩

/-! ## The frame by its distance (R52 to R58) -/

theorem Admitted.congr {p : ProfileCode} (h : Admitted s x p) (same : a.agreement = s.agreement) : Admitted a x p :=
  ⟨same ▸ h.agreed, same ▸ h.profile, h.code, h.count, h.length⟩

theorem State.sampleSet_admits {p : ProfileCode} (h : Admitted s x p) : s.sampleSet x = s.admitSet x := by
  have form : x.formOk p = true := by
    unfold SampleSet.formOk
    exact Bool.and_eq_true_iff.mpr ⟨decide_eq_true h.count, decide_eq_true h.length⟩
  unfold State.sampleSet State.intakeSampleSet
  rw [h.agreed]
  exact if_pos ⟨h.code, form⟩

theorem State.admitSet_waiting (waiting : s.intake.stream = .waiting) : s.admitSet x = s.takeFrame x true := by
  rw [State.admitSet, waiting]

theorem State.admitSet_running {e : BitVec 16} (running : s.intake.stream = .running)
    (expected : s.intake.expected = some e) : s.admitSet x = s.sequenceCheck x (x.sequence - e).toNat := by
  rw [State.admitSet, running, expected]

theorem State.sequenceCheck_next (s : State) (x : SampleSet) : s.sequenceCheck x 0 = s.takeFrame x false := if_pos rfl

theorem State.sequenceCheck_gap {g : Nat} (low : 1 ≤ g) (high : g ≤ 8) : s.sequenceCheck x g =
    ((s.setLatches { s.latches with gapFilled := true }).fill g).takeFrame x false := by
  rw [State.sequenceCheck, if_neg (by omega), if_pos high]

theorem State.sequenceCheck_break {g : Nat} (low : 9 ≤ g) (high : g ≤ 32767) :
    s.sequenceCheck x g = (s.streamBreak .gap x.sequence).takeFrame x true := by
  rw [State.sequenceCheck, if_neg (by omega), if_neg (by omega), if_pos high]

theorem State.sequenceCheck_behind {g : Nat} (low : 32768 ≤ g) : s.sequenceCheck x g = s := by
  rw [State.sequenceCheck, if_neg (by omega), if_neg (by omega), if_neg (by omega)]

/-! ## What is left of the intake -/

theorem calibratedValue_congr (channels : m.tables.channels = s.tables.channels) (agreement : m.agreement = s.agreement)
    (c : Channel) : calibratedValue m x c = calibratedValue s x c := by
  unfold calibratedValue
  rw [channels, agreement]

theorem clamped_congr (channels : m.tables.channels = s.tables.channels) (agreement : m.agreement = s.agreement)
    (c : Channel) : clamped m x c = clamped s x c := by
  unfold clamped
  rw [channels, agreement, calibratedValue_congr channels agreement c]

/-- From s to m some samples may have been counted, and nothing that a frame's calibration reads has changed. -/
structure BeforeFrame (s m : State) (samples : Nat) : Prop where
  intake : m.intake = { s.intake with count := s.intake.count + BitVec.ofNat 32 samples }
  channels : m.tables.channels = s.tables.channels
  station : m.tables.station = s.tables.station
  agreement : m.agreement = s.agreement

theorem Passed.before (h : Passed s a) : BeforeFrame s a 0 := by
  have intake : a.intake = s.intake := h.frame.get .intake
  have tables : a.tables = s.tables := h.frame.get .tables
  exact ⟨by simp [intake], by rw [tables], by rw [tables], h.frame.get .agreement⟩

theorem BeforeFrame.trans {j k : Nat} (h : BeforeFrame s a j) (g : BeforeFrame a m k) : BeforeFrame s m (j + k) := by
  refine ⟨?_, g.channels.trans h.channels, g.station.trans h.station, g.agreement.trans h.agreement⟩
  rw [g.intake, h.intake]
  dsimp only
  rw [BitVec.add_assoc, ← BitVec.ofNat_add]

theorem State.fill_before (s : State) (x : Latches) (g : Nat) : BeforeFrame s ((s.setLatches x).fill g) g := by
  have orderly : Orderly s ((s.setLatches x).fill g) := ((s.setLatches_lawful x).trans (State.fill_lawful g _)).orderly
  refine ⟨State.fill_intake g _, by rw [orderly.tables], by rw [orderly.tables], ?_⟩
  exact (State.fill_frame g (s.setLatches x)).get .agreement

theorem State.streamBreak_before (s : State) (c : StreamCause) (n : BitVec 16) : BeforeFrame s (s.streamBreak c n) 0 := by
  have frame := s.streamBreak_frame c n
  have intake : (s.streamBreak c n).intake = s.intake := frame.get .intake
  have tables : (s.streamBreak c n).tables = s.tables := frame.get .tables
  exact ⟨by simp [intake], by rw [tables], by rw [tables], frame.get .agreement⟩

/-- A frame taken after some samples, and forwarded: what the statement of the intake says of it. -/
theorem FrameCounted.settled {samples n : Nat} (before : BeforeFrame s m samples) (taken : FrameCounted m b x n)
    (passed : Passed b t) : t.intake = { s.intake with
        stream := .running, expected := some (x.sequence + 1), silence := .running s.tables.station.silenceMs
        current := Vector.ofFn (calibratedValue s x), count := s.intake.count + BitVec.ofNat 32 (samples + n) } ∧
      ((∃ c : Channel, clamped s x c = true) → t.latches.clipped = true) := by
  have same : t.intake = b.intake := passed.frame.get .intake
  have values : calibratedValue m x = calibratedValue s x :=
    funext fun c => calibratedValue_congr before.channels before.agreement c
  have latches : t.latches.clipped = b.latches.clipped := by rw [passed.latches]
  refine ⟨?_, fun ⟨c, clips⟩ => latches.trans (taken.clipped ⟨c, ?_⟩)⟩
  · rw [same, taken.intake, before.intake, before.station, values]
    dsimp only
    rw [BitVec.add_assoc, ← BitVec.ofNat_add]
  · exact (clamped_congr before.channels before.agreement c).trans clips

/-- The intake and the latches after a frame that was taken, in the words of the statement (R52, R59, R60, R62). -/
theorem taken_of_settled {p : ProfileCode} {samples : Nat} (profile : s.agreement.profile = p)
    (h : t.intake = { s.intake with
        stream := .running, expected := some (x.sequence + 1), silence := .running s.tables.station.silenceMs
        current := Vector.ofFn (calibratedValue s x), count := s.intake.count + BitVec.ofNat 32 samples } ∧
      ((∃ c : Channel, clamped s x c = true) → t.latches.clipped = true)) :
    (∀ c : Channel, t.intake.current[c] = calibratedValue s x c) ∧ t.intake.stream = .running ∧
      t.intake.expected = some (x.sequence + 1) ∧ t.intake.silence = .running s.tables.station.silenceMs ∧
      t.intake.count = s.intake.count + BitVec.ofNat 32 samples ∧
      ((∃ c : Channel, c.val < channelCount p ∧ calibratedValue s x c ≠
        roundDiv ((x.value c.val - s.tables.channels[c].offset) * s.tables.channels[c].gain.toNat) 32768) →
          t.latches.clipped = true) := by
  obtain ⟨intake, clips⟩ := h
  rw [intake]
  refine ⟨fun c => getElem_ofFn_fin _ c, rfl, rfl, rfl, rfl, fun ⟨c, present, moved⟩ => clips ⟨c, ?_⟩⟩
  exact decide_eq_true ⟨by rw [profile]; exact present, moved⟩

/-- After filled samples a frame is taken with GAP_FILLED set (R54). -/
theorem State.fill_takeFrame_counted (s : State) (x : SampleSet) (g : Nat) : ∃ m, BeforeFrame s m g ∧
    FrameCounted m (((s.setLatches { s.latches with gapFilled := true }).fill g).takeFrame x false) x 1 ∧
    m.latches.gapFilled = true ∧ m.latches.streamIntact = s.latches.streamIntact := by
  have latches := (State.fill_notifying g (s.setLatches { s.latches with gapFilled := true })).latches
  refine ⟨_, s.fill_before _ g, State.takeFrame_counted _ x false, ?_, ?_⟩
  · rw [latches]
    rfl
  · rw [latches]
    rfl

/-- Settles O29: the delivery as a frame taken, samples filled before it, or a break before it, and what each leaves. -/
theorem admittedSampleFrames : Obligations.AdmittedSampleFrames := by
  intro s f x p arrival admitted
  obtain ⟨y, arrives, same⟩ := arrival.frame
  obtain ⟨a, forwarded⟩ := State.deliverStream_forwarded arrives.arrives.running f.bytes
    (f := fun s => s.sampleSet x) fun s => (s.sampleSet_frame _).get .resetLine
  have receives : s.receptionEnd .a f = s.deliverStream f.bytes fun s => s.sampleSet x := by
    rw [same]
    exact (s.receptionEnd_a arrives.arrives).trans (State.deliverA_sampleSet arrives)
  obtain ⟨before, after⟩ := forwarded.passed
  have admits : a.sampleSet x = a.admitSet x := State.sampleSet_admits (admitted.congr (before.frame.get .agreement))
  rw [admits] at forwarded after
  have intake : a.intake = s.intake := before.frame.get .intake
  have ready := before.before
  have waits (waiting : s.intake.stream = .waiting) : a.admitSet x = a.takeFrame x true :=
    State.admitSet_waiting (by rw [intake]; exact waiting)
  have runs (e : BitVec 16) (running : s.intake.stream = .running) (expected : s.intake.expected = some e) :
      a.admitSet x = a.sequenceCheck x (x.sequence - e).toNat :=
    State.admitSet_running (by rw [intake]; exact running) (by rw [intake]; exact expected)
  have frame : SameOutside (.intake :: .choices :: .trackers :: .tables ::
      [.former, .engine, .accounts, .records, .ports, .latches]) s (s.deliverStream f.bytes fun s => s.sampleSet x) :=
    (before.frame.andThen (a.admit_frame x) (n := sampleBlocks)).andThen after.frame
  have quietAfter : (s.deliverStream f.bytes fun s => s.sampleSet x).latches.gapFilled = (a.admitSet x).latches.gapFilled ∧
      (s.deliverStream f.bytes fun s => s.sampleSet x).latches.streamIntact = (a.admitSet x).latches.streamIntact := by
    rw [after.latches]
    exact ⟨rfl, rfl⟩
  have quietBefore : a.latches.gapFilled = s.latches.gapFilled ∧ a.latches.streamIntact = s.latches.streamIntact := by
    rw [before.latches]
    exact ⟨rfl, rfl⟩
  refine ⟨_, a, a.admitSet x, next_congr receives, forwarded, fun waiting => ?_, fun e running expected => ⟨fun near => ?_,
    fun low high => ?_, fun low high => ?_, fun behind => ?_⟩, frame, frame.get .agreement, fun waiting => ?_,
    fun e running expected => ⟨fun near => ?_, fun low high => ?_, fun low high => ?_, fun behind => ?_⟩⟩
  · rw [waits waiting]
    exact a.takeFrame_taken x true
  · rw [runs e running expected, near, State.sequenceCheck_next]
    exact a.takeFrame_taken x false
  · rw [runs e running expected, State.sequenceCheck_gap low high]
    exact ⟨_, State.fill_filled _ _, State.takeFrame_taken _ x false⟩
  · obtain ⟨breaks, noticed, broken⟩ := a.streamBreak_breaks .gap x.sequence
    rw [runs e running expected, State.sequenceCheck_break low high]
    rw [intake, expected, before.frame.get .agreement, admitted.profile, ← intake] at noticed
    exact ⟨_, breaks, broken, noticed, State.takeFrame_taken _ x true⟩
  · rw [runs e running expected, State.sequenceCheck_behind behind]
  · rw [waits waiting] at after quietAfter
    have taken := a.takeFrame_counted x true
    exact ⟨taken_of_settled admitted.profile (taken.settled ready after),
      (quietAfter.1.trans taken.latches.1).trans quietBefore.1, (quietAfter.2.trans taken.latches.2).trans quietBefore.2⟩
  · rw [runs e running expected, near, BitVec.sub_self, BitVec.toNat_zero, State.sequenceCheck_next] at after quietAfter
    have taken := a.takeFrame_counted x false
    exact ⟨taken_of_settled admitted.profile (taken.settled ready after),
      (quietAfter.1.trans taken.latches.1).trans quietBefore.1, (quietAfter.2.trans taken.latches.2).trans quietBefore.2⟩
  · rw [runs e running expected, State.sequenceCheck_gap low high] at after quietAfter
    obtain ⟨m, filled, taken, gap, intact⟩ := a.fill_takeFrame_counted x (x.sequence - e).toNat
    have settled := taken.settled (ready.trans filled) after
    rw [Nat.zero_add] at settled
    exact ⟨taken_of_settled admitted.profile settled, (quietAfter.1.trans taken.latches.1).trans gap,
      ((quietAfter.2.trans taken.latches.2).trans intact).trans quietBefore.2⟩
  · rw [runs e running expected, State.sequenceCheck_break low high] at after quietAfter
    obtain ⟨breaks, noticed, broken⟩ := a.streamBreak_breaks .gap x.sequence
    rw [intake, expected, before.frame.get .agreement, admitted.profile] at noticed
    have taken := (a.streamBreak .gap x.sequence).takeFrame_counted x true
    have queue : (a.streamBreak .gap x.sequence).ports.noticeQueue =
        queueNotices s.tables.station s.ports.noticeQueue [.stream p .gap e x.sequence 0 s.intake.count] := by
      have tables : a.tables = s.tables := before.frame.get .tables
      rw [congrArg Ports.noticeQueue noticed.ports, ← before.notices, ← tables]
      rfl
    refine ⟨taken_of_settled admitted.profile
      (taken.settled (ready.trans (a.streamBreak_before .gap x.sequence)) after),
      (quietAfter.2.trans taken.latches.2).trans ?_, ?_⟩
    · rw [noticed.latches]
    · rw [after.notices, ← queue]
      exact taken.notices
  · rw [runs e running expected, State.sequenceCheck_behind behind] at after forwarded
    have passed := before.trans after
    refine ⟨passed.frame.get .intake, passed.frame.get .trackers, passed.frame.get .former, passed.frame.get .engine,
      passed.frame.get .accounts, passed.frame.get .records, fun off => ?_⟩
    obtain ⟨same, delivered⟩ := forwarded.off off
    exact delivered.trans same

end Sys2Proof.Machine
end


section
/-! SUPPORT. The registration of an entry with the accounting unit: the accumulators among which it finds its block, what
it adds there, and the blocks that close (R131 to R135). -/

namespace Sys2Proof.Machine

set_option Elab.async false

open Sys2Proof

/-! ## What an entry adds to an accumulator (R132, R133) -/

theorem Accumulator.takeHead_eq (a : Accumulator) (e : EntryHead) : a.takeHead e =
    { a with
      unaccounted := min (2 ^ 32 - 1) (a.unaccounted + e.unaccounted)
      snapshot := e.snapshot
      close := if e.close = none then a.close else e.close
      stamp := if e.close = none then a.stamp else e.stamp } := by
  unfold Accumulator.takeHead
  cases e.close <;> rfl

theorem Accumulator.takeCycle_eq (a : Accumulator) (c : CycleInfo) : a.takeCycle c = a.marked c := by
  simp only [Accumulator.takeCycle, Accumulator.marked, BlockFlags.takeCycle, Nat.pos_iff_ne_zero, satAdd]

theorem min_add_add (top a b c : Nat) : min top (min top (a + b) + c) = min top (a + b + c) := by omega

/-- What the head of an entry and then its kind add to the accumulator of its block (R132). -/
def Accumulator.entered (a : Accumulator) (x : Entry) (q : Vector Nat 12) : Accumulator :=
  match x with
  | .job e c => { (a.takeHead e).takeCycle c with outstanding := (a.takeHead e).outstanding + 1 }
  | .estimate e c copy => ((a.takeHead e).takeCycle c).account true e.snapshot.accounting c.period q copy
  | .dropped e c =>
    { (a.takeHead e).takeCycle c with
      dropped := (a.takeHead e).dropped + 1
      unaccounted := satAdd (2 ^ 32 - 1) (a.takeHead e).unaccounted c.length }
  | .close e => a.takeHead e

theorem Accumulator.entered_eq (a : Accumulator) (x : Entry) (q : Vector Nat 12) :
    a.entered x q = a.afterEntry x fun r => q[r] := by
  cases x with
  | job e c =>
    simp only [Accumulator.entered, Accumulator.afterEntry, Accumulator.takeCycle_eq, Accumulator.takeHead_eq]
    rfl
  | estimate e c copy =>
    simp only [Accumulator.entered, Accumulator.afterEntry, Accumulator.takeCycle_eq, Accumulator.takeHead_eq,
      Accumulator.account_eq]
    rfl
  | dropped e c =>
    simp only [Accumulator.entered, Accumulator.afterEntry, Accumulator.takeCycle_eq, Accumulator.takeHead_eq, satAdd,
      min_add_add]
    rfl
  | close e =>
    simp only [Accumulator.entered, Accumulator.afterEntry, Accumulator.takeHead_eq]
    rfl

/-! ## What it adds to its tap's account -/

/-- A change of the accumulators of a block. -/
theorem onBlock_onBlock (block : BitVec 32) {f g : Accumulator → Accumulator} (same : ∀ a, (g a).block = a.block)
    (l : List Accumulator) : onBlock block f (onBlock block g l) = onBlock block (fun a => f (g a)) l := by
  simp only [onBlock, List.map_map]
  refine List.map_congr_left fun a _ => ?_
  by_cases own : a.block = block
  · simp [own, same]
  · simp [own]

/-- A tap's account with an entry added to the accumulator of its block (R126, R129, R132, R133). -/
def TapAccount.enter (t : TapAccount) (groups : Vector GroupEntry 49) (x : Entry) : TapAccount :=
  match x with
  | .job e _ => { t with accumulators := onBlock e.block (·.entered x (Vector.replicate 12 0)) t.accumulators }
  | .estimate e c copy =>
    { t.accountCycle groups e c copy (min copy.h e.snapshot.hMax) with
      accumulators := onBlock e.block
        (·.entered x (t.cycleIncrements groups e c copy (min copy.h e.snapshot.hMax))) t.accumulators }
  | .dropped e c =>
    { t with
      accumulators := onBlock e.block (·.entered x (Vector.replicate 12 0)) t.accumulators
      lastCycle := some ⟨e.tracker, e.block, c.index⟩ }
  | .close e => { t with accumulators := onBlock e.block (·.entered x (Vector.replicate 12 0)) t.accumulators }

theorem State.registerKind_eq (s : State) (x : Entry) :
    (s.modAccount x.head.tap fun t =>
      { t with accumulators := onBlock x.head.block (·.takeHead x.head) t.accumulators }).registerKind x =
    s.modAccount x.head.tap fun t => t.enter s.tables.groups x := by
  cases x with
  | job e c =>
    refine (State.modAccount_modAccount s e.tap _ _).trans (State.modAccount_congr ?_)
    exact congrArg (fun l => { s.accounts[e.tap] with accumulators := l })
      (onBlock_onBlock e.block (g := (·.takeHead e)) (fun _ => rfl) s.accounts[e.tap].accumulators)
  | estimate e c copy =>
    refine ((congrArg (State.modAccount · e.tap _) (State.modAccount_modAccount s e.tap _ _)).trans
      (State.modAccount_modAccount s e.tap _ _)).trans (State.modAccount_congr ?_)
    exact congrArg
      (fun l => { s.accounts[e.tap].accountCycle s.tables.groups e c copy (min copy.h e.snapshot.hMax) with accumulators := l })
      ((congrArg (onBlock e.block _)
        (onBlock_onBlock e.block (f := (·.takeCycle c)) (g := (·.takeHead e)) (fun _ => rfl) s.accounts[e.tap].accumulators)).trans
        (onBlock_onBlock e.block (g := fun a => (a.takeHead e).takeCycle c) (fun _ => rfl) s.accounts[e.tap].accumulators))
  | dropped e c =>
    refine (State.modAccount_modAccount s e.tap _ _).trans (State.modAccount_congr ?_)
    exact congrArg
      (fun l => { s.accounts[e.tap] with accumulators := l, lastCycle := some ⟨e.tracker, e.block, c.index⟩ })
      (onBlock_onBlock e.block (g := (·.takeHead e)) (fun _ => rfl) s.accounts[e.tap].accumulators)
  | close e => rfl

/-- The quotients that an entry brings: an estimate's (R129). -/
def Entry.quotients (x : Entry) (a : TapAccount) (groups : Vector GroupEntry 49) : Fin 12 → Nat :=
  match x with
  | .estimate e c copy => Machine.quotients a groups e c copy (min copy.h e.snapshot.hMax)
  | .job _ _ | .dropped _ _ | .close _ => fun _ => 0

theorem TapAccount.enter_accumulators (t : TapAccount) (groups : Vector GroupEntry 49) (x : Entry) :
    (t.enter groups x).accumulators = t.accumulators.map fun y => if y.block = x.head.block then
      y.afterEntry x (x.quotients t groups) else y := by
  have zeros : (fun r : Fin 12 => (Vector.replicate 12 0)[r]) = fun _ => 0 := funext fun r => by simp
  cases x with
  | estimate e c copy =>
    have increments : (fun r : Fin 12 => (t.cycleIncrements groups e c copy (min copy.h e.snapshot.hMax))[r]) =
        Machine.quotients t groups e c copy (min copy.h e.snapshot.hMax) :=
      funext (t.cycleIncrements_eq groups e c copy _)
    simp only [TapAccount.enter, onBlock, Accumulator.entered_eq, increments]
    rfl
  | job e c | dropped e c | close e =>
    simp only [TapAccount.enter, onBlock, Accumulator.entered_eq, zeros]
    rfl

/-! ## The accumulator that an entry finds or opens (R131, R132, R137) -/

/-- A tap's account with an accumulator opened for an entry (R132, R137). -/
def TapAccount.opening (t : TapAccount) (e : EntryHead) : TapAccount :=
  { t with accumulators := t.accumulators ++ [.start e t.firstAfterReset], firstAfterReset := false }

section
variable {s : State} {e : EntryHead}

theorem State.openFor_known (known : ∃ y ∈ s.accounts[e.tap].accumulators, y.block = e.block) : s.openFor e = s :=
  if_pos ((TapAccount.hasBlock_iff _ _).mpr known)

theorem State.openFor_room (unknown : ¬∃ y ∈ s.accounts[e.tap].accumulators, y.block = e.block)
    (room : s.accounts[e.tap].accumulators.length < 2) :
    s.openFor e = s.modAccount e.tap fun t => t.opening e := by
  unfold State.openFor
  rw [if_neg (by rwa [TapAccount.hasBlock_iff])]
  dsimp only
  rw [if_pos room]
  rfl

theorem State.openFor_full (unknown : ¬∃ y ∈ s.accounts[e.tap].accumulators, y.block = e.block)
    (full : 2 ≤ s.accounts[e.tap].accumulators.length) :
    s.openFor e = ((s.closeOldest e.tap true).closeTest e.tap).modAccount e.tap fun t => t.opening e := by
  unfold State.openFor
  rw [if_neg (by rwa [TapAccount.hasBlock_iff])]
  dsimp only
  rw [if_neg (Nat.not_lt.mpr full)]
  rfl

end

end Sys2Proof.Machine
end


section
/-! SUPPORT. The registration of an entry as the blocks that close at it (R131 to R135). -/

namespace Sys2Proof.Machine

set_option Elab.async false

open Sys2Proof

/-! ## A change of a tap's account after closes -/

theorem State.received_modAccount (s : State) (l : List ClosedBlock) (tap : TapId) (f : TapAccount → TapAccount) :
    (s.modAccount tap f).received l = (s.received l).modAccount tap f := by
  unfold State.received
  induction l generalizing s with
  | nil => rfl
  | cons c l ih => rw [List.foldl_cons, List.foldl_cons, State.receive_modAccount, ih]

/-- A change h of the account that keeps the restore state and acts on the accumulators that stay. -/
theorem State.closedAs_modAccount (s : State) (tap : TapId) (out : List (CloseReason × Accumulator))
    (l m : List Accumulator) (late : Nat) {h : TapAccount → TapAccount}
    (restore : (h s.accounts[tap]).restore = s.accounts[tap].restore)
    (acts : h (s.accounts[tap].holding l (if out = [] then late else 0)) =
      (h s.accounts[tap]).holding m (if out = [] then late else 0)) :
    (s.closedAs tap out l late).modAccount tap h = (s.modAccount tap h).closedAs tap out m late := by
  have blocks : (s.modAccount tap h).blocksOf tap out late = s.blocksOf tap out late :=
    State.blocksOf_congr (by rw [State.modAccount_accounts, if_pos rfl, restore]) out late
  rw [State.closedAs, State.closing, State.modAccount_modAccount, State.closedAs, State.closing, blocks,
    State.received_modAccount, State.modAccount_modAccount]
  refine State.modAccount_congr ?_
  rw [State.received_accounts]
  exact acts

/-! ## The entry's own change of the account -/

/-- The account with an entry's accumulator opened where it has none, and the entry added (R131, R132). -/
def TapAccount.registering (t : TapAccount) (groups : Vector GroupEntry 49) (x : Entry) (known : Bool) : TapAccount :=
  if known then t.enter groups x else (t.opening x.head).enter groups x

section
variable (t : TapAccount) (groups : Vector GroupEntry 49) (x : Entry)

theorem TapAccount.enter_restore : (t.enter groups x).restore = t.restore := by cases x <;> rfl

theorem TapAccount.enter_late : (t.enter groups x).late = t.late := by cases x <;> rfl

theorem TapAccount.enter_firstAfterReset : (t.enter groups x).firstAfterReset = t.firstAfterReset := by cases x <;> rfl

theorem TapAccount.enter_blockNumber : (t.enter groups x).blockNumber = t.blockNumber := by cases x <;> rfl

/-- An entry adds the same to whatever accumulators a tap holds. -/
theorem TapAccount.enter_holding (l : List Accumulator) (n : Nat) : (t.holding l n).enter groups x =
    (t.enter groups x).holding (l.map fun y => if y.block = x.head.block then y.afterEntry x (x.quotients t groups) else y) n := by
  have accumulators := (t.holding l n).enter_accumulators groups x
  have quotients : x.quotients (t.holding l n) groups = x.quotients t groups := by cases x <;> rfl
  rw [quotients] at accumulators
  have rebuilt : (t.holding l n).enter groups x =
      (t.enter groups x).holding ((t.holding l n).enter groups x).accumulators n := by cases x <;> rfl
  exact rebuilt.trans (congrArg (fun m => TapAccount.holding m n (t.enter groups x)) accumulators)

end

/-- The accumulator that registration opens (R132, R137). -/
theorem Accumulator.start_eq (e : EntryHead) (first : Bool) : Accumulator.start e first =
    { block := e.block, tracker := e.tracker, tariff := e.tariff, snapshot := e.snapshot, cycles := 0
      analysed := 0, estimated := 0, dropped := 0, unaccounted := 0, outstanding := 0, close := none
      increments := Vector.replicate 12 0, periodSum := 0, fundamentalSums := Vector.replicate 6 0
      harmonicSums := Vector.replicate 6 0, clipTotal := 0
      flags := { firstAfterReset := first }, stamp := none } := rfl

/-- Front accumulators that have closed need not be tested again (R134). -/
theorem completeOut_append (a : Accumulator) (l : List Accumulator) :
    completeOut [a] ++ completeOut (stayBehind [a] ++ l) = completeOut (a :: l) ∧
      stayBehind (stayBehind [a] ++ l) = stayBehind (a :: l) := by
  cases complete : a.isComplete with
  | true =>
    rw [completeOut_cons complete, stayBehind_cons complete, completeOut_cons complete, stayBehind_cons complete]
    exact ⟨rfl, rfl⟩
  | false =>
    rw [completeOut_front complete, stayBehind_front complete]
    exact ⟨rfl, rfl⟩

/-! ## The registration (R131 to R135) -/

/-- The account's accumulators after an entry, before the close tests. -/
def TapAccount.afterRegister (a : TapAccount) (groups : Vector GroupEntry 49) (x : Entry) : List Accumulator :=
  (openedFor a x.head).map fun y => if y.block = x.head.block then y.afterEntry x (x.quotients a groups) else y

section
variable (s : State) (x : Entry)

theorem State.register_eq : s.register x =
    ((s.openFor x.head).modAccount x.head.tap fun t => t.enter (s.openFor x.head).tables.groups x).closeComplete x.head.tap :=
  congrArg (State.closeComplete · x.head.tap) (State.registerKind_eq _ x)

theorem State.openFor_groups (e : EntryHead) : (s.openFor e).tables.groups = s.tables.groups := by
  rw [(s.openFor_frame e).get .tables]

/-- The entry's change of the account, with its block known or not. -/
theorem State.register_plain {known : Bool}
    (opens : s.openFor x.head = if known then s else s.modAccount x.head.tap fun t => t.opening x.head)
    (two : (s.accounts[x.head.tap].registering s.tables.groups x known).accumulators.length ≤ 2) : s.register x =
    (s.modAccount x.head.tap fun t => t.registering s.tables.groups x known).closedAs x.head.tap
      (completeOut (s.accounts[x.head.tap].registering s.tables.groups x known).accumulators)
      (stayBehind (s.accounts[x.head.tap].registering s.tables.groups x known).accumulators)
      s.accounts[x.head.tap].late := by
  have changed : (s.openFor x.head).modAccount x.head.tap (fun t => t.enter (s.openFor x.head).tables.groups x) =
      s.modAccount x.head.tap fun t => t.registering s.tables.groups x known := by
    rw [s.openFor_groups, opens]
    cases known with
    | true => rfl
    | false => exact State.modAccount_modAccount s _ _ _
  have account : (s.modAccount x.head.tap fun t => t.registering s.tables.groups x known).accounts[x.head.tap] =
      s.accounts[x.head.tap].registering s.tables.groups x known := by
    rw [State.modAccount_accounts, if_pos rfl]
  have late : (s.accounts[x.head.tap].registering s.tables.groups x known).late = s.accounts[x.head.tap].late := by
    unfold TapAccount.registering
    split
    · exact TapAccount.enter_late _ _ _
    · exact TapAccount.enter_late _ _ _
  rw [s.register_eq, changed, State.closeComplete_eq _ _ (by rw [account]; exact two), account, late]

/-- Has the account an accumulator of the entry's block? -/
def TapAccount.finds (t : TapAccount) (e : EntryHead) : Bool := decide (∃ y ∈ t.accumulators, y.block = e.block)

theorem TapAccount.finds_true {t : TapAccount} {e : EntryHead} (h : ∃ y ∈ t.accumulators, y.block = e.block) :
    t.finds e = true := decide_eq_true h

theorem TapAccount.finds_false {t : TapAccount} {e : EntryHead} (h : ¬∃ y ∈ t.accumulators, y.block = e.block) :
    t.finds e = false := decide_eq_false h

/-- The part with the entry's own change of its tap's account, before any close. -/
def State.entered : State :=
  s.modAccount x.head.tap fun t => t.registering s.tables.groups x
    (s.accounts[x.head.tap].finds x.head)

theorem State.register_known (known : ∃ y ∈ s.accounts[x.head.tap].accumulators, y.block = x.head.block)
    (two : s.accounts[x.head.tap].accumulators.length ≤ 2) : s.register x =
    (s.entered x).closedAs x.head.tap (completeOut (s.accounts[x.head.tap].afterRegister s.tables.groups x))
      (stayBehind (s.accounts[x.head.tap].afterRegister s.tables.groups x)) s.accounts[x.head.tap].late := by
  have held : (s.accounts[x.head.tap].registering s.tables.groups x true).accumulators =
      s.accounts[x.head.tap].afterRegister s.tables.groups x := by
    rw [TapAccount.afterRegister, openedFor, if_pos known]
    exact TapAccount.enter_accumulators _ _ _
  have plain := s.register_plain x (known := true) (State.openFor_known known) (by
    rw [held, TapAccount.afterRegister, openedFor, if_pos known, List.length_map]
    exact two)
  rw [held] at plain
  rw [State.entered, TapAccount.finds_true known]
  exact plain

theorem State.register_room (unknown : ¬∃ y ∈ s.accounts[x.head.tap].accumulators, y.block = x.head.block)
    (room : s.accounts[x.head.tap].accumulators.length < 2) : s.register x =
    (s.entered x).closedAs x.head.tap (completeOut (s.accounts[x.head.tap].afterRegister s.tables.groups x))
      (stayBehind (s.accounts[x.head.tap].afterRegister s.tables.groups x)) s.accounts[x.head.tap].late := by
  have held : (s.accounts[x.head.tap].registering s.tables.groups x false).accumulators =
      s.accounts[x.head.tap].afterRegister s.tables.groups x := by
    have quotients : x.quotients (s.accounts[x.head.tap].opening x.head) s.tables.groups =
        x.quotients s.accounts[x.head.tap] s.tables.groups := by cases x <;> rfl
    rw [TapAccount.afterRegister, openedFor, if_neg unknown, if_pos room, ← quotients]
    exact TapAccount.enter_accumulators (s.accounts[x.head.tap].opening x.head) _ _
  have plain := s.register_plain x (known := false) (State.openFor_room unknown room) (by
    rw [held, TapAccount.afterRegister, openedFor, if_neg unknown, if_pos room, List.length_map, List.length_append,
      List.length_singleton]
    exact room)
  rw [held] at plain
  rw [State.entered, TapAccount.finds_false unknown]
  exact plain

/-- The oldest of two accumulators is forced out, and the one behind it tested (R135). -/
theorem State.closeOldest_tested {s : State} {tap : TapId} {a b : Accumulator}
    (held : s.accounts[tap].accumulators = [a, b]) : (s.closeOldest tap true).closeTest tap =
      s.closedAs tap (forcedOut [a] ++ completeOut [b]) (stayBehind [b]) s.accounts[tap].late := by
  have forced : s.closeOldest tap true = s.closedAs tap (forcedOut [a]) [b] s.accounts[tap].late := by
    rw [State.closeOldest_cons held true]
    rfl
  rw [forced]
  exact s.closedAs_testOne tap _ [b] _ (Nat.le_refl 1)

theorem State.register_full {a b : Accumulator}
    (unknown : ¬∃ y ∈ s.accounts[x.head.tap].accumulators, y.block = x.head.block)
    (held : s.accounts[x.head.tap].accumulators = [a, b]) : s.register x =
    (s.entered x).closedAs x.head.tap
      (forcedOut [a] ++ completeOut (s.accounts[x.head.tap].afterRegister s.tables.groups x))
      (stayBehind (s.accounts[x.head.tap].afterRegister s.tables.groups x)) s.accounts[x.head.tap].late := by
  let t := s.accounts[x.head.tap]
  let f (y : Accumulator) := if y.block = x.head.block then y.afterEntry x (x.quotients t s.tables.groups) else y
  let new := f (.start x.head t.firstAfterReset)
  have own : f b = b := if_neg fun same => unknown ⟨b, by rw [held]; exact List.mem_cons_of_mem _ (List.mem_singleton_self b), same⟩
  have after : t.afterRegister s.tables.groups x = [b, new] := by
    rw [TapAccount.afterRegister, openedFor, if_neg unknown, if_neg (by rw [held]; exact Nat.lt_irrefl 2), held]
    exact congrArg (· :: [new]) own
  have kept : (stayBehind [b]).map f = stayBehind [b] := by
    cases complete : b.isComplete with
    | true => rw [stayBehind_cons complete]; rfl
    | false => rw [stayBehind_front complete, List.map_singleton, own]
  have changed : (s.openFor x.head).modAccount x.head.tap (fun t => t.enter (s.openFor x.head).tables.groups x) =
      (s.entered x).closedAs x.head.tap (forcedOut [a] ++ completeOut [b]) (stayBehind [b] ++ [new]) t.late := by
    rw [s.openFor_groups, State.openFor_full unknown (by rw [held]; exact Nat.le_refl 2), State.closeOldest_tested held,
      State.modAccount_modAccount, State.entered, TapAccount.finds_false unknown]
    refine State.closedAs_modAccount s x.head.tap _ _ _ _ (TapAccount.enter_restore _ _ _) ?_
    have entering := (t.opening x.head).enter_holding s.tables.groups x
      (stayBehind [b] ++ [.start x.head t.firstAfterReset]) (if forcedOut [a] ++ completeOut [b] = [] then t.late else 0)
    have quotients : x.quotients (t.opening x.head) s.tables.groups = x.quotients t s.tables.groups := by cases x <;> rfl
    rw [quotients, List.map_append, List.map_singleton] at entering
    exact entering.trans (congrArg (fun l => TapAccount.holding (l ++ [new]) _ _) kept)
  have short : (stayBehind [b] ++ [new]).length ≤ 2 := by
    rw [List.length_append]
    exact Nat.succ_le_succ ((List.dropWhile_sublist _).length_le)
  obtain ⟨complete, stays⟩ := completeOut_append b [new]
  rw [s.register_eq, changed, State.closedAs_complete _ _ _ _ _ short, List.append_assoc, complete, stays, ← after]

/-- The registration of an entry at a tap of at most two accumulators (R131 to R135). -/
theorem State.register_closedAs (two : s.accounts[x.head.tap].accumulators.length ≤ 2) : s.register x =
    (s.entered x).closedAs x.head.tap
      (forcedOut (forcedBy s.accounts[x.head.tap] x.head) ++
        completeOut (s.accounts[x.head.tap].afterRegister s.tables.groups x))
      (stayBehind (s.accounts[x.head.tap].afterRegister s.tables.groups x)) s.accounts[x.head.tap].late := by
  by_cases known : ∃ y ∈ s.accounts[x.head.tap].accumulators, y.block = x.head.block
  · rw [forcedBy, if_pos (.inl known)]
    exact s.register_known x known two
  · rcases Nat.lt_or_ge s.accounts[x.head.tap].accumulators.length 2 with room | full
    · rw [forcedBy, if_pos (.inr room)]
      exact s.register_room x known room
    · obtain ⟨a, b, held⟩ := List.length_eq_two.mp (Nat.le_antisymm two full)
      rw [forcedBy, if_neg (not_or.mpr ⟨known, Nat.not_lt.mpr full⟩), held]
      exact s.register_full x known held

theorem State.entered_account : (s.entered x).accounts[x.head.tap] = s.accounts[x.head.tap].registering s.tables.groups x
    (s.accounts[x.head.tap].finds x.head) := by
  rw [State.entered, State.modAccount_accounts, if_pos rfl]

/-- The registration as the closes of the entry's accumulators (R131 to R135, R137). -/
theorem State.register_closes (two : s.accounts[x.head.tap].accumulators.length ≤ 2) :
    (s.register x).accounts[x.head.tap].firstAfterReset = (s.accounts[x.head.tap].firstAfterReset &&
      s.accounts[x.head.tap].finds x.head) ∧
    BlocksClose s (s.register x) x.head.tap (forcedBy s.accounts[x.head.tap] x.head)
      (s.accounts[x.head.tap].afterRegister s.tables.groups x) s.accounts[x.head.tap].late ∧
    (s.register x).ports = (s.received (closedBlocks s x.head.tap (forcedBy s.accounts[x.head.tap] x.head)
      (s.accounts[x.head.tap].afterRegister s.tables.groups x) s.accounts[x.head.tap].late)).ports := by
  have account := s.entered_account x
  have restore : (s.entered x).accounts[x.head.tap].restore = s.accounts[x.head.tap].restore := by
    rw [account, TapAccount.registering]
    split
    · exact TapAccount.enter_restore _ _ _
    · exact TapAccount.enter_restore _ _ _
  have frame : SameOutside [.engine, .accounts] s (s.entered x) := (s.modAccount_frame _ _).wider
  have first : (s.entered x).accounts[x.head.tap].firstAfterReset = (s.accounts[x.head.tap].firstAfterReset &&
      s.accounts[x.head.tap].finds x.head) := by
    rw [account, TapAccount.registering]
    split
    · next known => rw [TapAccount.enter_firstAfterReset, known, Bool.and_true]
    · next unknown =>
      rw [TapAccount.enter_firstAfterReset, Bool.eq_false_iff.mpr unknown, Bool.and_false]
      rfl
  rw [s.register_closedAs x two]
  refine ⟨?_, State.closedAs_closes frame restore _ _ _⟩
  rw [State.closedAs_account]
  exact first

end

end Sys2Proof.Machine
end


section
/-! SUPPORT. The points of a cycle, the resampler's step and the cycle end in its parts (R92, R93, R105). -/

namespace Sys2Proof.Machine

set_option Elab.async false

open Sys2Proof

/-! ## A point (R70, R92) -/

theorem toNat_mul_self (z : Int) : (z * z).toNat = z.natAbs ^ 2 := by
  rw [← Int.natAbs_mul_self, Int.toNat_natCast, sq]

/-- A point: into the point area of each tap that collects the cycle, and into the half sum (R92). -/
theorem State.producePoint_eq (s : State) (u : TrackerId) (previous values : ChannelValues) (num inc : Nat) (p : Fin 128) :
    let y (c : Channel) : Int := interpolate previous[c] values[c] num inc
    let m := (s.setFormer { s.former with
      taps := Vector.ofFn fun tap : TapId =>
        if s.former.taps[tap].collect = .collecting ∧ s.cycleSource (s.tapTracker tap) = some u then
          { s.former.taps[tap] with
            points := Vector.ofFn fun i : Fin 6 =>
              upd s.former.taps[tap].points[i] p (y (s.tapEntry tap).channels[i]) }
        else s.former.taps[tap] }).setTrackers (upd s.trackers u { s.trackers[u] with
          halfSum := s.trackers[u].halfSum + (y s.tables.settings[u].reference).natAbs ^ 2 })
    s.producePoint u previous values num inc p = if p = 63 then m.dipCheck u else m := by
  intro y m
  have made : ((s.mapFormerTaps fun tap f =>
      if s.collectsFrom u tap then
        { f with points := Vector.ofFn fun c => upd f.points[c] p (y (s.tapEntry tap).channels[c]) }
      else f).modTracker u fun k =>
        { k with halfSum := k.halfSum + (y s.tables.settings[u].reference * y s.tables.settings[u].reference).toNat }) = m := by
    simp only [State.mapFormerTaps, State.collectsFrom, Bool.and_eq_true, decide_eq_true_eq, toNat_mul_self]
    rfl
  rw [← made]
  rfl

/-! ## A resampler's step (R92, R93) -/

section
variable (u : TrackerId) (previous values : ChannelValues) (r : Resampler)

/-- Point p of a step. -/
def State.pointOf (k : State) (p : Nat) : State :=
  k.producePoint u previous values ((p + 1) * 65536 - r.acc) r.inc (Fin.ofNat 128 p)

/-- The points of a step, as far as its boundaries and the cycle reach (R92). -/
theorem State.producePoints_eq (fuel : Nat) : ∀ (s : State) (p : Nat), r.acc / 65536 ≤ p → p ≤ 128 → 128 ≤ p + fuel →
    s.producePoints u previous values r fuel p =
      ((List.range' p (min ((r.acc + r.inc) / 65536) 128 - p)).foldl (State.pointOf u previous values r) s,
        max p (min ((r.acc + r.inc) / 65536) 128)) := by
  induction fuel with
  | zero =>
    intro s p _ last enough
    obtain rfl : p = 128 := by omega
    rw [State.producePoints, Nat.sub_eq_zero_of_le (by omega), Nat.max_eq_left (by omega)]
    rfl
  | succ fuel ih =>
    intro s p first last enough
    unfold State.producePoints
    split
    · next low =>
      split
      · next reached =>
        have count : min ((r.acc + r.inc) / 65536) 128 - p = min ((r.acc + r.inc) / 65536) 128 - (p + 1) + 1 := by omega
        have furthest : max p (min ((r.acc + r.inc) / 65536) 128) = max (p + 1) (min ((r.acc + r.inc) / 65536) 128) := by
          omega
        have index : (⟨p, low⟩ : Fin 128) = Fin.ofNat 128 p := Fin.ext (Nat.mod_eq_of_lt low).symm
        rw [ih _ (p + 1) (by omega) (by omega) (by omega), count, furthest, List.range'_succ, List.foldl_cons, index]
        rfl
      · next short =>
        rw [Nat.sub_eq_zero_of_le (by omega), Nat.max_eq_left (by omega)]
        rfl
    · next high =>
      rw [Nat.sub_eq_zero_of_le (by omega), Nat.max_eq_left (by omega)]
      rfl

/-- A tracker's resampler replaced. -/
def State.located (k : State) (x : Option Resampler) : State := k.setFormer { k.former with
  trackers := upd k.former.trackers u { k.former.trackers[u] with resampler := x } }

variable {r} {s : State} (present : s.former.trackers[u].resampler = some r) (placed : r.Placed) (filled : Bool)
include present placed

theorem State.resample_within (within : r.acc + r.inc < 8388608) : s.resample u previous values filled =
    State.located u ((List.range' r.point ((r.acc + r.inc) / 65536 - r.point)).foldl (State.pointOf u previous values r) s)
      (some ⟨r.acc + r.inc, (r.acc + r.inc) / 65536, r.inc, r.samples + 1, r.period, r.filled || filled⟩) := by
  obtain ⟨low, point, -⟩ := placed
  have points := State.producePoints_eq u previous values r 128 s r.point (by omega) (by omega) (by omega)
  rw [Nat.min_eq_left (by omega), Nat.max_eq_right (by omega)] at points
  unfold State.resample
  rw [present]
  dsimp only
  rw [points]
  exact if_pos (by omega)

/-- The state at the end of a cycle in this step (R93). -/
theorem State.resample_ends (beyond : 8388608 ≤ r.acc + r.inc) : s.resample u previous values filled =
    let n := ((List.range' r.point (128 - r.point)).foldl (State.pointOf u previous values r) s).cycleEnd u
      ⟨r.acc + r.inc, 128, r.inc, r.samples + 1, r.period, r.filled || filled⟩ (r.acc + r.inc - 8388608)
    if r.acc + r.inc - 8388608 < 65536 then n
    else (n.producePoint u previous values (65536 + 8388608 - r.acc) r.inc 0).modFormerTracker u fun f =>
      { f with resampler := f.resampler.map fun x => { x with point := 1 } } := by
  obtain ⟨low, point, -⟩ := placed
  have points := State.producePoints_eq u previous values r 128 s r.point (by omega) (by omega) (by omega)
  rw [Nat.min_eq_right (by omega), Nat.max_eq_right (by omega)] at points
  unfold State.resample
  rw [present]
  dsimp only
  rw [points]
  exact if_neg (Nat.lt_irrefl 128)

end

/-! ## The cycle end in its parts (R105) -/

/-- A cycle start of tracker u, tap by tap (R100, R102). -/
theorem State.cycleStart_eq (s : State) (u : TrackerId) : s.cycleStart u = s.setFormer { s.former with
    taps := Vector.ofFn fun tap : TapId =>
      let f := s.former.taps[tap]
      if s.cycleSource (s.tapTracker tap) = some u then
        match f.collect with
        | .inactive => f
        | .collecting => tapCleared .collecting f.unaccounted
        | .joining gap => tapCleared .collecting (f.unaccounted + gap.getD 0)
      else f } := by
  have started (f : FormerTap) : f.cycleStart = match f.collect with
      | .inactive => f
      | .collecting => tapCleared .collecting f.unaccounted
      | .joining gap => tapCleared .collecting (f.unaccounted + gap.getD 0) := by
    unfold FormerTap.cycleStart
    cases collect : f.collect with
    | inactive => rfl
    | collecting => rw [FormerTap.gap, collect]; rfl
    | joining gap =>
      rw [FormerTap.gap, collect]
      cases gap <;> rfl
  unfold State.cycleStart State.mapFormerTaps
  simp only [started]

theorem State.cycleEnd_eq (s : State) (u : TrackerId) (r : Resampler) (acc : Nat) :
    let m := (s.trackerWork u).1
    let marks := (s.trackerWork u).2
    let n := (m.located u (some ⟨acc, 0, 2 ^ 39 / m.trackers[u].lfix, 0, m.trackers[u].lfix, false⟩)).formerPart
      r.samples r.period r.filled marks u
    s.cycleEnd u r acc = (if u = 0 ∧ n.trackers[(1 : TrackerId)].state = .following
      then n.formerPart r.samples r.period r.filled marks 1 else n).cycleStart u := by
  intro m marks n
  have follows : n.follows = true ↔ n.trackers[(1 : TrackerId)].state = .following := decide_eq_true_iff
  simp only [← follows]
  rfl

end Sys2Proof.Machine
end


section
/-! SUPPORT. The applications of staged entries at a cycle end, the entries that it builds, and the stop of a tap (R100 to
R107). -/

namespace Sys2Proof.Machine

set_option Elab.async false

open Sys2Proof

section
variable {s : State} {tap : TapId} {e : TapEntry}

/-! ## The application of a staged entry (R40, R101 to R103) -/

theorem State.stagedMoves_of_staged (staged : s.tables.taps[tap].staged = some e) :
    s.stagedMoves tap = decide (e.tracker ≠ s.tapTracker tap ∨ e.channels ≠ (s.tapEntry tap).channels) := by
  rw [State.stagedMoves, staged]

theorem State.applyEntry_engine (staged : s.tables.taps[tap].staged = some e) : (s.applyEntry tap e).engine =
    if s.stagedMoves tap = true then { s.engine with
      held := upd s.engine.held tap none, stale := upd s.engine.stale tap (s.outstandingJobs tap) } else s.engine := by
  rw [State.stagedMoves_of_staged staged]
  by_cases moves : e.tracker ≠ s.tapTracker tap ∨ e.channels ≠ (s.tapEntry tap).channels
  · rw [decide_eq_true moves, if_pos rfl, State.applyEntry_moves moves]
    rfl
  · obtain ⟨tracker, channels⟩ := not_or.mp moves
    rw [decide_eq_false moves, if_neg Bool.false_ne_true, State.applyEntry_same (not_not.mp tracker) (not_not.mp channels)]
    rfl

/-- The collection state of a tap after its staged entry is applied (R101 to R103). -/
def State.nextCollect (s : State) (tap : TapId) (e : TapEntry) : Collect :=
  if s.former.taps[tap].collect = .inactive then
    (if e.enabled = true ∧ s.makesCycles e.tracker = true then .joining none else .inactive)
  else if e.enabled = false then .inactive
  else if e.tracker = s.tapTracker tap then s.former.taps[tap].collect
  else if s.makesCycles e.tracker = true then .joining (some 0) else .inactive

/-- The tap after its staged entry is applied: cleared where its collection changes, with the gap it counted (R100). -/
def FormerTap.applied (f : FormerTap) (next : Collect) : FormerTap :=
  if f.collect ≠ .inactive ∧ next = f.collect then f
  else { tapCleared next 0 with
    unaccounted := if f.collect = .inactive then f.unaccounted else min (2 ^ 32 - 1) (f.unaccounted + f.gap) }

theorem State.applyStaged_none (none : s.tables.taps[tap].staged = none) : s.applyStaged tap = s := by
  rw [State.applyStaged, none]

theorem State.applyStaged_inactive (staged : s.tables.taps[tap].staged = some e)
    (inactive : s.former.taps[tap].collect = .inactive) : s.applyStaged tap = s.applyInactive tap e := by
  rw [State.applyStaged, staged]
  dsimp only
  rw [inactive]

theorem State.nextCollect_active (active : s.former.taps[tap].collect ≠ .inactive) :
    s.collectAtCycleEnd (s.tapEntry tap) e s.former.taps[tap].collect = s.nextCollect tap e := by
  rw [State.nextCollect, if_neg active, State.collectAtCycleEnd]
  cases enabled : e.enabled with
  | false => rfl
  | true =>
    have on : ¬true = false := by decide
    by_cases same : e.tracker = s.tapTracker tap
    · rw [if_pos rfl, if_neg on, if_pos same]
      exact if_neg (not_not.mpr same)
    · rw [if_pos rfl, if_neg on, if_neg same]
      exact if_pos same

theorem State.applyStaged_active (staged : s.tables.taps[tap].staged = some e)
    (active : s.former.taps[tap].collect ≠ .inactive) : s.applyStaged tap =
      (s.applyEntry tap e).modFormerTap tap fun f => if s.nextCollect tap e = f.collect then f
        else (f.addUnaccounted f.gap).clear (s.nextCollect tap e) := by
  rw [← State.nextCollect_active active, State.applyStaged, staged]
  dsimp only
  cases collect : s.former.taps[tap].collect with
  | inactive => exact absurd collect active
  | joining gap => rfl
  | collecting => rfl

theorem State.modFormerTap_former (s : State) (tap : TapId) (f : FormerTap → FormerTap) : (s.modFormerTap tap f).former =
    { s.former with taps := upd s.former.taps tap (f s.former.taps[tap]) } := rfl

/-- What the application of a staged entry does (R40, R101 to R103). -/
structure StagedApplied (s t : State) (tap : TapId) (e : TapEntry) : Prop where
  frame : SameOutside [.tables, .former, .engine] s t
  tables : t.tables = { s.tables with taps := upd s.tables.taps tap ⟨e, s.tables.taps[tap].generation + 1, none⟩ }
  engine : t.engine = if s.stagedMoves tap = true then { s.engine with
    held := upd s.engine.held tap none, stale := upd s.engine.stale tap (s.outstandingJobs tap) } else s.engine
  former : t.former = { s.former with
    taps := upd s.former.taps tap (s.former.taps[tap].applied (s.nextCollect tap e)) }

theorem State.applyStaged_applied (staged : s.tables.taps[tap].staged = some e) :
    StagedApplied s (s.applyStaged tap) tap e := by
  have frame : SameOutside [.tables, .former, .engine] s (s.applyStaged tap) := (s.applyStaged_frame tap).wider
  have former : (s.applyEntry tap e).former = s.former := (s.applyEntry_frame tap e).get .former
  by_cases inactive : s.former.taps[tap].collect = .inactive
  · have applies := State.applyStaged_inactive staged inactive
    refine ⟨frame, ?_, ?_, ?_⟩
    · rw [applies, State.applyInactive_tables]
      rfl
    · rw [applies]
      exact State.applyEntry_engine staged
    · have next : s.nextCollect tap e = s.collectAfterApply e := by
        rw [State.nextCollect, if_pos inactive, State.collectAfterApply]
        exact if_congr (Bool.and_eq_true _ _ ▸ Iff.rfl) rfl rfl
      rw [applies, State.applyInactive_former, FormerTap.applied, if_neg fun both => both.1 inactive, if_pos inactive, next]
      rfl
  · have applies := State.applyStaged_active staged inactive
    refine ⟨frame, ?_, ?_, ?_⟩
    · rw [applies]
      exact s.applyEntry_tables tap e
    · rw [applies]
      exact State.applyEntry_engine staged
    · rw [applies, State.modFormerTap_former, former, FormerTap.applied]
      by_cases same : s.nextCollect tap e = s.former.taps[tap].collect
      · rw [if_pos same, if_pos ⟨inactive, same⟩]
      · rw [if_neg same, if_neg fun both => same both.2, if_neg inactive]
        rfl

end

/-- The staged entries of a tracker's taps in tap order (R101). -/
theorem State.applyAllStaged_eq (s : State) (u : TrackerId) : s.applyAllStaged u =
    ((List.finRange 8).filter fun tap => decide (s.tapTracker tap = u)).foldl State.applyStaged s := by
  rw [List.foldl_filter]
  simp only [decide_eq_true_eq]
  rfl

/-! ## Close entries (R107) -/

theorem State.stamp_some (s : State) (u : TrackerId) (c : CloseReason) :
    s.stamp u (some c) = s.former.second.map fun n => ⟨n, s.former.trackers[u].cycleEnds⟩ := by
  unfold State.stamp
  cases s.former.second <;> rfl

theorem State.closeEntry_eq (s : State) (u : TrackerId) (tariff : Tariff) (tap : TapId) (snapshot : Snapshot) :
    s.closeEntry u tariff tap snapshot = (s.setFormer { s.former with
      taps := upd s.former.taps tap { s.former.taps[tap] with unaccounted := 0 } }).register (.close
        { tap := tap, tracker := u, block := s.accounts[tap].blockNumber, close := some .config
          unaccounted := s.former.taps[tap].unaccounted, tariff := tariff, snapshot := snapshot
          stamp := s.former.second.map fun n => ⟨n, s.former.trackers[u].cycleEnds⟩ }) := by
  rw [State.closeEntry, State.stamp_some]
  rfl

/-! ## What a registration leaves of the accounts -/

section
variable (s : State) (x : Entry)

/-- The opening of an accumulator touches the tap's accumulators, late tally and mark alone (R132, R135, R137). -/
theorem State.openFor_account (e : EntryHead) : ∃ l n b, (s.openFor e).accounts[e.tap] =
    { s.accounts[e.tap] with accumulators := l, late := n, firstAfterReset := b } := by
  by_cases known : ∃ y ∈ s.accounts[e.tap].accumulators, y.block = e.block
  · exact ⟨_, _, _, congrArg (fun m : State => m.accounts[e.tap]) (State.openFor_known known)⟩
  · rcases Nat.lt_or_ge s.accounts[e.tap].accumulators.length 2 with room | full
    · refine ⟨s.accounts[e.tap].accumulators ++ [.start e s.accounts[e.tap].firstAfterReset], s.accounts[e.tap].late,
        false, ?_⟩
      rw [State.openFor_room known room, State.modAccount_accounts, if_pos rfl]
      rfl
    · obtain ⟨l, n, tested⟩ := (s.closeOldest e.tap true).closeTest_account e.tap
      have oldest : ∃ l n, (s.closeOldest e.tap true).accounts[e.tap] = s.accounts[e.tap].holding l n := by
        cases held : s.accounts[e.tap].accumulators with
        | nil => exact ⟨_, _, by rw [State.closeOldest, held]; rfl⟩
        | cons a rest =>
          refine ⟨rest, 0, ?_⟩
          rw [State.closeOldest_cons held, State.modAccount_accounts, if_pos rfl, State.receive_accounts]
      obtain ⟨k, j, first⟩ := oldest
      refine ⟨l ++ [.start e s.accounts[e.tap].firstAfterReset], n, false, ?_⟩
      rw [State.openFor_full known full, State.modAccount_accounts, if_pos rfl, tested, first]
      rfl

theorem State.openFor_other (e : EntryHead) {other : TapId} (h : other ≠ e.tap) :
    (s.openFor e).accounts[other] = s.accounts[other] := by
  by_cases known : ∃ y ∈ s.accounts[e.tap].accumulators, y.block = e.block
  · rw [State.openFor_known known]
  · rcases Nat.lt_or_ge s.accounts[e.tap].accumulators.length 2 with room | full
    · rw [State.openFor_room known room, State.modAccount_accounts, if_neg h.symm]
    · rw [State.openFor_full known full, State.modAccount_accounts, if_neg h.symm, State.closeTest_other _ _ h]
      cases held : s.accounts[e.tap].accumulators with
      | nil => rw [State.closeOldest, held]
      | cons a rest =>
        rw [State.closeOldest_cons held, State.modAccount_accounts, if_neg h.symm, State.receive_accounts]

/-- What a registration leaves of its tap's account: the entry is added, and the accumulators, the late tally and the mark
of the first block move. -/
theorem State.register_account : ∃ l n b, (s.register x).accounts[x.head.tap] =
    { s.accounts[x.head.tap].enter s.tables.groups x with accumulators := l, late := n, firstAfterReset := b } := by
  obtain ⟨l, n, b, opened⟩ := s.openFor_account x.head
  obtain ⟨m, k, closed⟩ := State.closeComplete_account
    ((s.openFor x.head).modAccount x.head.tap fun t => t.enter (s.openFor x.head).tables.groups x) x.head.tap
  refine ⟨m, k, b, ?_⟩
  rw [s.register_eq, closed, State.modAccount_accounts, if_pos rfl, s.openFor_groups, opened]
  cases x <;> rfl

theorem State.register_other {other : TapId} (h : other ≠ x.head.tap) :
    (s.register x).accounts[other] = s.accounts[other] := by
  rw [s.register_eq, State.closeComplete_other _ _ h, State.modAccount_accounts, if_neg h.symm, s.openFor_other _ h]

theorem State.register_blockNumber : (s.register x).accounts[x.head.tap].blockNumber = s.accounts[x.head.tap].blockNumber := by
  obtain ⟨l, n, b, account⟩ := s.register_account x
  rw [account]
  exact TapAccount.enter_blockNumber _ _ _

end

end Sys2Proof.Machine
end


section
/-! SUPPORT. The entry of a tap that collected, the stop of a tap, and steps 2 to 5 of a cycle end (R104 to R107). -/

namespace Sys2Proof.Machine

set_option Elab.async false

open Sys2Proof

theorem State.register_account_of (s : State) {x : Entry} {tap : TapId} (own : x.head.tap = tap) :
    ∃ l n b, (s.register x).accounts[tap] =
      { s.accounts[tap].enter s.tables.groups x with accumulators := l, late := n, firstAfterReset := b } := by
  subst own
  exact s.register_account x

theorem State.modFormerTap_taps (s : State) (tap other : TapId) (f : FormerTap → FormerTap) :
    (s.modFormerTap tap f).former.taps[other] = if tap = other then f s.former.taps[other] else s.former.taps[other] :=
  getElem_modAt _ _ _ _

/-! ## The entry of a tap that collected (R106, R107, R109, R120) -/

section
variable (s : State) (c : EndedCycle) (tap : TapId) (f : FormerTap) (config stale : Bool)

/-- The fields of the ended cycle in a tap's entry (R107). -/
def State.cycleInfo : CycleInfo :=
  ⟨c.index, c.length, c.period, c.marks, c.filled, f.clips, f.absent ||
    decide (∃ ch ∈ s.tables.taps[tap].entry.channels.toList, channelCount s.agreement.profile ≤ ch.val), c.realigned⟩

/-- The entry of a tap that collected: a job while the cycle queue has room, else an estimate on a copy of the held
spectrum, or a dropped entry (R106, R109, R120). -/
def State.cycleEntry : Entry :=
  if s.engine.queue.length < 16 then .job (s.entryHead c tap config) (s.cycleInfo c tap f)
  else match s.engine.held[tap] with
    | some copy => .estimate (s.entryHead c tap config) (s.cycleInfo c tap f) copy
    | none => .dropped (s.entryHead c tap config) (s.cycleInfo c tap f)

/-- The engine after a tap's entry was built (R109, R119). -/
def State.cycleEngine : Engine :=
  if s.engine.queue.length < 16 then
    { s.engine with
      queue := s.engine.queue ++ [⟨s.entryHead c tap config, s.cycleInfo c tap f, f.points⟩]
      stale := if stale then upd s.engine.stale tap (s.engine.stale[tap] + 1) else s.engine.stale }
  else s.engine

/-- The part that registers a tap's entry: its pending samples taken, and the job in the queue. -/
def State.beforeEntry : State :=
  (s.takeUnaccounted tap).setEngine (s.cycleEngine c tap f config stale)

theorem State.beforeEntry_frame : SameOutside [.former, .engine] s (s.beforeEntry c tap f config stale) :=
  (s.setFormer_frame _).andThen (State.setEngine_frame _ _)

theorem State.buildEntry_eq : s.buildEntry c tap f config stale =
    (s.beforeEntry c tap f config stale).register (s.cycleEntry c tap f config) := by
  have info : c.info f (s.namesAbsent tap) = s.cycleInfo c tap f := by
    rw [EndedCycle.info, State.namesAbsent_eq]
    rfl
  unfold State.buildEntry State.beforeEntry State.cycleEntry State.cycleEngine
  dsimp only
  rw [info]
  rcases Nat.lt_or_ge s.engine.queue.length 16 with room | full
  · rw [if_pos room, if_pos room]
    exact if_pos room
  · rw [if_neg (Nat.not_lt.mpr full), if_neg (Nat.not_lt.mpr full)]
    refine (if_neg (Nat.not_lt.mpr full)).trans ?_
    change (match s.engine.held[tap] with
      | some copy => _
      | none => _) = _
    cases s.engine.held[tap] <;> rfl

theorem State.cycleEntry_head : (s.cycleEntry c tap f config).head = s.entryHead c tap config := by
  unfold State.cycleEntry
  split
  · rfl
  · split <;> rfl

/-- What the building of a tap's entry leaves of the cycle former and the accounts. -/
structure EntryBuilt (s t : State) (c : EndedCycle) (tap : TapId) (f : FormerTap) (config stale : Bool) : Prop where
  frame : SameOutside [.former, .engine, .accounts, .records, .ports, .latches] s t
  former : t.former = { s.former with taps := upd s.former.taps tap { s.former.taps[tap] with unaccounted := 0 } }
  engine : t.engine = s.cycleEngine c tap f config stale
  account : ∃ l n b, t.accounts[tap] =
    { s.accounts[tap].enter s.tables.groups (s.cycleEntry c tap f config) with
      accumulators := l, late := n, firstAfterReset := b }
  other : ∀ other : TapId, other ≠ tap → t.accounts[other] = s.accounts[other]

theorem State.buildEntry_built : EntryBuilt s (s.buildEntry c tap f config stale) c tap f config stale := by
  have before := s.beforeEntry_frame c tap f config stale
  have registers := (s.beforeEntry c tap f config stale).register_frame (s.cycleEntry c tap f config)
  have own : (s.cycleEntry c tap f config).head.tap = tap := by rw [State.cycleEntry_head]; rfl
  have account := (s.beforeEntry c tap f config stale).register_account_of own
  have others (other : TapId) (h : other ≠ tap) := (s.beforeEntry c tap f config stale).register_other
    (s.cycleEntry c tap f config) (other := other) (by rwa [own])
  rw [s.buildEntry_eq]
  exact ⟨before.andThen registers, registers.get .former, registers.get .engine, account, others⟩

variable {s c tap f config stale} {t : State} (built : EntryBuilt s t c tap f config stale)
include built

theorem EntryBuilt.blockNumber : t.accounts[tap].blockNumber = s.accounts[tap].blockNumber := by
  obtain ⟨l, n, b, account⟩ := built.account
  rw [account]
  exact TapAccount.enter_blockNumber _ _ _

theorem EntryBuilt.formerTap : t.former.taps[tap] = { s.former.taps[tap] with unaccounted := 0 } := by
  rw [built.former]
  exact (getElem_upd _ _ _ _).trans (if_pos rfl)

theorem EntryBuilt.job (room : s.engine.queue.length < 16) :
    t.accounts[tap].registers = s.accounts[tap].registers ∧ t.accounts[tap].lastCycle = s.accounts[tap].lastCycle := by
  obtain ⟨l, n, b, account⟩ := built.account
  rw [account, State.cycleEntry, if_pos room]
  exact ⟨rfl, rfl⟩

theorem EntryBuilt.lastCycle (full : 16 ≤ s.engine.queue.length) :
    t.accounts[tap].lastCycle = some ⟨c.tracker, s.accounts[tap].blockNumber, c.index⟩ := by
  obtain ⟨l, n, b, account⟩ := built.account
  rw [account, State.cycleEntry, if_neg (Nat.not_lt.mpr full)]
  cases s.engine.held[tap] <;> rfl

theorem EntryBuilt.dropped (full : 16 ≤ s.engine.queue.length) (absent : s.engine.held[tap] = none) :
    t.accounts[tap].registers = s.accounts[tap].registers := by
  obtain ⟨l, n, b, account⟩ := built.account
  rw [account, State.cycleEntry, if_neg (Nat.not_lt.mpr full), absent]
  rfl

theorem EntryBuilt.estimated (full : 16 ≤ s.engine.queue.length) {copy : Spectrum}
    (held : s.engine.held[tap] = some copy) (i : Fin 48) : t.accounts[tap].registers[i] =
    if s.tables.taps[tap].entry.accounting = true ∧ i.val / 12 = c.tariff.val then
      (s.accounts[tap].registers[i].addEnergy s.accounts[tap].constant
        (contributions s.tables.groups copy.active copy.reactive (min copy.h s.tables.taps[tap].entry.hMax)
          c.length)[i.val % 12]).1
    else s.accounts[tap].registers[i] := by
  obtain ⟨l, n, b, account⟩ := built.account
  rw [account, State.cycleEntry, if_neg (Nat.not_lt.mpr full), held]
  exact TapAccount.account_registers _ _ (s.entryHead c tap config) (s.cycleInfo c tap f) copy _ true i

end

/-! ## The stop of a tap (R103, R104) -/

/-- The close entry of a tap that stops, with the gap it counted (R103, R107). -/
def State.stopsWith (s : State) (u : TrackerId) (tap : TapId) : Entry :=
  .close
    { tap := tap, tracker := u, block := s.accounts[tap].blockNumber, close := some .config
      unaccounted := min (2 ^ 32 - 1) (s.former.taps[tap].unaccounted + s.former.taps[tap].gap)
      tariff := s.former.trackers[u].tariff
      snapshot := ⟨s.tables.taps[tap].entry.cls, s.tables.taps[tap].entry.hMax, s.tables.taps[tap].entry.accounting,
        s.tables.taps[tap].generation⟩
      stamp := s.former.second.map fun n => ⟨n, s.former.trackers[u].cycleEnds⟩ }

/-- The part with a tap's pending samples taken, before its close entry is registered. -/
def State.beforeStop (s : State) (tap : TapId) : State :=
  (s.modFormerTap tap fun f => f.addUnaccounted f.gap).takeUnaccounted tap

theorem State.beforeStop_taps (s : State) (tap other : TapId) : (s.beforeStop tap).former.taps[other] =
    if tap = other then { s.former.taps[other] with unaccounted := 0 } else s.former.taps[other] := by
  rw [State.beforeStop, State.takeUnaccounted, State.modFormerTap_taps, State.modFormerTap_taps]
  split <;> rfl

theorem State.stopTap_inactive {s : State} {tap : TapId} (inactive : s.former.taps[tap].collect = .inactive)
    (u : TrackerId) : s.stopTap u tap = s := by
  rw [State.stopTap, inactive]

theorem State.stopTap_active {s : State} {tap : TapId} (active : s.former.taps[tap].collect ≠ .inactive) (u : TrackerId) :
    s.stopTap u tap =
      (((s.beforeStop tap).register (s.stopsWith u tap)).advanceBlock tap).modFormerTap tap fun f => f.clear .inactive := by
  let m := s.modFormerTap tap fun f => f.addUnaccounted f.gap
  have closes : m.closeEntry u m.former.trackers[u].tariff tap (m.snapshot tap) =
      (s.beforeStop tap).register (s.stopsWith u tap) := by
    have pending : m.former.taps[tap] = s.former.taps[tap].addUnaccounted s.former.taps[tap].gap :=
      getElem_modAt_same _ _ _
    rw [m.closeEntry_eq, pending]
    refine congrArg (State.register · _) ?_
    rw [← pending]
    rfl
  rw [← closes]
  unfold State.stopTap
  cases collect : s.former.taps[tap].collect with
  | inactive => exact absurd collect active
  | joining gap => rfl
  | collecting => rfl

/-- What the stop of an active tap does, by the state that registers its close entry (R103, R104). -/
structure TapStops (s t m : State) (u : TrackerId) (tap : TapId) : Prop where
  before : SameOutside [.former] s m
  frame : SameOutside [.former, .accounts] (m.register (s.stopsWith u tap)) t
  accounts : t.accounts = upd (m.register (s.stopsWith u tap)).accounts tap
    { (m.register (s.stopsWith u tap)).accounts[tap] with blockNumber := s.accounts[tap].blockNumber + 1 }
  former : t.former.taps[tap] = tapCleared .inactive 0
  trackers : t.former.trackers = s.former.trackers

theorem State.advanceBlock_accounts (v : State) (tap : TapId) : (v.advanceBlock tap).accounts =
    upd v.accounts tap { v.accounts[tap] with blockNumber := v.accounts[tap].blockNumber + 1 } := rfl

theorem State.register_blockNumber_of (s : State) {x : Entry} {tap : TapId} (own : x.head.tap = tap) :
    (s.register x).accounts[tap].blockNumber = s.accounts[tap].blockNumber := by
  subst own
  exact s.register_blockNumber x

theorem State.stopTap_stops {s : State} {tap : TapId} (active : s.former.taps[tap].collect ≠ .inactive) (u : TrackerId) :
    TapStops s (s.stopTap u tap) (s.beforeStop tap) u tap := by
  have before : SameOutside [.former] s (s.beforeStop tap) := (s.setFormer_frame _).trans (State.setFormer_frame _ _)
  have number := (s.beforeStop tap).register_blockNumber_of (x := s.stopsWith u tap) (tap := tap) rfl
  have former : ((s.beforeStop tap).register (s.stopsWith u tap)).former = (s.beforeStop tap).former :=
    ((s.beforeStop tap).register_frame (s.stopsWith u tap)).get .former
  have stops := State.stopTap_active active u
  rw [stops]
  clear stops
  generalize hv : (s.beforeStop tap).register (s.stopsWith u tap) = v at *
  have advanced : (v.advanceBlock tap).former = v.former := (v.modAccount_frame tap _).get .former
  refine ⟨before, ?_, ?_, ?_, ?_⟩
  · rw [hv]
    exact (v.modAccount_frame tap _).andThen (State.setFormer_frame _ _)
  · rw [hv, ← congrArg TapAccount.blockNumber (congrArg (fun a : Vector TapAccount 8 => a[tap]) (before.get .accounts)), ← number]
    exact v.advanceBlock_accounts tap
  · rw [State.modFormerTap_taps, if_pos rfl, advanced, former, State.beforeStop_taps, if_pos rfl]
    rfl
  · rw [State.modFormerTap_former, advanced, former]
    rfl

end Sys2Proof.Machine
end


section
/-! SUPPORT. Steps 2 to 5 of a cycle end as one expression (R105). -/

namespace Sys2Proof.Machine

set_option Elab.async false

open Sys2Proof

/-! ## What an application does to the block (R101) -/

theorem configBroken_eq (s : State) (tap : TapId) : configBroken s tap = s.stagedMoves tap := by
  unfold configBroken State.stagedMoves
  cases s.tables.taps[tap].staged with
  | none => rfl
  | some e =>
    dsimp only
    rw [decide_eq_decide, Ne, classifyApply_eq_plain_iff, not_and_or]
    rfl

theorem configClosed_eq (s : State) (tap : TapId) : configClosed s tap = s.stagedCloses tap := by
  have broken := configBroken_eq s tap
  unfold State.stagedCloses
  rw [← broken]
  unfold configClosed configBroken closesBlock
  cases s.tables.taps[tap].staged with
  | none => rfl
  | some e => exact Bool.or_comm _ _

/-! ## Folds over the taps -/

/-- Block numbers advanced one after another, all at once (R104, R105). -/
theorem State.foldl_advanceBlock (p : TapId → Bool) (l : List TapId) (nodup : l.Nodup) : ∀ s : State,
    l.foldl (fun k tap => if p tap then k.advanceBlock tap else k) s = s.setAccounts (Vector.ofFn fun tap : TapId =>
      if tap ∈ l ∧ p tap = true then { s.accounts[tap] with blockNumber := s.accounts[tap].blockNumber + 1 }
      else s.accounts[tap]) := by
  induction l with
  | nil =>
    intro s
    refine congrArg s.setAccounts (?_ : s.accounts = _)
    ext i h
    simp
  | cons a l ih =>
    intro s
    obtain ⟨fresh, rest⟩ := List.nodup_cons.mp nodup
    rw [List.foldl_cons, ih rest]
    have accounts (tap : TapId) : (if p a then s.advanceBlock a else s).accounts[tap] =
        if a = tap ∧ p a = true then { s.accounts[tap] with blockNumber := s.accounts[tap].blockNumber + 1 }
        else s.accounts[tap] := by
      cases p a with
      | true =>
        rw [if_pos rfl, State.advanceBlock, State.modAccount_accounts]
        simp
      | false => simp
    have outside : (if p a then s.advanceBlock a else s).setAccounts = s.setAccounts := by
      cases p a <;> rfl
    rw [outside]
    refine congrArg (fun f : TapId → TapAccount => s.setAccounts (Vector.ofFn f)) (funext fun tap => ?_)
    rw [accounts]
    by_cases own : a = tap
    · subst own
      simp [fresh]
    · simp [own, Ne.symm own]

theorem State.foldl_advanceAll (p : TapId → Bool) (s : State) :
    allTaps.foldl (fun k tap => if p tap then k.advanceBlock tap else k) s = s.setAccounts (Vector.ofFn fun tap : TapId =>
      if p tap = true then { s.accounts[tap] with blockNumber := s.accounts[tap].blockNumber + 1 }
      else s.accounts[tap]) := by
  have all (tap : TapId) : tap ∈ allTaps := List.mem_finRange tap
  rw [State.foldl_advanceBlock p allTaps (by decide)]
  simp only [all, true_and]

/-! ## Steps 2 to 5 (R105) -/

/-- What the cycle end of tracker u decides and hands to its entries (R105, R107). -/
def State.ending (s : State) (length period : Nat) (filled : Bool) (marks : Marks) (u : TrackerId) : EndedCycle :=
  { tracker := u, index := s.former.trackers[u].index, length := length, period := period
    marks := { marks with following := marks.following || decide (s.trackers[u].state = .following) }
    filled := filled, realigned := s.former.trackers[u].realigned
    close := s.former.trackers[u].indexDecision.close, tariff := s.former.trackers[u].tariff }

/-- The part after the index step and the tariff step, before the applications (R105). -/
def State.indexed (s : State) (u : TrackerId) : State :=
  let a : State := s.setFormer { s.former with
    trackers := upd s.former.trackers u (s.former.trackers[u].indexStep s.tables.settings[u].written) }
  if s.former.trackers[u].indexDecision.close.isSome then a.tariffStep u else a

theorem State.formerPart_eq (s : State) (length period : Nat) (filled : Bool) (marks : Marks) (u : TrackerId) :
    s.formerPart length period filled marks u =
      ((s.indexed u).applyAllStaged u).buildEntries (s.indexed u) (s.ending length period filled marks u) := by
  have following : (if decide (s.trackers[u].state = .following) then { marks with following := true } else marks) =
      { marks with following := marks.following || decide (s.trackers[u].state = .following) } := by
    cases decide (s.trackers[u].state = .following) <;> simp
  unfold State.formerPart
  dsimp only
  rw [following]
  rfl

/-- One tap at step 5 (R106). -/
theorem State.entryOf_eq (s b : State) (c : EndedCycle) (tap : TapId) : s.entryOf b c tap =
    if b.tapTracker tap = c.tracker then
      (if b.former.taps[tap].collect = .collecting then
        s.buildEntry c tap b.former.taps[tap] (b.stagedCloses tap) (b.stagedMoves tap)
      else if b.former.taps[tap].collect ≠ .inactive ∧ b.stagedCloses tap = true then
        s.closeEntry c.tracker c.tariff tap (b.snapshot tap)
      else s)
    else s := by
  unfold State.entryOf
  rw [configClosed_eq, configBroken_eq]
  cases b.former.taps[tap].collect <;> simp

theorem closedAtEnd_eq (b : State) (c : EndedCycle) (tap : TapId) : closedAtEnd b c tap = true ↔
    b.tapTracker tap = c.tracker ∧ b.former.taps[tap].collect ≠ .inactive ∧ (b.stagedCloses tap = true ∨
      (b.former.taps[tap].collect = .collecting ∧ c.close.isSome = true)) := by
  unfold closedAtEnd
  rw [configClosed_eq]
  cases b.former.taps[tap].collect <;> simp [or_comm]

/-- Step 5 of a cycle end: the entries of the tracker's taps in order, then the block numbers (R105). -/
theorem State.buildEntries_eq (s b : State) (c : EndedCycle) : s.buildEntries b c =
    let entered := ((List.finRange 8).filter fun tap => decide (b.tapTracker tap = c.tracker)).foldl
      (fun (k : State) (tap : TapId) =>
        if b.former.taps[tap].collect = .collecting then
          k.buildEntry c tap b.former.taps[tap] (b.stagedCloses tap) (b.stagedMoves tap)
        else if b.former.taps[tap].collect ≠ .inactive ∧ b.stagedCloses tap = true then
          k.closeEntry c.tracker c.tariff tap (b.snapshot tap)
        else k) s
    entered.setAccounts (Vector.ofFn fun tap : TapId =>
      if b.tapTracker tap = c.tracker ∧ b.former.taps[tap].collect ≠ .inactive ∧ (b.stagedCloses tap = true ∨
          (b.former.taps[tap].collect = .collecting ∧ c.close.isSome = true)) then
        { entered.accounts[tap] with blockNumber := entered.accounts[tap].blockNumber + 1 }
      else entered.accounts[tap]) := by
  unfold State.buildEntries
  dsimp only
  rw [State.foldl_advanceAll, List.foldl_filter]
  simp only [closedAtEnd_eq, State.entryOf_eq, decide_eq_true_eq]
  rfl

end Sys2Proof.Machine
end


section
/-! SUPPORT. What a tracker's own work leaves alone, and what the parts of a cycle end leave of one tap (R80, R105). -/

namespace Sys2Proof.Machine

set_option Elab.async false

open Sys2Proof

variable {s t m : State} {u v : TrackerId} {tap other : TapId}

/-! ## A tracker's own work (R80) -/

/-- From s to t tracker u has worked: it still runs where it ran, and the other tracker and the tap table stay. -/
structure Working (s t : State) (u : TrackerId) : Prop where
  frame : SameOutside [.trackers, .tables, .ports, .latches] s t
  taps : t.tables.taps = s.tables.taps
  others : ∀ w : TrackerId, w ≠ u → t.trackers[w] = s.trackers[w]
  running : s.trackers[u].state.isRunning = true → t.trackers[u].state.isRunning = true

theorem Working.refl (s : State) (u : TrackerId) : Working s s u := ⟨.refl _ s, rfl, fun _ _ => rfl, id⟩

theorem Working.trans (h : Working s m u) (g : Working m t u) : Working s t u :=
  ⟨h.frame.trans g.frame, g.taps.trans h.taps, fun w differs => (g.others w differs).trans (h.others w differs),
    g.running ∘ h.running⟩

theorem Working.ite {p : Prop} [Decidable p] (ht : Working s t u) (hm : Working s m u) :
    Working s (if p then t else m) u := by
  split <;> assumption

theorem Working.of_frame (h : SameOutside [.ports, .latches] s t) : Working s t u := by
  have trackers : t.trackers = s.trackers := h.get .trackers
  have tables : t.tables = s.tables := h.get .tables
  exact ⟨h.wider, by rw [tables], fun w _ => by rw [trackers], by rw [trackers]; exact id⟩

theorem Working.modTracker (s : State) (u : TrackerId) {f : Tracker → Tracker}
    (running : s.trackers[u].state.isRunning = true → (f s.trackers[u]).state.isRunning = true) :
    Working s (s.modTracker u f) u := by
  refine ⟨(s.modTracker_frame u f).wider, rfl, fun w differs => ?_, fun h => ?_⟩
  · rw [State.modTracker_trackers, if_neg differs.symm]
  · rw [State.modTracker_trackers, if_pos rfl]
    exact running h

section
variable (s) (u)

theorem State.trackerNotice_working (p : TrackerState) (c : TrackerCause) : Working s (s.trackerNotice u p c) u :=
  .of_frame (s.trackerNotice_frame u p c)

theorem State.lose_working (c : TrackerCause) : Working s (s.lose u c) u :=
  (Working.modTracker s u fun _ => rfl).trans (State.trackerNotice_working _ u _ _)

theorem State.dipCheck_working : Working s (s.dipCheck u) u :=
  .ite ((Working.modTracker s u (by exact id)).trans (State.lose_working _ u _)) (.modTracker s u (by exact id))

theorem State.commit_working (h : Handover) : Working s (s.commit u h) u := by
  have settings : Working s (s.modSettings u fun x => { x with reference := h.channel }) u :=
    ⟨(s.modSettings_frame u _).wider, rfl, fun _ _ => rfl, id⟩
  unfold State.commit
  dsimp only
  have noticed := (settings.trans (.modTracker _ u (f := fun k => k.commit h) fun _ => rfl)).trans
    (.of_frame (State.handOver_frame _ (.handover u .committed s.tables.settings[u].reference h.channel h.timeout h.locked
      (((s.modSettings u fun x => { x with reference := h.channel }).modTracker u fun k => k.commit h).trackers[u].state)
      h.ls)))
  exact .ite noticed (noticed.trans (State.trackerNotice_working _ u _ _))

theorem State.handoverStep_working : Working s (s.handoverStep u) u := by
  unfold State.handoverStep
  split
  · exact .refl s u
  · next h _ =>
    refine .ite (s.commit_working u h) (.ite ?_ (.modTracker s u (by exact id)))
    exact (Working.modTracker s u (by exact id)).trans (.of_frame (State.handOver_frame _ _))

theorem State.advanceHoldover_working : Working s (s.advanceHoldover u) u :=
  .ite ((Working.modTracker s u fun _ => rfl).trans (State.trackerNotice_working _ u _ _)) (.modTracker s u (by exact id))

theorem State.trackerWork_working : Working s (s.trackerWork u).1 u := by
  have stepped := (s.dipCheck_working u).trans (State.handoverStep_working _ u)
  exact .trans (.ite (stepped.trans (State.advanceHoldover_working _ u)) stepped) (.modTracker _ u (by exact id))

end

/-- Which tracker's cycles a tracker has does not depend on which of the running states these are in (R39, R77). -/
theorem Working.cycleSource (h : Working s t u) (running : s.trackers[u].state.isRunning = true) (w : TrackerId) :
    t.cycleSource w = s.cycleSource w := by
  have same (x : TrackerId) : (t.trackers[x].state = .idle ↔ s.trackers[x].state = .idle) ∧
      (t.trackers[x].state = .following ↔ s.trackers[x].state = .following) := by
    by_cases own : x = u
    · subst own
      obtain ⟨active, alone⟩ := (TrackerState.isRunning_iff _).mp running
      obtain ⟨active', alone'⟩ := (TrackerState.isRunning_iff _).mp (h.running running)
      exact ⟨iff_of_false active' active, iff_of_false alone' alone⟩
    · rw [h.others x own]
      exact ⟨Iff.rfl, Iff.rfl⟩
  rw [State.cycleSource_eq, State.cycleSource_eq]
  simp only [(same w).1, (same w).2, (same 0).1]

/-! ## What stays of a tap -/

theorem TapKept.refl (s : State) (tap : TapId) : TapKept s s tap := ⟨rfl, rfl, rfl, rfl, rfl⟩

theorem TapKept.trans (h : TapKept s m tap) (g : TapKept m t tap) : TapKept s t tap :=
  ⟨g.slot.trans h.slot, g.former.trans h.former, g.account.trans h.account, g.held.trans h.held, g.stale.trans h.stale⟩

/-- From s to t a tap, the trackers and the trackers' part of the cycle former stay. -/
structure Beside (s t : State) (tap : TapId) : Prop where
  kept : TapKept s t tap
  trackers : t.trackers = s.trackers
  blocks : t.former.trackers = s.former.trackers
  settings : t.tables.settings = s.tables.settings
  second : t.former.second = s.former.second

theorem Beside.refl (s : State) (tap : TapId) : Beside s s tap := ⟨.refl s tap, rfl, rfl, rfl, rfl⟩

theorem Beside.trans (h : Beside s m tap) (g : Beside m t tap) : Beside s t tap :=
  ⟨h.kept.trans g.kept, g.trackers.trans h.trackers, g.blocks.trans h.blocks, g.settings.trans h.settings,
    g.second.trans h.second⟩

theorem Beside.ite {p : Prop} [Decidable p] (ht : Beside s t tap) (hm : Beside s m tap) :
    Beside s (if p then t else m) tap := by
  split <;> assumption

theorem State.applyStaged_beside (s : State) (h : other ≠ tap) : Beside s (s.applyStaged other) tap := by
  cases staged : s.tables.taps[other].staged with
  | none =>
    rw [State.applyStaged_none staged]
    exact .refl s tap
  | some e =>
    obtain ⟨frame, tables, engine, former⟩ := State.applyStaged_applied staged
    refine ⟨⟨?_, ?_, ?_, ?_, ?_⟩, frame.get .trackers, by rw [former], by rw [tables], by rw [former]⟩
    · rw [tables]
      exact (getElem_upd _ _ _ _).trans (if_neg h)
    · rw [former]
      exact (getElem_upd _ _ _ _).trans (if_neg h)
    · rw [frame.get .accounts]
    · rw [engine]
      split
      · exact (getElem_upd _ _ _ _).trans (if_neg h)
      · rfl
    · rw [engine]
      split
      · exact (getElem_upd _ _ _ _).trans (if_neg h)
      · rfl

theorem State.cycleEngine_beside (s : State) (c : EndedCycle) (h : other ≠ tap) (f : FormerTap) (config stale : Bool) :
    (s.cycleEngine c other f config stale).held[tap] = s.engine.held[tap] ∧
      (s.cycleEngine c other f config stale).stale[tap] = s.engine.stale[tap] := by
  unfold State.cycleEngine
  split
  · refine ⟨rfl, ?_⟩
    dsimp only
    split
    · exact (getElem_upd _ _ _ _).trans (if_neg h)
    · rfl
  · exact ⟨rfl, rfl⟩

theorem State.buildEntry_beside (s : State) (c : EndedCycle) (h : other ≠ tap) (f : FormerTap) (config stale : Bool) :
    Beside s (s.buildEntry c other f config stale) tap := by
  have built := s.buildEntry_built c other f config stale
  obtain ⟨held, stales⟩ := s.cycleEngine_beside c h f config stale
  have tables : (s.buildEntry c other f config stale).tables = s.tables := built.frame.get .tables
  refine ⟨⟨by rw [tables], ?_, built.other tap h.symm, ?_, ?_⟩, built.frame.get .trackers, by rw [built.former],
    by rw [tables], by rw [built.former]⟩
  · rw [built.former]
    exact (getElem_upd _ _ _ _).trans (if_neg h)
  · rw [built.engine]
    exact held
  · rw [built.engine]
    exact stales

/-- What a close entry leaves of the cycle former and the accounts (R107). -/
structure CloseBuilt (s t : State) (tap : TapId) : Prop where
  frame : SameOutside [.former, .accounts, .records, .ports, .latches] s t
  former : t.former = { s.former with taps := upd s.former.taps tap { s.former.taps[tap] with unaccounted := 0 } }
  blockNumber : t.accounts[tap].blockNumber = s.accounts[tap].blockNumber
  other : ∀ other : TapId, other ≠ tap → t.accounts[other] = s.accounts[other]

theorem State.closeEntry_built (s : State) (u : TrackerId) (tariff : Tariff) (tap : TapId) (x : Snapshot) :
    CloseBuilt s (s.closeEntry u tariff tap x) tap := by
  rw [s.closeEntry_eq]
  refine ⟨(s.setFormer_frame _).andThen (State.register_frame _ _), (State.register_frame _ _).get .former,
    State.register_blockNumber_of _ rfl, fun other h => State.register_other _ _ h⟩

theorem State.closeEntry_beside (s : State) (u : TrackerId) (tariff : Tariff) (h : other ≠ tap) (x : Snapshot) :
    Beside s (s.closeEntry u tariff other x) tap := by
  obtain ⟨frame, former, -, others⟩ := s.closeEntry_built u tariff other x
  have tables : (s.closeEntry u tariff other x).tables = s.tables := frame.get .tables
  have engine : (s.closeEntry u tariff other x).engine = s.engine := frame.get .engine
  refine ⟨⟨by rw [tables], ?_, others tap h.symm, by rw [engine], by rw [engine]⟩, frame.get .trackers, by rw [former],
    by rw [tables], by rw [former]⟩
  rw [former]
  exact (getElem_upd _ _ _ _).trans (if_neg h)

theorem State.entryOf_beside (s b : State) (c : EndedCycle) (h : other ≠ tap) : Beside s (s.entryOf b c other) tap := by
  rw [State.entryOf_eq]
  refine .ite (.ite (s.buildEntry_beside c h _ _ _) (.ite (s.closeEntry_beside _ _ h _) (.refl s tap))) (.refl s tap)

theorem State.advanceBlock_beside (s : State) (h : other ≠ tap) : Beside s (s.advanceBlock other) tap := by
  refine ⟨⟨rfl, rfl, ?_, rfl, rfl⟩, rfl, rfl, rfl, rfl⟩
  rw [State.advanceBlock, State.modAccount_accounts, if_neg h]

/-! ## Folds over the taps -/

theorem Beside.foldl {f : State → TapId → State} (l : List TapId) (apart : tap ∉ l)
    (others : ∀ k j, j ≠ tap → Beside k (f k j) tap) : ∀ s : State, Beside s (l.foldl f s) tap := by
  induction l with
  | nil => exact fun s => .refl s tap
  | cons j l ih =>
    intro s
    rw [List.mem_cons, not_or] at apart
    exact (others s j (Ne.symm apart.1)).trans (ih apart.2 _)

/-- A fold over all taps, seen from one of them: nothing of it happens before its own step, and nothing after. -/
theorem Beside.around_prefix {f : State → TapId → State} (others : ∀ k j, j ≠ tap → Beside k (f k j) tap) (s : State) :
    ∃ front : List TapId, Beside s (front.foldl f s) tap ∧ Beside (f (front.foldl f s) tap) (allTaps.foldl f s) tap := by
  have member : tap ∈ allTaps := List.mem_finRange tap
  obtain ⟨front, back, split⟩ := List.append_of_mem member
  have nodup : (front ++ tap :: back).Nodup := split ▸ (by decide : allTaps.Nodup)
  have before : tap ∉ front := fun h => (List.nodup_append.mp nodup).2.2 tap h tap (List.mem_cons_self ..) rfl
  have after : tap ∉ back := (List.nodup_cons.mp (List.nodup_append.mp nodup).2.1).1
  rw [split, List.foldl_append, List.foldl_cons]
  exact ⟨_, Beside.foldl front before others s, Beside.foldl back after others _⟩

theorem Beside.around {f : State → TapId → State} (others : ∀ k j, j ≠ tap → Beside k (f k j) tap) (s : State) :
    ∃ m, Beside s m tap ∧ Beside (f m tap) (allTaps.foldl f s) tap := by
  obtain ⟨front, before, after⟩ := Beside.around_prefix others s
  exact ⟨_, before, after⟩

end Sys2Proof.Machine
end


section
/-! SUPPORT. Steps 2 to 5 of a cycle end, seen from one tap (R100 to R107, R119). -/

namespace Sys2Proof.Machine

set_option Elab.async false

open Sys2Proof

variable {s t m b : State} {u v : TrackerId} {tap : TapId}

/-! ## The index step and the tariff step (R94, R99) -/

theorem State.removeTariff_former (s : State) :
    s.removeTariff.former.taps = s.former.taps ∧ s.removeTariff.former.trackers = s.former.trackers := by
  unfold State.removeTariff
  split
  · exact ⟨rfl, rfl⟩
  · split <;> exact ⟨rfl, rfl⟩

theorem State.tariffStep_former (s : State) (u : TrackerId) : (s.tariffStep u).former.taps = s.former.taps ∧
    ∀ w : TrackerId, w ≠ u → (s.tariffStep u).former.trackers[w] = s.former.trackers[w] := by
  have changed (f : FormerTracker → FormerTracker) (w : TrackerId) (h : w ≠ u) :
      (s.modFormerTracker u f).former.trackers[w] = s.former.trackers[w] := by
    rw [State.modFormerTracker_trackers, if_neg h.symm]
  unfold State.tariffStep
  split
  · exact ⟨rfl, changed _⟩
  · split
    · exact ⟨rfl, fun _ _ => rfl⟩
    · split
      · dsimp only
        exact ⟨(State.removeTariff_former _).1, fun w h =>
          (congrArg (fun x : Vector FormerTracker 2 => x[w]) (State.removeTariff_former _).2).trans (changed _ w h)⟩
      · exact ⟨rfl, fun _ _ => rfl⟩

theorem State.indexed_frame (s : State) (u : TrackerId) : SameOutside [.former] s (s.indexed u) :=
  .ite ((s.setFormer_frame _).trans (State.tariffStep_frame _ u)) (s.setFormer_frame _)

theorem State.indexed_former (s : State) (u : TrackerId) : (s.indexed u).former.taps = s.former.taps ∧
    ∀ w : TrackerId, w ≠ u → (s.indexed u).former.trackers[w] = s.former.trackers[w] := by
  have stepped (w : TrackerId) (h : w ≠ u) :
      (upd s.former.trackers u (s.former.trackers[u].indexStep s.tables.settings[u].written))[w] = s.former.trackers[w] :=
    (getElem_upd _ _ _ _).trans (if_neg h.symm)
  unfold State.indexed
  dsimp only
  split
  · obtain ⟨taps, trackers⟩ := State.tariffStep_former (s.setFormer { s.former with
      trackers := upd s.former.trackers u (s.former.trackers[u].indexStep s.tables.settings[u].written) }) u
    exact ⟨taps, fun w h => (trackers w h).trans (stepped w h)⟩
  · exact ⟨rfl, stepped⟩

theorem State.indexed_kept (s : State) (u : TrackerId) (tap : TapId) : TapKept s (s.indexed u) tap := by
  have frame := s.indexed_frame u
  have tables : (s.indexed u).tables = s.tables := frame.get .tables
  have accounts : (s.indexed u).accounts = s.accounts := frame.get .accounts
  have engine : (s.indexed u).engine = s.engine := frame.get .engine
  exact ⟨by rw [tables], by rw [(s.indexed_former u).1], by rw [accounts], by rw [engine], by rw [engine]⟩

/-! ## What of a tap's part reads the state before -/

theorem TapKept.tapTracker (h : TapKept s t tap) : t.tapTracker tap = s.tapTracker tap :=
  congrArg (fun x : TapSlot => x.entry.tracker) h.slot

theorem TapKept.stagedMoves (h : TapKept s t tap) : t.stagedMoves tap = s.stagedMoves tap := by
  unfold State.stagedMoves State.tapTracker State.tapEntry
  rw [h.slot]

theorem TapKept.stagedCloses (h : TapKept s t tap) : t.stagedCloses tap = s.stagedCloses tap := by
  unfold State.stagedCloses
  rw [h.stagedMoves, h.slot]

theorem TapKept.nextCollect (h : TapKept s t tap) (sources : ∀ w, t.cycleSource w = s.cycleSource w) (e : TapEntry) :
    t.nextCollect tap e = s.nextCollect tap e := by
  have makes : t.makesCycles e.tracker = s.makesCycles e.tracker := congrArg Option.isSome (sources e.tracker)
  unfold State.nextCollect
  rw [h.former, h.tapTracker, makes]

/-! ## One tap in each of the three folds -/

/-- The tap's slot after its staged entry, if it has one, is applied (R40). -/
def State.appliedSlot (s : State) (tap : TapId) : TapSlot :=
  match s.tables.taps[tap].staged with
  | none => s.tables.taps[tap]
  | some e => ⟨e, s.tables.taps[tap].generation + 1, none⟩

/-- The tap in the cycle former after its staged entry, if it has one, is applied (R101, R102). -/
def State.appliedTap (s : State) (tap : TapId) : FormerTap :=
  match s.tables.taps[tap].staged with
  | none => s.former.taps[tap]
  | some e => s.former.taps[tap].applied (s.nextCollect tap e)

/-- From s to t the tap's staged entry has been applied. -/
structure TapApplied (s t : State) (tap : TapId) : Prop where
  slot : t.tables.taps[tap] = s.appliedSlot tap
  former : t.former.taps[tap] = s.appliedTap tap
  account : t.accounts[tap] = s.accounts[tap]
  held : t.engine.held[tap] = if s.stagedMoves tap then none else s.engine.held[tap]

theorem State.applyStaged_tap (s : State) (tap : TapId) : TapApplied s (s.applyStaged tap) tap := by
  cases staged : s.tables.taps[tap].staged with
  | none =>
    have unmoved : s.stagedMoves tap = false := by rw [State.stagedMoves, staged]
    rw [State.applyStaged_none staged]
    refine ⟨?_, ?_, rfl, ?_⟩
    · rw [State.appliedSlot, staged]
    · rw [State.appliedTap, staged]
    · rw [unmoved]
      rfl
  | some e =>
    obtain ⟨frame, tables, engine, former⟩ := State.applyStaged_applied staged
    refine ⟨?_, ?_, by rw [frame.get .accounts], ?_⟩
    · rw [tables, State.appliedSlot, staged]
      exact (getElem_upd _ _ _ _).trans (if_pos rfl)
    · rw [former, State.appliedTap, staged]
      exact (getElem_upd _ _ _ _).trans (if_pos rfl)
    · rw [engine]
      split
      · exact (getElem_upd _ _ _ _).trans (if_pos rfl)
      · rfl

theorem TapKept.appliedSlot (h : TapKept s t tap) : t.appliedSlot tap = s.appliedSlot tap := by
  unfold State.appliedSlot
  rw [h.slot]

theorem TapKept.appliedTap (h : TapKept s t tap) (sources : ∀ w, t.cycleSource w = s.cycleSource w) :
    t.appliedTap tap = s.appliedTap tap := by
  unfold State.appliedTap
  rw [h.slot, h.former]
  cases s.tables.taps[tap].staged with
  | none => rfl
  | some e => exact congrArg (FormerTap.applied _) (h.nextCollect sources e)

theorem TapKept.applied (h : TapKept s m tap) (sources : ∀ w, m.cycleSource w = s.cycleSource w)
    (g : TapApplied m t tap) : TapApplied s t tap :=
  ⟨g.slot.trans h.appliedSlot, g.former.trans (h.appliedTap sources), g.account.trans h.account,
    by rw [g.held, h.stagedMoves, h.held]⟩

theorem TapApplied.kept (h : TapApplied s m tap) (g : TapKept m t tap) : TapApplied s t tap :=
  ⟨g.slot.trans h.slot, g.former.trans h.former, g.account.trans h.account, g.held.trans h.held⟩

/-- Does step 5 give the tap an entry (R106)? -/
def State.entered? (s : State) (tap : TapId) : Bool :=
  decide (s.former.taps[tap].collect = .collecting) || s.stagedCloses tap

/-- The tap after the applications and its entry: its pending samples have gone with the entry (R100, R106). -/
def State.enteredTap (s : State) (tap : TapId) : FormerTap :=
  if s.entered? tap then { s.appliedTap tap with unaccounted := 0 } else s.appliedTap tap

/-- What the entry of a tap leaves of it, after the applications. -/
structure TapEntered (s t : State) (tap : TapId) : Prop where
  slot : t.tables.taps[tap] = s.appliedSlot tap
  former : t.former.taps[tap] = s.enteredTap tap
  blockNumber : t.accounts[tap].blockNumber = s.accounts[tap].blockNumber
  held : t.engine.held[tap] = if s.stagedMoves tap then none else s.engine.held[tap]

theorem State.cycleEngine_held (s : State) (c : EndedCycle) (f : FormerTap) (config stale : Bool) :
    (s.cycleEngine c tap f config stale).held = s.engine.held := by
  unfold State.cycleEngine
  split <;> rfl

theorem State.entryOf_tap (c : EndedCycle) (own : s.tapTracker tap = c.tracker)
    (active : s.former.taps[tap].collect ≠ .inactive) (before : TapKept s b tap) (h : TapApplied s m tap) :
    TapEntered s (m.entryOf b c tap) tap := by
  rw [State.entryOf_eq, before.tapTracker, if_pos own, before.former, before.stagedCloses, before.stagedMoves]
  by_cases collecting : s.former.taps[tap].collect = .collecting
  · have entered : s.entered? tap = true := by rw [State.entered?, decide_eq_true collecting, Bool.true_or]
    rw [if_pos collecting]
    have built := m.buildEntry_built c tap s.former.taps[tap] (s.stagedCloses tap) (s.stagedMoves tap)
    refine ⟨?_, ?_, ?_, ?_⟩
    · rw [built.frame.get .tables]
      exact h.slot
    · rw [built.formerTap, h.former, State.enteredTap, if_pos entered]
    · rw [built.blockNumber, h.account]
    · rw [built.engine, State.cycleEngine_held]
      exact h.held
  · rw [if_neg collecting]
    by_cases closes : s.stagedCloses tap = true
    · have entered : s.entered? tap = true := by rw [State.entered?, closes, Bool.or_true]
      rw [if_pos ⟨active, closes⟩]
      have built := m.closeEntry_built c.tracker c.tariff tap (b.snapshot tap)
      refine ⟨?_, ?_, ?_, ?_⟩
      · rw [built.frame.get .tables]
        exact h.slot
      · rw [built.former, State.enteredTap, if_pos entered, ← h.former]
        exact (getElem_upd _ _ _ _).trans (if_pos rfl)
      · rw [built.blockNumber, h.account]
      · rw [built.frame.get .engine]
        exact h.held
    · have none : s.entered? tap = false := by
        rw [State.entered?, decide_eq_false collecting, Bool.eq_false_iff.mpr closes]
        rfl
      rw [if_neg fun both => closes both.2]
      exact ⟨h.slot, by rw [h.former, State.enteredTap, none]; rfl, by rw [h.account], h.held⟩

end Sys2Proof.Machine
end


section
/-! SUPPORT. Steps 2 to 5 of a cycle end for a tap of its tracker and for another, and then the whole cycle end (R100 to
R105). -/

namespace Sys2Proof.Machine

set_option Elab.async false

open Sys2Proof

variable {s t m b : State} {u v : TrackerId} {tap : TapId}

/-! ## Steps 2 to 5 for one tap -/

/-- Does step 5 close the tap's block, where tracker v's close is `close` (R94, R101, R104)? -/
def State.tapCloses (s : State) (tap : TapId) (close : Option CloseReason) : Bool :=
  s.stagedCloses tap || (decide (s.former.taps[tap].collect = .collecting) && close.isSome)

/-- What steps 2 to 5 of a cycle end of its tracker leave of a tap. -/
structure TapParted (s t : State) (tap : TapId) (close : Option CloseReason) : Prop where
  slot : t.tables.taps[tap] = s.appliedSlot tap
  former : t.former.taps[tap] = s.enteredTap tap
  blockNumber : t.accounts[tap].blockNumber = s.accounts[tap].blockNumber + (if s.tapCloses tap close then 1 else 0)
  held : t.engine.held[tap] = if s.stagedMoves tap then none else s.engine.held[tap]

theorem TapEntered.kept (h : TapEntered s m tap) (g : TapKept m t tap) : TapEntered s t tap :=
  ⟨g.slot.trans h.slot, g.former.trans h.former, (congrArg TapAccount.blockNumber g.account).trans h.blockNumber,
    g.held.trans h.held⟩

section
variable (s) (length period : Nat) (filled : Bool) (marks : Marks) (v) (tap)

/-- The applications, seen from a tap. -/
theorem State.applyAllStaged_around : ∃ m, Beside s m tap ∧
    Beside (if s.tapTracker tap = v then m.applyStaged tap else m) (s.applyAllStaged v) tap :=
  Beside.around (f := fun k j => if s.tapTracker j = v then k.applyStaged j else k)
    (fun k _ h => .ite (k.applyStaged_beside h) (.refl k tap)) s

/-- The entries and the block numbers, seen from a tap. -/
theorem State.buildEntries_around (b : State) (c : EndedCycle) : ∃ m n, Beside s m tap ∧ Beside (m.entryOf b c tap) n tap ∧
    Beside (if closedAtEnd b c tap then n.advanceBlock tap else n) (s.buildEntries b c) tap := by
  obtain ⟨m, first, entered⟩ := Beside.around (fun k j h => k.entryOf_beside b c (other := j) (tap := tap) h) s
  obtain ⟨n, numbered, advanced⟩ := Beside.around (tap := tap)
    (f := fun k j => if closedAtEnd b c j then k.advanceBlock j else k)
    (fun k _ h => .ite (k.advanceBlock_beside h) (.refl k tap)) (allTaps.foldl (fun k j => k.entryOf b c j) s)
  exact ⟨m, n, first, entered.trans numbered, advanced⟩

theorem State.ending_tracker : (s.ending length period filled marks v).tracker = v := rfl

theorem State.formerPart_parted (own : s.tapTracker tap = v) (active : s.former.taps[tap].collect ≠ .inactive) :
    TapParted s (s.formerPart length period filled marks v) tap s.former.trackers[v].indexDecision.close := by
  have before := s.indexed_kept v tap
  have trackers : (s.indexed v).trackers = s.trackers := (s.indexed_frame v).get .trackers
  have sources (m : State) (same : m.trackers = (s.indexed v).trackers) (w : TrackerId) :
      m.cycleSource w = s.cycleSource w :=
    State.cycleSource_congr (fun x => by rw [same, trackers]) w
  obtain ⟨m, first, applies⟩ := (s.indexed v).applyAllStaged_around v tap
  rw [if_pos (before.tapTracker.trans own)] at applies
  have applied : TapApplied s ((s.indexed v).applyAllStaged v) tap :=
    ((before.trans first.kept).applied (sources m first.trackers) (m.applyStaged_tap tap)).kept applies.kept
  obtain ⟨k, n, second, entries, advanced⟩ := ((s.indexed v).applyAllStaged v).buildEntries_around tap (s.indexed v)
    (s.ending length period filled marks v)
  have entered : TapEntered s n tap := (State.entryOf_tap (s.ending length period filled marks v) own active before
    (applied.kept second.kept)).kept entries.kept
  have closes : closedAtEnd (s.indexed v) (s.ending length period filled marks v) tap =
      s.tapCloses tap s.former.trackers[v].indexDecision.close := by
    rw [Bool.eq_iff_iff, closedAtEnd_eq, before.tapTracker, before.former, before.stagedCloses, State.tapCloses,
      Bool.or_eq_true, Bool.and_eq_true, decide_eq_true_iff]
    exact ⟨fun ⟨_, _, h⟩ => h, fun h => ⟨own, active, h⟩⟩
  rw [State.formerPart_eq]
  rw [closes] at advanced
  have kept := advanced.kept
  cases h : s.tapCloses tap s.former.trackers[v].indexDecision.close with
  | false =>
    rw [h, if_neg Bool.false_ne_true] at kept
    exact ⟨kept.slot.trans entered.slot, kept.former.trans entered.former,
      (congrArg TapAccount.blockNumber kept.account).trans (entered.blockNumber.trans (by rw [h]; exact (BitVec.add_zero _).symm)),
      kept.held.trans entered.held⟩
  | true =>
    rw [h, if_pos rfl] at kept
    refine ⟨kept.slot.trans entered.slot, kept.former.trans entered.former, ?_, kept.held.trans entered.held⟩
    rw [kept.account, State.advanceBlock, State.modAccount_accounts, if_pos rfl, h, if_pos rfl, ← entered.blockNumber]

/-- A tap of another tracker, and one that neither collects nor has a staged entry, stays (R101, R106). -/
theorem State.formerPart_kept (h : s.tapTracker tap ≠ v ∨
    (s.tables.taps[tap].staged = none ∧ s.former.taps[tap].collect ≠ .collecting)) :
    TapKept s (s.formerPart length period filled marks v) tap := by
  have before := s.indexed_kept v tap
  obtain ⟨m, first, applies⟩ := (s.indexed v).applyAllStaged_around v tap
  obtain ⟨k, n, second, entries, advanced⟩ := ((s.indexed v).applyAllStaged v).buildEntries_around tap (s.indexed v)
    (s.ending length period filled marks v)
  have unapplied : (if (s.indexed v).tapTracker tap = v then m.applyStaged tap else m) = m := by
    split
    · next own =>
      obtain ⟨none, -⟩ := h.resolve_left (not_not.mpr (before.tapTracker.symm.trans own))
      exact State.applyStaged_none (by rw [first.kept.slot, before.slot]; exact none)
    · rfl
  have closesNone (none : s.tables.taps[tap].staged = none) : s.stagedCloses tap = false := by
    rw [State.stagedCloses, State.stagedMoves, none]
    rfl
  have unentered : k.entryOf (s.indexed v) (s.ending length period filled marks v) tap = k := by
    rw [State.entryOf_eq, before.tapTracker, before.former, before.stagedCloses]
    refine ite_eq_right_iff.mpr fun own => ?_
    obtain ⟨none, idle⟩ := h.resolve_left (not_not.mpr own)
    rw [if_neg idle, closesNone none]
    exact if_neg fun both => Bool.false_ne_true both.2
  have unclosed : closedAtEnd (s.indexed v) (s.ending length period filled marks v) tap = false := by
    rw [Bool.eq_false_iff, Ne, closedAtEnd_eq, before.tapTracker, before.former, before.stagedCloses]
    rintro ⟨own, -, closes⟩
    obtain ⟨none, idle⟩ := h.resolve_left (not_not.mpr own)
    rw [closesNone none] at closes
    exact closes.elim Bool.false_ne_true fun both => idle both.1
  rw [unapplied] at applies
  rw [unentered] at entries
  rw [unclosed, if_neg Bool.false_ne_true] at advanced
  rw [State.formerPart_eq]
  exact (((((before.trans first.kept).trans applies.kept).trans second.kept).trans entries.kept)).trans advanced.kept

theorem foldl_keeps {α β : Type} {g : State → α} {f : State → β → State} (h : ∀ k j, g (f k j) = g k) :
    ∀ (l : List β) (s : State), g (l.foldl f s) = g s
  | [], _ => rfl
  | j :: l, s => (foldl_keeps h l (f s j)).trans (h s j)

theorem State.applyStaged_blocks (tap : TapId) : (s.applyStaged tap).former.trackers = s.former.trackers := by
  cases staged : s.tables.taps[tap].staged with
  | none => rw [State.applyStaged_none staged]
  | some e => rw [(State.applyStaged_applied staged).former]

theorem State.entryOf_blocks (b : State) (c : EndedCycle) (tap : TapId) :
    (s.entryOf b c tap).former.trackers = s.former.trackers := by
  rw [State.entryOf_eq]
  split
  · split
    · rw [(s.buildEntry_built c tap _ _ _).former]
    · split
      · rw [(s.closeEntry_built c.tracker c.tariff tap (b.snapshot tap)).former]
      · rfl
  · rfl

theorem State.formerPart_trackers : (s.formerPart length period filled marks v).trackers = s.trackers ∧
    ∀ w : TrackerId, w ≠ v → (s.formerPart length period filled marks v).former.trackers[w] = s.former.trackers[w] := by
  refine ⟨(s.formerPart_frame length period filled marks v).get .trackers, fun w h => ?_⟩
  have applied : ((s.indexed v).applyAllStaged v).former.trackers = (s.indexed v).former.trackers :=
    foldl_keeps (g := fun k => k.former.trackers) (f := fun k j => if (s.indexed v).tapTracker j = v then k.applyStaged j else k)
      (fun k j => by
        split
        · exact k.applyStaged_blocks j
        · rfl) allTaps (s.indexed v)
  have entered : ∀ k : State, (k.buildEntries (s.indexed v) (s.ending length period filled marks v)).former.trackers =
      k.former.trackers := fun k =>
    (foldl_keeps (g := fun k => k.former.trackers)
      (f := fun k j => if closedAtEnd (s.indexed v) (s.ending length period filled marks v) j then k.advanceBlock j else k)
      (fun k j => by split <;> rfl) allTaps _).trans
      (foldl_keeps (g := fun k => k.former.trackers) (fun k j => k.entryOf_blocks _ _ j) allTaps k)
  rw [State.formerPart_eq, entered, applied]
  exact (s.indexed_former v).2 w h

end

end Sys2Proof.Machine
end


section
/-! SUPPORT. The whole cycle end, seen from one tap (R80, R100 to R105). -/

namespace Sys2Proof.Machine

set_option Elab.async false

open Sys2Proof

variable {s t k o : State} {u v : TrackerId} {tap : TapId} {f : FormerTap} {e : TapEntry} {close : Option CloseReason}

/-! ## One tap at the start of a cycle (R100, R102) -/

theorem FormerTap.cycleStart_inactive (h : f.collect = .inactive) : f.cycleStart = f := by
  rw [FormerTap.cycleStart, h]

theorem FormerTap.cycleStart_active (h : f.collect ≠ .inactive) :
    f.cycleStart = tapCleared .collecting (f.unaccounted + f.gap) := by
  unfold FormerTap.cycleStart
  cases collect : f.collect with
  | inactive => exact absurd collect h
  | collecting => rfl
  | joining gap => rfl

theorem FormerTap.gap_joining {gap : Option Nat} (h : f.collect = .joining gap) : f.gap = gap.getD 0 := by
  rw [FormerTap.gap, h]
  cases gap <;> rfl

theorem FormerTap.gap_collecting (h : f.collect = .collecting) : f.gap = 0 := by
  rw [FormerTap.gap, h]

theorem FormerTap.applied_collect (f : FormerTap) (next : Collect) : (f.applied next).collect = next := by
  unfold FormerTap.applied
  split
  · next same => exact same.2.symm
  · rfl

/-! ## The tap after its entry, by its staged entry (R101, R102, R106) -/

/-- A tap that its application leaves on its tracker: its pending samples have gone with the entry, if it had one. -/
theorem State.enteredTap_stays (h : s.appliedTap tap = s.former.taps[tap]) : s.enteredTap tap =
    { s.former.taps[tap] with unaccounted := if s.entered? tap then 0 else s.former.taps[tap].unaccounted } := by
  rw [State.enteredTap, h]
  split <;> rfl

theorem State.appliedTap_none (none : s.tables.taps[tap].staged = none) : s.appliedTap tap = s.former.taps[tap] := by
  rw [State.appliedTap, none]

theorem State.appliedTap_same (active : s.former.taps[tap].collect ≠ .inactive)
    (staged : s.tables.taps[tap].staged = some e) (enabled : e.enabled = true) (same : e.tracker = s.tapTracker tap) :
    s.appliedTap tap = s.former.taps[tap] := by
  rw [State.appliedTap, staged]
  dsimp only
  rw [State.nextCollect, if_neg active, if_neg (by rw [enabled]; exact Bool.noConfusion), if_pos same, FormerTap.applied,
    if_pos ⟨active, rfl⟩]

/-- The application of the tap's staged entry e takes the tap away from its tracker (R101, R102). -/
def State.leaves (s : State) (tap : TapId) (e : TapEntry) : Prop := e.enabled = false ∨ e.tracker ≠ s.tapTracker tap

theorem State.stagedCloses_of_staged (staged : s.tables.taps[tap].staged = some e) : s.stagedCloses tap = true ↔
    e.enabled = false ∨ e.tracker ≠ s.tapTracker tap ∨ e.channels ≠ (s.tapEntry tap).channels := by
  rw [State.stagedCloses, State.stagedMoves, staged, Bool.or_eq_true, decide_eq_true_iff, or_comm]
  exact or_congr (by simp) Iff.rfl

theorem State.nextCollect_leaves (active : s.former.taps[tap].collect ≠ .inactive) (leaves : s.leaves tap e) :
    s.nextCollect tap e = if e.enabled = false then .inactive
      else if s.makesCycles e.tracker = true then .joining (some 0) else .inactive := by
  rw [State.nextCollect, if_neg active]
  split
  · rfl
  · next enabled => rw [if_neg (leaves.resolve_left enabled)]

theorem State.enteredTap_leaves (active : s.former.taps[tap].collect ≠ .inactive)
    (staged : s.tables.taps[tap].staged = some e) (leaves : s.leaves tap e) :
    (s.enteredTap tap).collect = s.nextCollect tap e ∧ (s.enteredTap tap).unaccounted = 0 ∧
      (s.former.taps[tap].collect = .collecting → s.enteredTap tap = tapCleared (s.nextCollect tap e) 0) := by
  have closes : s.stagedCloses tap = true := (State.stagedCloses_of_staged staged).mpr (leaves.imp_right .inl)
  have entered : s.enteredTap tap = { s.former.taps[tap].applied (s.nextCollect tap e) with unaccounted := 0 } := by
    rw [State.enteredTap, State.entered?, closes, Bool.or_true, if_pos rfl, State.appliedTap, staged]
  rw [entered]
  refine ⟨FormerTap.applied_collect _ _, rfl, fun collecting => ?_⟩
  have changes : s.nextCollect tap e ≠ s.former.taps[tap].collect := by
    rw [State.nextCollect_leaves active leaves, collecting]
    split
    · exact Collect.noConfusion
    · split <;> exact Collect.noConfusion
  rw [FormerTap.applied, if_neg fun both => changes both.2]
  rfl

/-! ## Steps 2 to 5 for the tracker and its follower (R105) -/

theorem TapKept.parted (h : TapKept s k tap) (sources : ∀ w, k.cycleSource w = s.cycleSource w)
    (g : TapParted k t tap close) : TapParted s t tap close := by
  have entered : k.enteredTap tap = s.enteredTap tap := by
    rw [State.enteredTap, State.enteredTap, h.appliedTap sources, State.entered?, State.entered?, h.former, h.stagedCloses]
  have closes : k.tapCloses tap close = s.tapCloses tap close := by
    rw [State.tapCloses, State.tapCloses, h.former, h.stagedCloses]
  exact ⟨g.slot.trans h.appliedSlot, g.former.trans entered, by rw [g.blockNumber, h.account, closes],
    by rw [g.held, h.stagedMoves, h.held]⟩

theorem TapParted.kept (h : TapParted s k tap close) (g : TapKept k t tap) : TapParted s t tap close :=
  ⟨g.slot.trans h.slot, g.former.trans h.former, (congrArg TapAccount.blockNumber g.account).trans h.blockNumber,
    g.held.trans h.held⟩

/-- A tap that steps 2 to 5 of tracker v have treated has nothing left for those of another tracker. -/
theorem TapParted.rests (h : TapParted s t tap close) (active : s.former.taps[tap].collect ≠ .inactive)
    (differs : s.tapTracker tap ≠ v) :
    t.tapTracker tap ≠ v ∨ (t.tables.taps[tap].staged = none ∧ t.former.taps[tap].collect ≠ .collecting) := by
  have tracker : t.tapTracker tap = (s.appliedSlot tap).entry.tracker := congrArg (fun x : TapSlot => x.entry.tracker) h.slot
  rw [tracker, h.slot, h.former, State.appliedSlot]
  cases staged : s.tables.taps[tap].staged with
  | none => exact .inl differs
  | some e =>
    by_cases same : e.tracker = s.tapTracker tap
    · exact .inl (by dsimp only; rwa [same])
    · refine .inr ⟨rfl, ?_⟩
      rw [(State.enteredTap_leaves active staged (.inr same)).1, State.nextCollect_leaves active (.inr same)]
      split
      · exact Collect.noConfusion
      · split <;> exact Collect.noConfusion

/-- Steps 2 to 5 for tracker u, and where tracker 1 follows it for that (R105). -/
def State.bothParts (s : State) (u : TrackerId) (r : Resampler) (marks : Marks) : State :=
  let n := s.formerPart r.samples r.period r.filled marks u
  if u = 0 ∧ n.trackers[(1 : TrackerId)].state = .following then n.formerPart r.samples r.period r.filled marks 1 else n

section
variable (s) (r : Resampler) (marks : Marks) (running : s.trackers[u].state.isRunning = true)

theorem State.bothParts_trackers : (s.bothParts u r marks).trackers = s.trackers := by
  have first := (s.formerPart_trackers u r.samples r.period r.filled marks).1
  unfold State.bothParts
  dsimp only
  generalize s.formerPart r.samples r.period r.filled marks u = n at first ⊢
  split
  · exact (n.formerPart_trackers 1 r.samples r.period r.filled marks).1.trans first
  · exact first

include running

theorem State.bothParts_parted (own : s.cycleSource v = some u) (tracker : s.tapTracker tap = v)
    (active : s.former.taps[tap].collect ≠ .inactive) :
    TapParted s (s.bothParts u r marks) tap s.former.trackers[v].indexDecision.close := by
  obtain ⟨awake, alone⟩ := (TrackerState.isRunning_iff _).mp running
  obtain ⟨trackers, blocks⟩ := s.formerPart_trackers u r.samples r.period r.filled marks
  unfold State.bothParts
  dsimp only
  by_cases same : v = u
  · subst same
    have first := s.formerPart_parted v tap r.samples r.period r.filled marks tracker active
    generalize s.formerPart r.samples r.period r.filled marks v = n at first ⊢
    split
    · next follows =>
      have differs : s.tapTracker tap ≠ 1 := by
        rw [tracker, follows.1]
        decide
      exact first.kept (n.formerPart_kept 1 tap r.samples r.period r.filled marks (first.rests active differs))
    · exact first
  · obtain ⟨following, zero⟩ : s.trackers[v].state = .following ∧ u = 0 := by
      rw [State.cycleSource_eq] at own
      split at own
      · exact nomatch own
      · split at own
        · next follows =>
          split at own
          · exact nomatch own
          · exact ⟨follows, (Option.some.inj own).symm⟩
        · exact absurd (Option.some.inj own) same
    subst zero
    obtain rfl : v = 1 := Fin.eq_one_of_ne_zero v same
    have kept := s.formerPart_kept 0 tap r.samples r.period r.filled marks (.inl (tracker.trans_ne same))
    generalize s.formerPart r.samples r.period r.filled marks 0 = n at kept trackers blocks ⊢
    have second := n.formerPart_parted 1 tap r.samples r.period r.filled marks (kept.tapTracker.trans tracker)
      (by rw [kept.former]; exact active)
    rw [blocks 1 same] at second
    rw [if_pos ⟨rfl, by rw [trackers]; exact following⟩]
    exact kept.parted (fun w => State.cycleSource_congr (fun x => by rw [trackers]) w) second

theorem State.bothParts_kept (apart : s.cycleSource (s.tapTracker tap) ≠ some u) :
    TapKept s (s.bothParts u r marks) tap := by
  have differs : s.tapTracker tap ≠ u := fun same => by
    subst same
    exact apart (State.cycleSource_of_running running)
  have first := s.formerPart_kept u tap r.samples r.period r.filled marks (.inl differs)
  obtain ⟨trackers, -⟩ := s.formerPart_trackers u r.samples r.period r.filled marks
  unfold State.bothParts
  dsimp only
  generalize s.formerPart r.samples r.period r.filled marks u = n at first trackers ⊢
  split
  · next follows =>
    obtain ⟨rfl, following⟩ := follows
    rw [trackers] at following
    refine first.trans (n.formerPart_kept 1 tap r.samples r.period r.filled marks (.inl fun one => apart ?_))
    rw [first.tapTracker] at one
    obtain ⟨awake, -⟩ := (TrackerState.isRunning_iff _).mp running
    rw [one, State.cycleSource_eq, following, if_neg (by decide), if_pos rfl, if_neg awake]
  · exact first

end

/-! ## The cycle end (R105) -/

/-- The state from which steps 2 to 5 run: the tracker has worked and its resampler has started again (R93). -/
def State.workedOff (s : State) (u : TrackerId) (acc : Nat) : State :=
  let m := (s.trackerWork u).1
  m.located u (some ⟨acc, 0, 2 ^ 39 / m.trackers[u].lfix, 0, m.trackers[u].lfix, false⟩)

theorem State.cycleEnd_parts (s : State) (u : TrackerId) (r : Resampler) (acc : Nat) : s.cycleEnd u r acc =
    ((s.workedOff u acc).bothParts u r (s.trackerWork u).2).cycleStart u :=
  s.cycleEnd_eq u r acc

theorem State.workedOff_kept (s : State) (u : TrackerId) (acc : Nat) (tap : TapId) : TapKept s (s.workedOff u acc) tap := by
  have work := s.trackerWork_working u
  have former : (s.trackerWork u).1.former = s.former := work.frame.get .former
  have accounts : (s.trackerWork u).1.accounts = s.accounts := work.frame.get .accounts
  have engine : (s.trackerWork u).1.engine = s.engine := work.frame.get .engine
  refine ⟨?_, ?_, ?_, ?_, ?_⟩ <;> unfold State.workedOff State.located
  · exact (congrArg (fun x : Vector TapSlot 8 => x[tap]) work.taps :)
  · exact (congrArg (fun x : Former => x.taps[tap]) former :)
  · exact (congrArg (fun x : Vector TapAccount 8 => x[tap]) accounts :)
  · exact (congrArg (fun x : Engine => x.held[tap]) engine :)
  · exact (congrArg (fun x : Engine => x.stale[tap]) engine :)

theorem State.located_tracker (s : State) (u v : TrackerId) (x : Option Resampler) :
    ∃ y, (s.located u x).former.trackers[v] = { s.former.trackers[v] with resampler := y } := by
  by_cases same : u = v
  · subst same
    exact ⟨x, (getElem_upd _ _ _ _).trans (if_pos rfl)⟩
  · exact ⟨s.former.trackers[v].resampler, (getElem_upd _ _ _ _).trans (if_neg same)⟩

theorem State.workedOff_decision (s : State) (u v : TrackerId) (acc : Nat) :
    (s.workedOff u acc).former.trackers[v].indexDecision = s.former.trackers[v].indexDecision := by
  have former : (s.trackerWork u).1.former = s.former := (s.trackerWork_working u).frame.get .former
  obtain ⟨y, located⟩ := (s.trackerWork u).1.located_tracker u v
    (some ⟨acc, 0, 2 ^ 39 / (s.trackerWork u).1.trackers[u].lfix, 0, (s.trackerWork u).1.trackers[u].lfix, false⟩)
  rw [State.workedOff, located, former]
  rfl

theorem State.cycleStart_kept (s : State) (u : TrackerId) (apart : s.cycleSource (s.tapTracker tap) ≠ some u) :
    TapKept s (s.cycleStart u) tap :=
  ⟨rfl, (s.cycleStart_taps u tap).trans (if_neg apart), rfl, rfl, rfl⟩

section
variable (s) (r : Resampler) (acc : Nat) (running : s.trackers[u].state.isRunning = true)
include running

theorem State.workedOff_sources (v : TrackerId) : (s.workedOff u acc).cycleSource v = s.cycleSource v :=
  (s.trackerWork_working u).cycleSource running v

theorem State.workedOff_running : (s.workedOff u acc).trackers[u].state.isRunning = true :=
  (s.trackerWork_working u).running running

/-- A tap that does not take part in the cycles that end stays (R105). -/
theorem State.cycleEnd_kept (apart : s.cycleSource (s.tapTracker tap) ≠ some u) : TapKept s (s.cycleEnd u r acc) tap := by
  have before := s.workedOff_kept u acc tap
  have sources := s.workedOff_sources acc running
  have awake := s.workedOff_running acc running
  rw [State.cycleEnd_parts]
  generalize s.workedOff u acc = k at before sources awake ⊢
  have apart' : k.cycleSource (k.tapTracker tap) ≠ some u := by rwa [sources, before.tapTracker]
  have parts := k.bothParts_kept r (s.trackerWork u).2 awake apart'
  have trackers := k.bothParts_trackers (u := u) r (s.trackerWork u).2
  generalize k.bothParts u r (s.trackerWork u).2 = o at parts trackers ⊢
  refine before.trans (parts.trans (o.cycleStart_kept u ?_))
  rw [parts.tapTracker, State.cycleSource_congr (s := k) (fun w => by rw [trackers])]
  exact apart'

theorem State.cycleEnd_parted (own : s.cycleSource v = some u) (tracker : s.tapTracker tap = v)
    (active : s.former.taps[tap].collect ≠ .inactive) :
    ∃ o, s.cycleEnd u r acc = o.cycleStart u ∧ (∀ w, o.cycleSource w = s.cycleSource w) ∧
      TapParted s o tap s.former.trackers[v].indexDecision.close := by
  have before := s.workedOff_kept u acc tap
  have sources := s.workedOff_sources acc running
  have awake := s.workedOff_running acc running
  have decision := s.workedOff_decision u v acc
  refine ⟨_, s.cycleEnd_parts u r acc, ?_⟩
  generalize s.workedOff u acc = k at before sources awake decision ⊢
  have parted := k.bothParts_parted (v := v) r (s.trackerWork u).2 awake ((sources v).trans own)
    (before.tapTracker.trans tracker) (by rw [before.former]; exact active)
  have trackers := k.bothParts_trackers (u := u) r (s.trackerWork u).2
  refine ⟨fun w => (State.cycleSource_congr (fun w => by rw [trackers]) w).trans (sources w), ?_⟩
  rw [decision] at parted
  exact before.parted sources parted

end

end Sys2Proof.Machine
end


section
/-! O41. Points, the resampler's step, the cycle end, its entries and what it does to each tap (R92 to R107, R119, R120,
R131 to R137). -/

namespace Sys2Proof.Machine

set_option Elab.async false

open Sys2Proof

variable {s t o : State} {u : TrackerId} {tap : TapId} {e : TapEntry} {close : Option CloseReason}

/-! ## A tap at a cycle end (R100 to R104, R119) -/

theorem tapCleared_collect (c : Collect) (n : Nat) : (tapCleared c n).collect = c := rfl

theorem TapParted.goesOn (h : TapParted s o tap close) (active : s.former.taps[tap].collect ≠ .inactive)
    (stays : s.appliedTap tap = s.former.taps[tap]) (source : o.cycleSource (o.tapTracker tap) = some u) :
    (o.cycleStart u).former.taps[tap] = tapCleared .collecting
      ((if s.entered? tap then 0 else s.former.taps[tap].unaccounted) + s.former.taps[tap].gap) := by
  rw [State.cycleStart_taps, if_pos source, h.former, State.enteredTap_stays stays,
    FormerTap.cycleStart_active (by exact active)]
  rfl

theorem TapParted.leaves (h : TapParted s o tap close) (active : s.former.taps[tap].collect ≠ .inactive)
    (staged : s.tables.taps[tap].staged = some e) (leaves : s.leaves tap e) (source : o.cycleSource (o.tapTracker tap) = s.cycleSource e.tracker) :
    let next := if e.enabled = false then .inactive else if s.cycleSource e.tracker = some u then .collecting
      else if s.makesCycles e.tracker = true then .joining (some 0) else .inactive
    ((o.cycleStart u).former.taps[tap]).collect = next ∧ ((o.cycleStart u).former.taps[tap]).unaccounted = 0 ∧
      (s.former.taps[tap].collect = .collecting → (o.cycleStart u).former.taps[tap] = tapCleared next 0) := by
  intro next
  obtain ⟨collect, none, cleared⟩ := State.enteredTap_leaves active staged leaves
  rw [State.nextCollect_leaves active leaves] at collect cleared
  rw [State.cycleStart_taps, h.former, source]
  generalize s.enteredTap tap = f at collect none cleared ⊢
  by_cases disabled : e.enabled = false
  · rw [if_pos disabled] at collect cleared
    have still : (if s.cycleSource e.tracker = some u then f.cycleStart else f) = f := by
      rw [FormerTap.cycleStart_inactive collect, ite_self]
    have ends : next = .inactive := if_pos disabled
    rw [still, ends]
    exact ⟨collect, none, cleared⟩
  · rw [if_neg disabled] at collect cleared
    by_cases joins : s.cycleSource e.tracker = some u
    · have makes : s.makesCycles e.tracker = true := by rw [State.makesCycles, joins]; rfl
      have ends : next = .collecting := by rw [show next = _ from if_neg disabled, if_pos joins]
      rw [if_pos makes] at collect
      have started : f.cycleStart = tapCleared .collecting 0 := by
        rw [FormerTap.cycleStart_active (by rw [collect]; exact Collect.noConfusion), none, FormerTap.gap_joining collect]
        rfl
      rw [if_pos joins, started, ends]
      exact ⟨rfl, rfl, fun _ => rfl⟩
    · have ends : next = if s.makesCycles e.tracker = true then .joining (some 0) else .inactive := by
        rw [show next = _ from if_neg disabled, if_neg joins]
      rw [if_neg joins, ends]
      exact ⟨collect, none, cleared⟩

/-- A tap with no staged entry goes on with the cycles of its tracker (R100 to R104). -/
theorem TapParted.started_none (h : TapParted s o tap s.former.trackers[s.tapTracker tap].indexDecision.close)
    (sources : ∀ w, o.cycleSource w = s.cycleSource w) (active : s.former.taps[tap].collect ≠ .inactive)
    (own : s.cycleSource (s.tapTracker tap) = some u) (staged : s.tables.taps[tap].staged = none) :
    TapAtCycleEnd s (o.cycleStart u) u tap := by
  have closes : s.stagedCloses tap = false := by
    rw [State.stagedCloses, State.stagedMoves, staged]
    rfl
  have slot : s.appliedSlot tap = s.tables.taps[tap] := by rw [State.appliedSlot, staged]
  have tracker : o.tapTracker tap = s.tapTracker tap :=
    congrArg (fun x : TapSlot => x.entry.tracker) (h.slot.trans slot)
  have former := h.goesOn active (State.appliedTap_none staged) (u := u) (by rw [sources, tracker]; exact own)
  have block := h.blockNumber
  rw [State.entered?, closes, Bool.or_false] at former
  rw [State.tapCloses, closes, Bool.false_or] at block
  simp only [Bool.and_eq_true, decide_eq_true_iff] at block
  refine ⟨?_, ?_, ?_, h.held, fun collecting => ?_, fun gap joining => ?_⟩
  · rw [staged]
    exact h.slot.trans slot
  · rw [staged, former]
    rfl
  · rw [staged]
    exact block
  · rw [former, decide_eq_true collecting, if_pos rfl, FormerTap.gap_collecting collecting]
    rfl
  · rw [staged, former, decide_eq_false (by rw [joining]; exact Collect.noConfusion), FormerTap.gap_joining joining]
    rfl

theorem TapParted.closes_some (h : TapParted s o tap close) (staged : s.tables.taps[tap].staged = some e) :
    o.accounts[tap].blockNumber = s.accounts[tap].blockNumber +
      if e.enabled = false ∨ e.tracker ≠ s.tapTracker tap ∨ e.channels ≠ (s.tapEntry tap).channels ∨
        (s.former.taps[tap].collect = .collecting ∧ close.isSome = true) then 1 else 0 := by
  have closes : s.tapCloses tap close = true ↔ e.enabled = false ∨ e.tracker ≠ s.tapTracker tap ∨
      e.channels ≠ (s.tapEntry tap).channels ∨ (s.former.taps[tap].collect = .collecting ∧ close.isSome = true) := by
    rw [State.tapCloses, Bool.or_eq_true, State.stagedCloses_of_staged staged, Bool.and_eq_true, decide_eq_true_iff,
      or_assoc, or_assoc]
  rw [h.blockNumber]
  simp only [closes]

/-- A tap whose staged entry leaves it on its tracker goes on with the cycles of that tracker (R100 to R104). -/
theorem TapParted.started_stays (h : TapParted s o tap s.former.trackers[s.tapTracker tap].indexDecision.close)
    (sources : ∀ w, o.cycleSource w = s.cycleSource w) (active : s.former.taps[tap].collect ≠ .inactive)
    (own : s.cycleSource (s.tapTracker tap) = some u) (staged : s.tables.taps[tap].staged = some e)
    (stays : ¬s.leaves tap e) : TapAtCycleEnd s (o.cycleStart u) u tap := by
  rw [State.leaves, not_or, not_not, Bool.not_eq_false] at stays
  obtain ⟨enabled, same⟩ := stays
  have slot : s.appliedSlot tap = ⟨e, s.tables.taps[tap].generation + 1, none⟩ := by rw [State.appliedSlot, staged]
  have tracker : o.tapTracker tap = s.tapTracker tap :=
    (congrArg (fun x : TapSlot => x.entry.tracker) (h.slot.trans slot)).trans same
  have former := h.goesOn active (State.appliedTap_same active staged enabled same) (u := u)
    (by rw [sources, tracker]; exact own)
  have present : e.enabled ≠ false := by rw [enabled]; exact Bool.noConfusion
  refine ⟨?_, ?_, ?_, h.held, fun collecting => ?_, fun gap joining => ?_⟩
  · rw [staged]
    exact h.slot.trans slot
  · rw [staged, former]
    dsimp only
    rw [if_neg present, same, if_pos own]
    rfl
  · rw [staged]
    exact h.closes_some staged
  · rw [former, State.entered?, decide_eq_true collecting, Bool.true_or, if_pos rfl, FormerTap.gap_collecting collecting]
    rfl
  · have alone : ¬(e.enabled = false ∨ e.tracker ≠ s.tapTracker tap) := not_or.mpr ⟨present, not_not.mpr same⟩
    have idle : s.former.taps[tap].collect ≠ .collecting := by
      rw [joining]
      exact Collect.noConfusion
    have entered : s.entered? tap = true ↔ e.channels ≠ (s.tapEntry tap).channels := by
      rw [State.entered?, decide_eq_false idle, Bool.false_or, State.stagedCloses_of_staged staged, ← or_assoc,
        or_iff_right alone]
    rw [staged, former, FormerTap.gap_joining joining]
    dsimp only
    rw [if_neg alone]
    by_cases differs : e.channels ≠ (s.tapEntry tap).channels
    · rw [if_pos differs, if_pos (entered.mpr differs), Nat.zero_add]
      rfl
    · rw [if_neg differs, if_neg (mt entered.mp differs)]
      rfl

/-- A tap that its staged entry takes away from its tracker (R101, R102). -/
theorem TapParted.started_leaves (h : TapParted s o tap s.former.trackers[s.tapTracker tap].indexDecision.close)
    (sources : ∀ w, o.cycleSource w = s.cycleSource w) (active : s.former.taps[tap].collect ≠ .inactive)
    (staged : s.tables.taps[tap].staged = some e) (leaves : s.leaves tap e) :
    TapAtCycleEnd s (o.cycleStart u) u tap := by
  have slot : s.appliedSlot tap = ⟨e, s.tables.taps[tap].generation + 1, none⟩ := by rw [State.appliedSlot, staged]
  have tracker : o.tapTracker tap = e.tracker :=
    congrArg (fun x : TapSlot => x.entry.tracker) (h.slot.trans slot)
  obtain ⟨collect, none, cleared⟩ := h.leaves active staged leaves (u := u) (by rw [sources, tracker])
  refine ⟨?_, ?_, ?_, h.held, fun collecting => ?_, fun gap joining => ?_⟩
  · rw [staged]
    exact h.slot.trans slot
  · rw [staged]
    exact collect
  · rw [staged]
    exact h.closes_some staged
  · rw [cleared collecting]
    rfl
  · rw [staged, none]
    exact (if_pos leaves).symm

/-! ## The statement -/

theorem State.cycleEnd_tap (s : State) (r : Resampler) (acc : Nat) (running : s.trackers[u].state.isRunning = true)
    (own : s.cycleSource (s.tapTracker tap) = some u) (active : s.former.taps[tap].collect ≠ .inactive) :
    TapAtCycleEnd s (s.cycleEnd u r acc) u tap := by
  obtain ⟨o, ends, sources, parted⟩ := s.cycleEnd_parted r acc running own rfl active
  rw [ends]
  cases staged : s.tables.taps[tap].staged with
  | none => exact parted.started_none sources active own staged
  | some e =>
    by_cases leaves : s.leaves tap e
    · exact parted.started_leaves sources active staged leaves
    · exact parted.started_stays sources active own staged leaves

theorem State.resample_reads {u : TrackerId} (previous values : ChannelValues) (filled : Bool) {r : Resampler}
    (present : s.former.trackers[u].resampler = some r) (placed : r.Placed) (beyond : 8388608 ≤ r.acc + r.inc) :
    let n := ((List.range' r.point (128 - r.point)).foldl (State.pointOf u previous values r) s).cycleEnd u
      ⟨r.acc + r.inc, 128, r.inc, r.samples + 1, r.period, r.filled || filled⟩ (r.acc + r.inc - 8388608)
    (r.acc + r.inc < 8388608 + 65536 → s.resample u previous values filled = n) ∧
    (8388608 + 65536 ≤ r.acc + r.inc →
      let o := n.producePoint u previous values (8388608 + 65536 - r.acc) r.inc 0
      s.resample u previous values filled =
        o.located u (o.former.trackers[u].resampler.map fun x => { x with point := 1 })) := by
  have ends := State.resample_ends u previous values present placed filled beyond
  intro n
  refine ⟨fun short => ends.trans (if_pos (by omega)), fun long => ends.trans ((if_neg (by omega)).trans ?_)⟩
  rw [Nat.add_comm 65536]
  rfl

theorem FormerTap.gap_eq (f : FormerTap) : f.gap = match f.collect with
    | .joining (some n) => n
    | .joining none | .inactive | .collecting => 0 := by
  unfold FormerTap.gap
  cases f.collect with
  | joining gap => cases gap <;> rfl
  | inactive => rfl
  | collecting => rfl

theorem Entry.quotients_eq (x : Entry) (a : TapAccount) (groups : Vector GroupEntry 49) : x.quotients a groups =
    match x with
    | .estimate _ c copy => Machine.quotients a groups x.head c copy (min copy.h x.head.snapshot.hMax)
    | .job _ _ | .dropped _ _ | .close _ => fun _ => 0 := by
  cases x <;> rfl

theorem State.entryHead_eq (s : State) (c : EndedCycle) (tap : TapId) (config : Bool) : s.entryHead c tap config =
    let close := if config then some .config else c.close
    { tap := tap, tracker := c.tracker, block := s.accounts[tap].blockNumber, close := close
      unaccounted := s.former.taps[tap].unaccounted, tariff := c.tariff
      snapshot := ⟨s.tables.taps[tap].entry.cls, s.tables.taps[tap].entry.hMax, s.tables.taps[tap].entry.accounting,
        s.tables.taps[tap].generation⟩
      stamp := (match close, s.former.second with
        | some _, some n => some ⟨n, s.former.trackers[c.tracker].cycleEnds⟩
        | _, _ => none) } := rfl

/-- Settles O41: each of its parts is the model's own function written out by the lemma of its step; a tap's part of the
cycle end follows from one pass over the taps that treats it alone. -/
theorem entryOfACollectedCycle : Obligations.EntryOfACollectedCycle := by
  unfold Obligations.EntryOfACollectedCycle
  refine ⟨State.producePoint_eq, fun s u previous values filled r present placed => ⟨?_, ?_⟩, fun s u r acc => ?_,
    fun s length period filled marks u => ?_, ?_, fun s tap => ⟨?_, fun e staged => ?_⟩,
    ?_, fun s c tap f config stale => ?_, fun s x => ?_, fun s u tap active => ?_, fun s u r acc running tap => ⟨?_, ?_⟩⟩
  · exact State.resample_within u previous values present placed filled
  · exact State.resample_reads previous values filled present placed
  · exact (s.cycleEnd_eq u r acc).trans (State.cycleStart_eq _ u)
  · exact (s.formerPart_eq length period filled marks u).trans (State.buildEntries_eq _ _ _)
  · exact State.applyAllStaged_eq
  · exact State.applyStaged_none
  · obtain ⟨frame, tables, engine, former⟩ := State.applyStaged_applied staged
    refine ⟨frame, tables, engine, former.trans ?_⟩
    rw [FormerTap.applied, FormerTap.gap_eq]
    rfl
  · exact State.closeEntry_eq
  · have built := s.buildEntry_built c tap f config stale
    refine ⟨built.frame, built.formerTap, built.blockNumber, built.other, fun room => ⟨?_, built.job room⟩,
      ⟨_, _, s.beforeEntry_frame c tap f config stale, s.buildEntry_eq c tap f config stale, ?_⟩,
      fun full => ⟨?_, built.lastCycle full, built.dropped full, fun copy held => built.estimated full held⟩⟩
    · rw [built.engine, State.cycleEngine, if_pos room, State.entryHead_eq]
      rfl
    · rw [State.cycleEntry, State.entryHead_eq]
      rfl
    · rw [built.engine, State.cycleEngine, if_neg (Nat.not_lt.mpr full)]
  · intro e a t two
    obtain ⟨first, closes, ports⟩ := s.register_closes x two
    rw [TapAccount.afterRegister, Entry.quotients_eq] at closes ports
    refine ⟨s.register_frame x, ?_, ?_, ?_⟩
    · rw [first]
      rfl
    · exact closes
    · exact ports
  · obtain ⟨before, frame, accounts, former, trackers⟩ := State.stopTap_stops active u
    rw [State.stopsWith, FormerTap.gap_eq] at frame accounts
    exact ⟨_, before, ⟨frame, accounts⟩, former, trackers⟩
  · exact s.cycleEnd_tap r acc running
  · exact s.cycleEnd_kept r acc running

end Sys2Proof.Machine
end


section
/-! SUPPORT. The registration of an entry in two states that agree on what it reads (R131 to R135, R143). -/

namespace Sys2Proof.Machine

set_option Elab.async false

open Sys2Proof

/-! ## What a registration reads of the account -/

/-- A relation of two states that a receipt and a change of accounts keep. -/
structure Kept2 (P : State → State → Prop) : Prop where
  received : ∀ {s t : State} (c : ClosedBlock), P s t → P (s.receive c) (t.receive c)
  accounts : ∀ {s t : State} (tap : TapId) (f g : TapAccount → TapAccount), P s t → P (s.modAccount tap f) (t.modAccount tap g)

/-- Two states in the relation P that agree on the group table and on one tap's account. -/
structure Tied (P : State → State → Prop) (tap : TapId) (s t : State) : Prop where
  rest : P s t
  groups : t.tables.groups = s.tables.groups
  account : t.accounts[tap] = s.accounts[tap]

section
variable {P : State → State → Prop} (closed : Kept2 P) {s t : State} {tap : TapId}
include closed

theorem Tied.modAccount (h : Tied P tap s t) {f g : TapAccount → TapAccount} (same : g s.accounts[tap] = f s.accounts[tap]) :
    Tied P tap (s.modAccount tap f) (t.modAccount tap g) := by
  refine ⟨closed.accounts tap f g h.rest, h.groups, ?_⟩
  rw [State.modAccount_accounts, State.modAccount_accounts, if_pos rfl, if_pos rfl, h.account, same]

theorem Tied.receive (h : Tied P tap s t) (c : ClosedBlock) : Tied P tap (s.receive c) (t.receive c) := by
  refine ⟨closed.received c h.rest, ?_, ?_⟩
  · rw [(s.receive_frame c).get .tables, (t.receive_frame c).get .tables]
    exact h.groups
  · rw [State.receive_accounts, State.receive_accounts]
    exact h.account

theorem Tied.closeOldest (h : Tied P tap s t) (forced : Bool) :
    Tied P tap (s.closeOldest tap forced) (t.closeOldest tap forced) := by
  unfold State.closeOldest
  rw [h.account]
  cases s.accounts[tap].accumulators with
  | nil => exact h
  | cons a rest => exact (h.modAccount closed rfl).receive closed _

theorem Tied.closeTest (h : Tied P tap s t) : Tied P tap (s.closeTest tap) (t.closeTest tap) := by
  unfold State.closeTest
  rw [h.account]
  cases s.accounts[tap].accumulators with
  | nil => exact h
  | cons a rest =>
    dsimp only
    split
    · exact h.closeOldest closed false
    · exact h

theorem Tied.closeComplete (h : Tied P tap s t) : Tied P tap (s.closeComplete tap) (t.closeComplete tap) :=
  (h.closeTest closed).closeTest closed

theorem Tied.openFor {e : EntryHead} (h : Tied P e.tap s t) : Tied P e.tap (s.openFor e) (t.openFor e) := by
  unfold State.openFor
  rw [h.account]
  split
  · exact h
  · dsimp only
    split
    · exact h.modAccount closed rfl
    · exact ((h.closeOldest closed true).closeTest closed).modAccount closed rfl

theorem Tied.register {x : Entry} (h : Tied P x.head.tap s t) : Tied P x.head.tap (s.register x) (t.register x) := by
  have opened := h.openFor closed (e := x.head)
  rw [State.register_eq, State.register_eq]
  refine (opened.modAccount closed ?_).closeComplete closed
  rw [opened.groups]

end

/-- The account after a registration depends on the account and the group table alone. -/
theorem State.register_account_congr {s t : State} {x : Entry} (groups : t.tables.groups = s.tables.groups)
    (account : t.accounts[x.head.tap] = s.accounts[x.head.tap]) :
    (t.register x).accounts[x.head.tap] = (s.register x).accounts[x.head.tap] :=
  (Tied.register (P := fun _ _ => True) ⟨fun _ h => h, fun _ _ _ h => h⟩ ⟨trivial, groups, account⟩).account

/-! ## What a registration reads of the part -/

/-- The blocks that the record unit neither reads nor changes. -/
abbrev booksBlocks : List Block := [.trackers, .former, .engine, .accounts]

theorem SameOutside.symm {l : List Block} {s t : State} (h : SameOutside l s t) : SameOutside l t s := fun b outside => by
  have same := h b outside
  cases b <;> exact Eq.symm same

theorem State.withBooks_alike (s : State) (x : Vector Tracker 2) (f : Former) (e : Engine) (a : Vector TapAccount 8) :
    SameOutside booksBlocks s (s.withBooks x f e a) := (s.setTrackers_frame x).wider.trans <| (State.setFormer_frame _ f).wider.trans <|
    (State.setEngine_frame _ e).wider.trans (State.setAccounts_frame _ a).wider

theorem alike_kept : Kept2 (SameOutside booksBlocks) := by
  refine ⟨fun {s t} c h => ?_, fun {s t} tap f g h => ?_⟩
  · rw [h.eq_withBooks, State.receive_withBooks]
    exact State.withBooks_alike _ _ _ _ _
  · have before : SameOutside booksBlocks (s.modAccount tap f) s := (s.modAccount_frame tap f).symm.wider
    exact (before.trans h).trans (t.modAccount_frame tap g).wider

end Sys2Proof.Machine
end


section
/-! SUPPORT. The stop of the trackers that stop making cycles, seen from one tap and from the record unit (R41, R103,
R104). -/

namespace Sys2Proof.Machine

set_option Elab.async false

open Sys2Proof

variable {s t k n m : State} {u v : TrackerId} {tap other : TapId}

/-! ## The stop of one tap -/

theorem State.stopTap_beside (k : State) (u : TrackerId) (h : other ≠ tap) : Beside k (k.stopTap u other) tap := by
  by_cases inactive : k.former.taps[other].collect = .inactive
  · rw [State.stopTap_inactive inactive]
    exact .refl k tap
  · have former : ∀ x, ((k.beforeStop other).register x).former = (k.beforeStop other).former := fun x =>
      ((k.beforeStop other).register_frame x).get .former
    have entered : Beside k ((k.beforeStop other).register (k.stopsWith u other)) tap := by
      have frame := (k.beforeStop other).register_frame (k.stopsWith u other)
      refine ⟨⟨by rw [frame.get .tables]; rfl, ?_, ?_, by rw [frame.get .engine]; rfl, by rw [frame.get .engine]; rfl⟩,
        frame.get .trackers, by rw [former]; rfl, by rw [frame.get .tables]; rfl, by rw [former]; rfl⟩
      · rw [former, State.beforeStop_taps, if_neg h]
      · exact (State.register_other _ _ h.symm).trans rfl
    rw [State.stopTap_active inactive]
    generalize (k.beforeStop other).register (k.stopsWith u other) = v at entered ⊢
    refine entered.trans ((State.advanceBlock_beside _ h).trans ⟨⟨rfl, ?_, rfl, rfl, rfl⟩, rfl, rfl, rfl, rfl⟩)
    rw [State.modFormerTap_taps, if_neg h]

/-- The close entry of a stopping tap reads the tap, its tracker's tariff and cycle ends, and the second count. -/
theorem Beside.stopsWith (h : Beside s t tap) (u : TrackerId) : t.stopsWith u tap = s.stopsWith u tap := by
  obtain ⟨⟨slot, former, account, -, -⟩, -, blocks, -, second⟩ := h
  unfold State.stopsWith
  rw [slot, former, account, blocks, second]

theorem Beside.tapTracker (h : Beside s t tap) : t.tapTracker tap = s.tapTracker tap := h.kept.tapTracker

/-- A registration, in states that differ in what no registration reads. -/
theorem SameOutside.register (h : SameOutside booksBlocks n k) {x : Entry}
    (account : k.accounts[x.head.tap] = n.accounts[x.head.tap]) :
    SameOutside booksBlocks (n.register x) (k.register x) :=
  (Tied.register alike_kept ⟨h, by rw [h.get .tables], account⟩).rest

/-- Which taps the record unit sees stopping, and with which entry. -/
def State.stopsAt (s : State) (stopping : TapId → Bool) (tap : TapId) : Bool :=
  stopping tap && decide (s.former.taps[tap].collect ≠ .inactive)

/-- The stops of taps in order, as the record unit sees them: the close entries of the active ones, registered (R103). -/
theorem State.stopTaps_register (s : State) (stopping : TapId → Bool) (l : List TapId) (nodup : l.Nodup) : ∀ k n : State,
    SameOutside booksBlocks n k → (∀ tap ∈ l, Beside s k tap ∧ n.accounts[tap] = s.accounts[tap]) →
    SameOutside booksBlocks
      ((l.filter (s.stopsAt stopping)).foldl (fun k tap => k.register (s.stopsWith (s.tapTracker tap) tap)) n)
      (l.foldl (fun k tap => if stopping tap then k.stopTap (s.tapTracker tap) tap else k) k) := by
  induction l with
  | nil => exact fun k n h _ => h
  | cons a l ih =>
    intro k n h rest
    obtain ⟨fresh, nodup⟩ := List.nodup_cons.mp nodup
    obtain ⟨beside, account⟩ := rest a (List.mem_cons_self ..)
    have apart (tap : TapId) (member : tap ∈ l) : a ≠ tap := fun same => fresh (same ▸ member)
    have others (tap : TapId) (member : tap ∈ l) := rest tap (List.mem_cons_of_mem _ member)
    have stays (k' : State) (same : k' = k) (silent : s.stopsAt stopping a = false) :
        SameOutside booksBlocks
          (((a :: l).filter (s.stopsAt stopping)).foldl (fun k tap => k.register (s.stopsWith (s.tapTracker tap) tap)) n)
          (l.foldl (fun k tap => if stopping tap then k.stopTap (s.tapTracker tap) tap else k) k') := by
      rw [List.filter_cons_of_neg (by rw [silent]; exact Bool.false_ne_true), same]
      exact ih nodup k n h others
    rw [List.foldl_cons]
    cases stop : stopping a with
    | false => exact stays _ (if_neg Bool.false_ne_true) (by rw [State.stopsAt, stop, Bool.false_and])
    | true =>
      rw [if_pos rfl]
      by_cases inactive : s.former.taps[a].collect = .inactive
      · refine stays _ (State.stopTap_inactive (by rw [beside.kept.former]; exact inactive) _) ?_
        rw [State.stopsAt, decide_eq_false (not_not.mpr inactive), Bool.and_false]
      · have active : k.former.taps[a].collect ≠ .inactive := by rwa [beside.kept.former]
        rw [List.filter_cons_of_pos (by rw [State.stopsAt, stop, decide_eq_true inactive]; rfl), List.foldl_cons]
        refine ih nodup _ _ ?_ fun tap member => ⟨(others tap member).1.trans (k.stopTap_beside _ (apart tap member)), ?_⟩
        · rw [State.stopTap_active active, beside.stopsWith]
          have before : SameOutside booksBlocks n (k.beforeStop a) :=
            h.trans ((k.setFormer_frame _).wider.trans (State.setFormer_frame _ _).wider)
          have registered := before.register (x := s.stopsWith (s.tapTracker a) a)
            (beside.kept.account.trans account.symm)
          exact (registered.trans (State.modAccount_frame _ a _).wider).trans (State.setFormer_frame _ _).wider
        · exact (State.register_other _ _ (apart tap member).symm).trans (others tap member).2

end Sys2Proof.Machine
end


section
/-! SUPPORT. The trackers that stop making cycles: the close entries of their taps, then the staged entries that waited
(R41, R103, R104). -/

namespace Sys2Proof.Machine

set_option Elab.async false

open Sys2Proof

variable {s t k n m : State} {u v : TrackerId} {tap : TapId}

/-! ## The engine and the tables beside the taps -/

/-- From s to t the engine has changed in the held spectra and the counts of stale jobs alone, and the tables in the tap
table alone. -/
structure SlotsOnly (s t : State) : Prop where
  engine : t.engine = { s.engine with held := t.engine.held, stale := t.engine.stale }
  tables : t.tables = { s.tables with taps := t.tables.taps }
  trackers : t.trackers = s.trackers
  blocks : t.former.trackers = s.former.trackers
  pending : t.former.pendingTariff = s.former.pendingTariff

theorem SlotsOnly.refl (s : State) : SlotsOnly s s := ⟨rfl, rfl, rfl, rfl, rfl⟩

theorem SlotsOnly.trans (h : SlotsOnly s m) (g : SlotsOnly m t) : SlotsOnly s t := by
  refine ⟨g.engine.trans ?_, g.tables.trans ?_, g.trackers.trans h.trackers, g.blocks.trans h.blocks,
    g.pending.trans h.pending⟩
  · rw [h.engine]
  · rw [h.tables]

theorem SlotsOnly.foldl {α : Type} {f : State → α → State} (h : ∀ s x, SlotsOnly s (f s x)) :
    ∀ (l : List α) (s : State), SlotsOnly s (l.foldl f s)
  | [], s => .refl s
  | x :: l, s => (h s x).trans (SlotsOnly.foldl h l (f s x))

theorem SlotsOnly.ite {p : Prop} [Decidable p] (ht : SlotsOnly s t) (hm : SlotsOnly s m) :
    SlotsOnly s (if p then t else m) := by
  split <;> assumption

theorem State.applyStaged_slots (s : State) (tap : TapId) : SlotsOnly s (s.applyStaged tap) := by
  cases staged : s.tables.taps[tap].staged with
  | none =>
    rw [State.applyStaged_none staged]
    exact .refl s
  | some e =>
    obtain ⟨frame, tables, engine, former⟩ := State.applyStaged_applied staged
    refine ⟨?_, by rw [tables], frame.get .trackers, by rw [former], by rw [former]⟩
    rw [engine]
    split <;> rfl

theorem State.stopTap_slots (s : State) (u : TrackerId) (tap : TapId) : SlotsOnly s (s.stopTap u tap) := by
  by_cases inactive : s.former.taps[tap].collect = .inactive
  · rw [State.stopTap_inactive inactive]
    exact .refl s
  · rw [State.stopTap_active inactive]
    have frame := (s.beforeStop tap).register_frame (s.stopsWith u tap)
    have former : ((s.beforeStop tap).register (s.stopsWith u tap)).former = (s.beforeStop tap).former := frame.get .former
    have engine : ((s.beforeStop tap).register (s.stopsWith u tap)).engine = s.engine := frame.get .engine
    have tables : ((s.beforeStop tap).register (s.stopsWith u tap)).tables = s.tables := frame.get .tables
    generalize (s.beforeStop tap).register (s.stopsWith u tap) = x at frame former engine tables ⊢
    refine ⟨?_, ?_, frame.get .trackers, ?_, ?_⟩
    · exact (congrArg (fun e : Engine => e = { s.engine with held := e.held, stale := e.stale }) engine).mpr rfl
    · exact (congrArg (fun e : Tables => e = { s.tables with taps := e.taps }) tables).mpr rfl
    · exact (congrArg Former.trackers former :)
    · exact (congrArg Former.pendingTariff former :)

theorem SlotsOnly.outstandingJobs (h : SlotsOnly s t) (tap : TapId) : t.outstandingJobs tap = s.outstandingJobs tap := by
  unfold State.outstandingJobs
  rw [h.engine]

/-! ## The stop of trackers (R103) -/

/-- What the clearing of block indices keeps. -/
structure IndicesCleared (s t : State) : Prop where
  frame : SameOutside [.former] s t
  former : t.former = { s.former with trackers := t.former.trackers }
  resamplers : ∀ v : TrackerId, t.former.trackers[v].resampler = s.former.trackers[v].resampler

theorem IndicesCleared.kept (h : IndicesCleared s t) (tap : TapId) : TapKept s t tap := by
  obtain ⟨frame, former, -⟩ := h
  exact ⟨by rw [frame.get .tables], by rw [former], by rw [frame.get .accounts], by rw [frame.get .engine],
    by rw [frame.get .engine]⟩

section
variable (s) (stopping : TrackerId → Bool)

/-- The part with the close entries of the stopping taps built. -/
def State.tapsStopped : State :=
  allTaps.foldl (fun k tap => if stopping (s.tapTracker tap) then k.stopTap (s.tapTracker tap) tap else k) s

/-- The part with the block indices of the stopping trackers cleared. -/
def State.indicesCleared (k : State) : State :=
  ([0, 1] : List TrackerId).foldl (fun k u => if stopping u then k.clearBlockIndex u false else k) k

theorem State.stopCycles_eq : s.stopCycles stopping =
    allTaps.foldl (fun k tap => if stopping (s.tapTracker tap) then k.applyStaged tap else k)
      (State.indicesCleared stopping (s.tapsStopped stopping)) := rfl

theorem State.tapsStopped_slots : SlotsOnly s (s.tapsStopped stopping) :=
  SlotsOnly.foldl (fun k _ => .ite (k.stopTap_slots _ _) (.refl k)) _ s

theorem State.indicesCleared_cleared (k : State) : IndicesCleared k (k.indicesCleared stopping) := by
  have one (k : State) (u : TrackerId) : IndicesCleared k (if stopping u then k.clearBlockIndex u false else k) := by
    split
    · exact ⟨k.clearBlockIndex_frame u false, rfl, (k.clearBlockIndex_guided u false).resampler⟩
    · exact ⟨.refl _ k, rfl, fun _ => rfl⟩
  have first := one k 0
  have second := one (if stopping 0 then k.clearBlockIndex 0 false else k) 1
  refine ⟨first.frame.trans second.frame, second.former.trans ?_, fun v => (second.resamplers v).trans (first.resamplers v)⟩
  rw [first.former]
  rfl

/-- The taps' stops, seen from one tap. -/
theorem State.tapsStopped_around (tap : TapId) : ∃ m, Beside s m tap ∧ SlotsOnly s m ∧
    Beside (if stopping (s.tapTracker tap) then m.stopTap (s.tapTracker tap) tap else m) (s.tapsStopped stopping) tap := by
  obtain ⟨front, before, after⟩ := Beside.around_prefix (tap := tap)
    (f := fun k j => if stopping (s.tapTracker j) then k.stopTap (s.tapTracker j) j else k)
    (fun k _ h => .ite (k.stopTap_beside _ h) (.refl k tap)) s
  exact ⟨_, before, SlotsOnly.foldl (fun k _ => .ite (k.stopTap_slots _ _) (.refl k)) front s, after⟩

/-- The applications after the stops, seen from one tap. -/
theorem State.stagedApplied_around (k : State) (tap : TapId) : ∃ m, Beside k m tap ∧ SlotsOnly k m ∧
    Beside (if stopping (s.tapTracker tap) then m.applyStaged tap else m)
      (allTaps.foldl (fun k tap => if stopping (s.tapTracker tap) then k.applyStaged tap else k) k) tap := by
  obtain ⟨front, before, after⟩ := Beside.around_prefix (tap := tap)
    (f := fun k j => if stopping (s.tapTracker j) then k.applyStaged j else k)
    (fun k _ h => .ite (k.applyStaged_beside h) (.refl k tap)) k
  exact ⟨_, before, SlotsOnly.foldl (fun k _ => .ite (k.applyStaged_slots _) (.refl k)) front k, after⟩

/-- A tap of a tracker that does not stop stays. -/
theorem State.stopCycles_kept (goes : stopping (s.tapTracker tap) = false) : TapKept s (s.stopCycles stopping) tap := by
  obtain ⟨m, first, -, stops⟩ := s.tapsStopped_around stopping tap
  have cleared := (s.tapsStopped stopping).indicesCleared_cleared stopping
  obtain ⟨n, second, -, applies⟩ := s.stagedApplied_around stopping ((s.tapsStopped stopping).indicesCleared stopping) tap
  rw [goes, if_neg Bool.false_ne_true] at stops applies
  rw [State.stopCycles_eq]
  exact first.kept.trans (stops.kept.trans ((cleared.kept tap).trans (second.kept.trans applies.kept)))

end

end Sys2Proof.Machine
end


section
/-! SUPPORT. A tap whose tracker stops making cycles (R41, R103, R104). -/

namespace Sys2Proof.Machine

set_option Elab.async false

open Sys2Proof

variable {s t k n m : State} {u v : TrackerId} {tap : TapId} {e : TapEntry}

/-! ## One tap after the stops -/

/-- From s to t a tap of a stopping tracker has been closed and left INACTIVE; its staged entry waits (R103, R104). -/
structure TapClosed (s t : State) (tap : TapId) : Prop where
  slot : t.tables.taps[tap] = s.tables.taps[tap]
  held : t.engine.held[tap] = s.engine.held[tap]
  stale : t.engine.stale[tap] = s.engine.stale[tap]
  inactive : t.former.taps[tap].collect = .inactive
  block : t.accounts[tap].blockNumber =
    s.accounts[tap].blockNumber + (if s.former.taps[tap].collect = .inactive then 0 else 1)
  cleared : s.former.taps[tap].collect ≠ .inactive → t.former.taps[tap] = tapCleared .inactive 0
  account : s.former.taps[tap].collect ≠ .inactive → t.accounts[tap] =
    { (s.register (s.stopsWith (s.tapTracker tap) tap)).accounts[tap] with
      blockNumber := s.accounts[tap].blockNumber + 1 }

theorem TapClosed.kept (h : TapClosed s m tap) (g : TapKept m t tap) : TapClosed s t tap :=
  ⟨g.slot.trans h.slot, g.held.trans h.held, g.stale.trans h.stale, by rw [g.former]; exact h.inactive,
    by rw [g.account]; exact h.block, fun active => g.former.trans (h.cleared active),
    fun active => g.account.trans (h.account active)⟩

theorem State.register_account_congr_of {s t : State} {x : Entry} (own : x.head.tap = tap)
    (groups : t.tables.groups = s.tables.groups) (account : t.accounts[tap] = s.accounts[tap]) :
    (t.register x).accounts[tap] = (s.register x).accounts[tap] := by
  subst own
  exact State.register_account_congr groups account

theorem Beside.closed (h : Beside s m tap) (groups : m.tables.groups = s.tables.groups) :
    TapClosed s (m.stopTap (s.tapTracker tap) tap) tap := by
  obtain ⟨slot, former, account, held, stale⟩ := h.kept
  by_cases inactive : s.former.taps[tap].collect = .inactive
  · rw [State.stopTap_inactive (by rw [former]; exact inactive)]
    exact ⟨slot, held, stale, by rw [former]; exact inactive, by rw [account, if_pos inactive]; exact (BitVec.add_zero _).symm,
      fun active => absurd inactive active, fun active => absurd inactive active⟩
  · have stops := State.stopTap_stops (s := m) (tap := tap) (by rw [former]; exact inactive) (s.tapTracker tap)
    obtain ⟨before, frame, accounts, cleared, -⟩ := stops
    have registers := (m.beforeStop tap).register_frame (m.stopsWith (s.tapTracker tap) tap)
    have number : (m.stopTap (s.tapTracker tap) tap).accounts[tap] =
        { (s.register (s.stopsWith (s.tapTracker tap) tap)).accounts[tap] with
          blockNumber := s.accounts[tap].blockNumber + 1 } := by
      rw [accounts]
      refine (getElem_upd _ _ _ _).trans ((if_pos rfl).trans ?_)
      have same := State.register_account_congr_of (s := s) (t := m.beforeStop tap)
        (x := m.stopsWith (s.tapTracker tap) tap) (tap := tap) rfl ((congrArg Tables.groups (before.get .tables)).trans groups)
        ((congrArg (fun a : Vector TapAccount 8 => a[tap]) (before.get .accounts)).trans account)
      rw [same, h.stopsWith, account]
    refine ⟨?_, ?_, ?_, by rw [cleared]; rfl, ?_, fun _ => cleared, fun _ => number⟩
    · rw [frame.get .tables, registers.get .tables, before.get .tables]
      exact slot
    · rw [frame.get .engine, registers.get .engine, before.get .engine]
      exact held
    · rw [frame.get .engine, registers.get .engine, before.get .engine]
      exact stale
    · rw [number, if_neg inactive]

/-! ## One tap after the applications -/

theorem State.applyStaged_stale (s : State) (tap : TapId) : (s.applyStaged tap).engine.stale[tap] =
    if s.stagedMoves tap = true then s.outstandingJobs tap else s.engine.stale[tap] := by
  cases staged : s.tables.taps[tap].staged with
  | none =>
    rw [State.applyStaged_none staged, State.stagedMoves, staged]
    rfl
  | some e =>
    rw [(State.applyStaged_applied staged).engine]
    split
    · exact (getElem_upd _ _ _ _).trans (if_pos rfl)
    · rfl

/-- What the stop of its tracker leaves of a tap (R41, R103, R104). -/
structure TapHalted (s t : State) (tap : TapId) : Prop where
  block : t.accounts[tap].blockNumber =
    s.accounts[tap].blockNumber + (if s.former.taps[tap].collect = .inactive then 0 else 1)
  slot : t.tables.taps[tap] = s.appliedSlot tap
  collect : t.former.taps[tap].collect = (match s.tables.taps[tap].staged with
    | none => .inactive
    | some e => if e.enabled = true ∧ s.makesCycles e.tracker = true then .joining none else .inactive)
  pending : s.former.taps[tap].collect ≠ .inactive →
    t.former.taps[tap] = tapCleared t.former.taps[tap].collect 0
  account : s.former.taps[tap].collect ≠ .inactive → t.accounts[tap] =
    { (s.register (s.stopsWith (s.tapTracker tap) tap)).accounts[tap] with
      blockNumber := s.accounts[tap].blockNumber + 1 }
  held : t.engine.held[tap] = if s.stagedMoves tap = true then none else s.engine.held[tap]
  stale : t.engine.stale[tap] = if s.stagedMoves tap = true then s.outstandingJobs tap else s.engine.stale[tap]

theorem TapHalted.kept (h : TapHalted s m tap) (g : TapKept m t tap) : TapHalted s t tap :=
  ⟨by rw [g.account]; exact h.block, g.slot.trans h.slot, by rw [g.former]; exact h.collect,
    fun active => by rw [g.former]; exact h.pending active, fun active => g.account.trans (h.account active),
    g.held.trans h.held, g.stale.trans h.stale⟩

/-- The application to a tap that a stop has left INACTIVE (R41). -/
theorem TapClosed.halted (h : TapClosed s n tap) (trackers : n.trackers = s.trackers)
    (jobs : n.outstandingJobs tap = s.outstandingJobs tap) : TapHalted s (n.applyStaged tap) tap := by
  have applied := n.applyStaged_tap tap
  have stale := n.applyStaged_stale tap
  have slot : n.appliedSlot tap = s.appliedSlot tap := by rw [State.appliedSlot, State.appliedSlot, h.slot]
  have moves : n.stagedMoves tap = s.stagedMoves tap := by
    unfold State.stagedMoves State.tapTracker State.tapEntry
    rw [h.slot]
  have former : (n.applyStaged tap).former.taps[tap] = match s.tables.taps[tap].staged with
      | none => n.former.taps[tap]
      | some e => { tapCleared (if e.enabled = true ∧ s.makesCycles e.tracker = true then .joining none else .inactive) 0 with
          unaccounted := n.former.taps[tap].unaccounted } := by
    rw [applied.former, State.appliedTap, h.slot]
    cases s.tables.taps[tap].staged with
    | none => rfl
    | some e =>
      have makes : n.makesCycles e.tracker = s.makesCycles e.tracker :=
        congrArg Option.isSome (State.cycleSource_congr (fun w => by rw [trackers]) e.tracker)
      dsimp only
      rw [State.nextCollect, if_pos h.inactive, makes, FormerTap.applied, if_neg fun both => both.1 h.inactive,
        if_pos h.inactive]
  refine ⟨?_, applied.slot.trans slot, ?_, fun active => ?_, fun active => applied.account.trans (h.account active), ?_, ?_⟩
  · rw [applied.account]
    exact h.block
  · rw [former]
    cases s.tables.taps[tap].staged with
    | none => exact h.inactive
    | some e => rfl
  · rw [former]
    cases s.tables.taps[tap].staged with
    | none => rw [h.cleared active]; rfl
    | some e => rw [h.cleared active]; rfl
  · rw [applied.held, moves, h.held]
  · rw [stale, moves, jobs, h.stale]

/-! ## The stop of trackers -/

section
variable (s) (stopping : TrackerId → Bool)

theorem State.stopCycles_halted (stops : stopping (s.tapTracker tap) = true) :
    TapHalted s (s.stopCycles stopping) tap := by
  obtain ⟨m, first, slots, stopped⟩ := s.tapsStopped_around stopping tap
  have cleared := (s.tapsStopped stopping).indicesCleared_cleared stopping
  obtain ⟨n, second, later, applies⟩ := s.stagedApplied_around stopping ((s.tapsStopped stopping).indicesCleared stopping) tap
  rw [stops, if_pos rfl] at stopped applies
  have halfway := s.tapsStopped_slots stopping
  have closed : TapClosed s n tap := (((first.closed (by rw [slots.tables])).kept stopped.kept).kept (cleared.kept tap)).kept
    second.kept
  rw [State.stopCycles_eq]
  refine (closed.halted ?_ ?_).kept applies.kept
  · exact later.trackers.trans ((cleared.frame.get .trackers).trans halfway.trackers)
  · have jobs : ((s.tapsStopped stopping).indicesCleared stopping).outstandingJobs tap =
        (s.tapsStopped stopping).outstandingJobs tap := by
      unfold State.outstandingJobs
      rw [cleared.frame.get .engine]
    exact (later.outstandingJobs tap).trans (jobs.trans (halfway.outstandingJobs tap))

/-- What the stop of trackers leaves of the part (R103). -/
structure CyclesStopped (s t : State) : Prop where
  engine : t.engine = { s.engine with held := t.engine.held, stale := t.engine.stale }
  tables : t.tables = { s.tables with taps := t.tables.taps }
  trackers : t.trackers = s.trackers
  pending : t.former.pendingTariff = s.former.pendingTariff
  resamplers : ∀ v : TrackerId, t.former.trackers[v].resampler = s.former.trackers[v].resampler

theorem State.stopCycles_stopped : CyclesStopped s (s.stopCycles stopping) := by
  have first := s.tapsStopped_slots stopping
  have cleared := (s.tapsStopped stopping).indicesCleared_cleared stopping
  have last : SlotsOnly ((s.tapsStopped stopping).indicesCleared stopping) (s.stopCycles stopping) :=
    SlotsOnly.foldl (fun k _ => .ite (k.applyStaged_slots _) (.refl k)) _ _
  refine ⟨last.engine.trans ?_, last.tables.trans ?_, ?_, ?_, fun v => ?_⟩
  · rw [cleared.frame.get .engine, first.engine]
  · rw [cleared.frame.get .tables, first.tables]
  · exact last.trackers.trans ((cleared.frame.get .trackers).trans first.trackers)
  · rw [last.pending, cleared.former]
    exact first.pending
  · rw [last.blocks, cleared.resamplers, first.blocks]

/-- The registrations that the record unit sees at the stop of trackers (R103, R107). -/
def State.stopsRegistered (s m : State) (stopping : TapId → Bool) : State :=
  (allTaps.filter (s.stopsAt stopping)).foldl (fun k tap => k.register (s.stopsWith (s.tapTracker tap) tap)) m

theorem State.stopCycles_register (alike : SameOutside booksBlocks m s) (accounts : m.accounts = s.accounts) :
    let n := s.stopsRegistered m fun tap => stopping (s.tapTracker tap)
    (s.stopCycles stopping).records = n.records ∧ (s.stopCycles stopping).latches = n.latches ∧
      (s.stopCycles stopping).ports = n.ports := by
  intro n
  have stops : SameOutside booksBlocks n (s.tapsStopped stopping) :=
    s.stopTaps_register (fun tap => stopping (s.tapTracker tap)) allTaps (by decide) s m alike
      fun tap _ => ⟨.refl s tap, by rw [accounts]⟩
  have cleared := ((s.tapsStopped stopping).indicesCleared_cleared stopping).frame
  have applied : SameOutside [.tables, .former, .engine] ((s.tapsStopped stopping).indicesCleared stopping)
      (s.stopCycles stopping) :=
    SameOutside.foldl (fun k tap => .ite (k.applyStaged_frame tap).wider (.refl _ k)) _ _
  exact ⟨(applied.get .records).trans ((cleared.get .records).trans (stops.get .records)),
    (applied.get .latches).trans ((cleared.get .latches).trans (stops.get .latches)),
    (applied.get .ports).trans ((cleared.get .ports).trans (stops.get .ports))⟩

end

end Sys2Proof.Machine
end


section
/-! SUPPORT. The state before trackers stop making cycles, by the taps whose cycle has been abandoned (R76, R77, R103). -/

namespace Sys2Proof.Machine

set_option Elab.async false

open Sys2Proof

variable {s t b m : State} {u v : TrackerId} {tap : TapId} {stops : TapId → Bool} {l : List NoticeBody}

/-! ## An abandoned cycle (R63) -/

theorem FormerTap.abandon_collect (f : FormerTap) (n : Nat) : (f.abandon n).collect = f.collect := by
  unfold FormerTap.abandon
  cases collect : f.collect with
  | collecting => rfl
  | inactive => exact collect
  | joining gap => exact collect

theorem FormerTap.abandon_other {f : FormerTap} (h : f.collect ≠ .collecting) (n : Nat) : f.abandon n = f := by
  unfold FormerTap.abandon
  cases collect : f.collect with
  | collecting => exact absurd collect h
  | inactive => rfl
  | joining gap => rfl

theorem FormerTap.abandon_collecting {f : FormerTap} (h : f.collect = .collecting) (n : Nat) :
    f.abandon n = tapCleared .collecting (f.unaccounted + n) := by
  unfold FormerTap.abandon
  rw [h]
  rfl

/-- The tap with the cycle that it collects abandoned, on the resampler of that cycle (R63, R103). -/
def State.leftTap (s : State) (tap : TapId) (n : Resampler → Nat) : FormerTap :=
  match (s.cycleSource (s.tapTracker tap)).bind fun u => s.former.trackers[u].resampler with
  | none => s.former.taps[tap]
  | some r => s.former.taps[tap].abandon (n r)

theorem State.leftTap_collect (s : State) (tap : TapId) (n : Resampler → Nat) :
    (s.leftTap tap n).collect = s.former.taps[tap].collect := by
  unfold State.leftTap
  split
  · rfl
  · exact FormerTap.abandon_collect _ _

/-- The samples that the tap leaves unaccounted, on the pending ones (R103). -/
theorem State.leftTap_samples (s : State) (tap : TapId) :
    min (2 ^ 32 - 1) ((s.leftTap tap Resampler.breakSamples).unaccounted + (s.leftTap tap Resampler.breakSamples).gap) =
      min (2 ^ 32 - 1) (s.former.taps[tap].unaccounted + s.samplesLeft tap) := by
  have gap : (s.leftTap tap Resampler.breakSamples).gap = s.former.taps[tap].gap := by
    rw [FormerTap.gap_eq, State.leftTap_collect, ← FormerTap.gap_eq]
  rw [gap]
  unfold State.samplesLeft State.leftTap
  cases collect : s.former.taps[tap].collect with
  | inactive =>
    have same (n : Nat) := FormerTap.abandon_other (f := s.former.taps[tap]) (by rw [collect]; exact Collect.noConfusion) n
    rw [FormerTap.gap, collect]
    split
    · rfl
    · rw [same]
  | joining gap =>
    have same (n : Nat) := FormerTap.abandon_other (f := s.former.taps[tap]) (by rw [collect]; exact Collect.noConfusion) n
    rw [FormerTap.gap_joining collect]
    split
    · rfl
    · rw [same]
  | collecting =>
    rw [FormerTap.gap_collecting collect]
    dsimp only
    cases s.cycleSource (s.tapTracker tap) with
    | none => rfl
    | some u =>
      dsimp only [Option.bind_some]
      cases s.former.trackers[u].resampler with
      | none => rfl
      | some r =>
        dsimp only
        rw [FormerTap.abandon_collecting collect]
        exact Nat.min_eq_right (Nat.min_le_left _ _)

/-! ## Before the stop of trackers -/

/-- From s to b the trackers that stop have left their cycles: the taps that `stops` names have abandoned the cycle they
collected, and the others stay. -/
structure BeforeStops (s b : State) (stops : TapId → Bool) : Prop where
  frame : SameOutside [.trackers, .former, .ports, .latches] s b
  second : b.former.second = s.former.second
  tariffs : ∀ v : TrackerId, b.former.trackers[v].tariff = s.former.trackers[v].tariff
  ends : ∀ v : TrackerId, b.former.trackers[v].cycleEnds = s.former.trackers[v].cycleEnds
  taps : ∀ tap : TapId, b.former.taps[tap] =
    if stops tap then s.leftTap tap Resampler.breakSamples else s.former.taps[tap]

theorem BeforeStops.tapTracker (h : BeforeStops s b stops) (tap : TapId) : b.tapTracker tap = s.tapTracker tap :=
  State.tapTracker_congr (h.frame.get .tables) tap

theorem BeforeStops.collect (h : BeforeStops s b stops) (tap : TapId) :
    b.former.taps[tap].collect = s.former.taps[tap].collect := by
  rw [h.taps]
  split
  · exact s.leftTap_collect tap _
  · rfl

theorem BeforeStops.entry (h : BeforeStops s b stops) (stop : stops tap = true) :
    b.stopsWith (b.tapTracker tap) tap = s.stopEntry tap := by
  rw [h.tapTracker]
  unfold State.stopsWith State.stopEntry
  rw [h.taps, if_pos stop, s.leftTap_samples, h.second, h.tariffs, h.ends, h.frame.get .accounts, h.frame.get .tables]

theorem BeforeStops.kept (h : BeforeStops s b stops) (stop : stops tap = false) : TapKept s b tap := by
  refine ⟨by rw [h.frame.get .tables], ?_, by rw [h.frame.get .accounts], by rw [h.frame.get .engine],
    by rw [h.frame.get .engine]⟩
  rw [h.taps, stop, if_neg Bool.false_ne_true]

/-- The state that the record unit sees before the stops agrees with b on all that it reads. -/
theorem BeforeStops.alike (h : BeforeStops s b stops) :
    SameOutside booksBlocks { s with ports := b.ports, latches := b.latches } b := by
  have placed : SameOutside [.ports, .latches] s { s with ports := b.ports, latches := b.latches } :=
    (s.setPorts_frame b.ports).andThen (State.setLatches_frame _ b.latches)
  have wide : SameOutside [.trackers, .former, .ports, .latches] { s with ports := b.ports, latches := b.latches } b :=
    placed.symm.wider.trans h.frame
  intro block outside
  by_cases ports : block = .ports
  · subst ports
    rfl
  by_cases latches : block = .latches
  · subst latches
    rfl
  refine wide block fun member => ?_
  simp_all

/-! ## After it -/

/-- What the writing of tracker settings does to the record unit, the ports and the engine before its answer: the notices
`l`, then the closes of the taps that stop (R103, R172). -/
structure BooksClosed (s t : State) (l : List NoticeBody) (stops : TapId → Bool) : Prop where
  books : ∃ m, SameOutside [.ports, .latches] s m ∧ Noticed s m l ∧
    (let n := ((List.finRange 8).filter fun tap => stops tap && decide (s.former.taps[tap].collect ≠ .inactive)).foldl
        (fun k tap => k.register (s.stopEntry tap)) m
     t.records = n.records ∧ t.latches = n.latches ∧ t.ports = n.ports)
  engine : t.engine = { s.engine with held := t.engine.held, stale := t.engine.stale }
  moved : ∀ tap : TapId, stops tap = true → s.stagedMoves tap = true →
    t.engine.held[tap] = none ∧ t.engine.stale[tap] = s.outstandingJobs tap
  unmoved : ∀ tap : TapId, (stops tap = false ∨ s.stagedMoves tap = false) →
    t.engine.held[tap] = s.engine.held[tap] ∧ t.engine.stale[tap] = s.engine.stale[tap]

/-- A transition without stops. -/
theorem BooksClosed.silent (frame : SameOutside [.trackers, .former, .ports, .latches] s t) (noticed : Noticed s t l) :
    BooksClosed s t l fun _ => false := by
  have engine : t.engine = s.engine := frame.get .engine
  refine ⟨⟨{ s with ports := t.ports, latches := t.latches }, ?_, noticed, ?_⟩, by rw [engine],
    fun tap stop => absurd stop Bool.false_ne_true, fun tap _ => by rw [engine]; exact ⟨rfl, rfl⟩⟩
  · exact (s.setPorts_frame t.ports).andThen (State.setLatches_frame _ t.latches)
  · have none : ((List.finRange 8).filter fun tap => false && decide (s.former.taps[tap].collect ≠ .inactive)) = [] :=
      List.filter_false _
    rw [none]
    exact ⟨frame.get .records, rfl, rfl⟩

theorem foldl_congr {α β : Type} {f g : β → α → β} {l : List α} (h : ∀ x ∈ l, ∀ k, f k x = g k x) (k : β) :
    l.foldl f k = l.foldl g k := by
  induction l generalizing k with
  | nil => rfl
  | cons x l ih =>
    rw [List.foldl_cons, List.foldl_cons, h x (List.mem_cons_self ..), ih fun y member => h y (List.mem_cons_of_mem _ member)]

theorem BeforeStops.stagedMoves (h : BeforeStops s b stops) (tap : TapId) : b.stagedMoves tap = s.stagedMoves tap := by
  unfold State.stagedMoves State.tapTracker State.tapEntry
  rw [h.frame.get .tables]

section
variable {stopping : TrackerId → Bool} (h : BeforeStops s b stops)
  (which : ∀ tap, stopping (b.tapTracker tap) = stops tap)
include h which

theorem BeforeStops.books (noticed : Noticed s b l) : BooksClosed s (b.stopCycles stopping) l stops := by
  obtain ⟨engine, -, -, -, -⟩ := b.stopCycles_stopped stopping
  have same : b.engine = s.engine := h.frame.get .engine
  refine ⟨⟨{ s with ports := b.ports, latches := b.latches }, ?_, noticed, ?_⟩, by rw [← same]; exact engine,
    fun tap stop moves => ?_, fun tap stays => ?_⟩
  · exact (s.setPorts_frame b.ports).andThen (State.setLatches_frame _ b.latches)
  · have registers := b.stopCycles_register stopping h.alike (h.frame.get .accounts).symm
    have which : (b.stopsAt fun tap => stopping (b.tapTracker tap)) =
        fun tap => stops tap && decide (s.former.taps[tap].collect ≠ .inactive) := by
      funext tap
      rw [State.stopsAt, which, h.collect]
    have entries (m : State) : b.stopsRegistered m (fun tap => stopping (b.tapTracker tap)) =
        ((List.finRange 8).filter fun tap => stops tap && decide (s.former.taps[tap].collect ≠ .inactive)).foldl
          (fun k tap => k.register (s.stopEntry tap)) m := by
      rw [State.stopsRegistered, which]
      refine foldl_congr (fun tap member k => ?_) m
      rw [h.entry (Bool.and_eq_true _ _ ▸ (List.mem_filter.mp member).2).1]
    rw [← entries]
    exact registers
  · have halted := b.stopCycles_halted stopping (tap := tap) (by rw [which]; exact stop)
    rw [halted.held, halted.stale, h.stagedMoves, if_pos moves, if_pos moves]
    refine ⟨rfl, ?_⟩
    unfold State.outstandingJobs
    rw [same]
  · cases stop : stops tap with
    | false =>
      have kept := b.stopCycles_kept stopping (tap := tap) (by rw [which]; exact stop)
      rw [kept.held, kept.stale, same]
      exact ⟨rfl, rfl⟩
    | true =>
      have halted := b.stopCycles_halted stopping (tap := tap) (by rw [which]; exact stop)
      rw [stop] at stays
      have none := stays.resolve_left Bool.noConfusion
      rw [halted.held, halted.stale, h.stagedMoves, none, same]
      exact ⟨rfl, rfl⟩

/-- A tap that stops (R41, R103, R104). -/
theorem BeforeStops.stopped (stop : stops tap = true) : TapStopped s (b.stopCycles stopping) tap := by
  have halted := b.stopCycles_halted stopping (tap := tap) (by rw [which]; exact stop)
  have tables : b.tables = s.tables := h.frame.get .tables
  have accounts : b.accounts = s.accounts := h.frame.get .accounts
  have trackers := (b.stopCycles_stopped stopping).trackers
  have makes (w : TrackerId) : (b.stopCycles stopping).makesCycles w = b.makesCycles w :=
    congrArg Option.isSome (State.cycleSource_congr (fun x => by rw [trackers]) w)
  obtain ⟨block, slot, collect, pending, account, -, -⟩ := halted
  rw [h.collect, accounts] at block
  rw [State.appliedSlot, tables] at slot
  rw [tables] at collect
  rw [h.collect] at pending account
  refine ⟨block, slot, ?_, pending, fun active => (account active).trans ?_⟩
  · rw [collect]
    cases s.tables.taps[tap].staged with
    | none => rfl
    | some e =>
      dsimp only
      rw [makes]
  · have same : (b.register (s.stopEntry tap)).accounts[tap] = (s.register (s.stopEntry tap)).accounts[tap] :=
      State.register_account_congr_of rfl (by rw [tables]) (by rw [accounts])
    rw [h.entry stop, accounts, same]

theorem BeforeStops.stays (stop : stops tap = false) : TapKept s (b.stopCycles stopping) tap :=
  (h.kept stop).trans (b.stopCycles_kept stopping (by rw [which]; exact stop))

end

end Sys2Proof.Machine
end


section
/-! SUPPORT. A tracker that is disabled, and a running tracker 1 that enters FOLLOWING (R76, R77, R103). -/

namespace Sys2Proof.Machine

set_option Elab.async false

open Sys2Proof

variable {s t b m : State} {u v : TrackerId} {tap : TapId}

/-! ## The cycle that a tracker leaves (R76, R78) -/

/-- The tap is one of those whose cycle is abandoned where tracker u leaves the cycles it has (R76, R78). -/
def State.leaving (s : State) (u : TrackerId) (tap : TapId) : Bool :=
  (s.cycleSource u).any fun w =>
    decide (s.cycleSource (s.tapTracker tap) = some w) && (decide (w = u) || decide (s.tapTracker tap = u))

theorem State.abandonOf_taps (s : State) (u : TrackerId) (n : Resampler → Nat) (tap : TapId) :
    (s.abandonOf u n).former.taps[tap] = if s.leaving u tap then s.leftTap tap n else s.former.taps[tap] := by
  unfold State.abandonOf State.leaving State.leftTap
  cases s.cycleSource u with
  | none => rfl
  | some w =>
    dsimp only
    rw [State.abandonCycle_taps, Option.any_some]
    by_cases source : s.cycleSource (s.tapTracker tap) = some w
    · have collects (n : Nat) : (if (s.collectsFrom w tap && (decide (w = u) || decide (s.tapTracker tap = u))) = true then
          s.former.taps[tap].abandon n else s.former.taps[tap]) =
          if (decide (w = u) || decide (s.tapTracker tap = u)) = true then s.former.taps[tap].abandon n
          else s.former.taps[tap] := by
        rw [State.collectsFrom, decide_eq_true source, Bool.and_true]
        by_cases collecting : s.former.taps[tap].collect = .collecting
        · rw [decide_eq_true collecting, Bool.true_and]
        · rw [FormerTap.abandon_other collecting, ite_self, ite_self]
      rw [source, decide_eq_true rfl, Bool.true_and, Option.bind_some]
      cases s.former.trackers[w].resampler with
      | none => exact (ite_self _).symm
      | some r => exact collects (n r)
    · have silent : s.collectsFrom w tap = false := by rw [State.collectsFrom, decide_eq_false source, Bool.and_false]
      rw [silent, decide_eq_false source, Bool.false_and]
      cases s.former.trackers[w].resampler <;> rfl

/-- Does tracker w stop making cycles where tracker u is disabled (R103)? -/
def State.idling (s : State) (u w : TrackerId) : Bool :=
  s.makesCycles w && (decide (w = u) || decide (s.cycleSource w = some u))

/-- Who has tracker u's cycles beside it follows tracker 0. -/
theorem State.cycleSource_other (h : s.cycleSource v = some u) (differs : v ≠ u) :
    s.trackers[v].state = .following ∧ u = 0 ∧ s.cycleSource u = some u := by
  rw [State.cycleSource_eq] at h
  split at h
  · exact nomatch h
  · split at h
    · next follows =>
      split at h
      · exact nomatch h
      · next awake =>
        obtain rfl := Option.some.inj h
        refine ⟨follows, rfl, ?_⟩
        rw [State.cycleSource_eq, if_neg awake, if_neg awake, ite_self]
    · exact absurd (Option.some.inj h) differs

theorem State.leaving_eq_idling (s : State) (u : TrackerId) (tap : TapId) :
    s.leaving u tap = s.idling u (s.tapTracker tap) := by
  rw [Bool.eq_iff_iff]
  unfold State.leaving State.idling State.makesCycles
  generalize s.tapTracker tap = v
  by_cases same : v = u
  · subst same
    cases s.cycleSource v with
    | none => simp
    | some w => simp
  · constructor
    · intro h
      obtain ⟨w, source, both⟩ := (Option.any_eq_true ..).mp h
      simp only [same, decide_false, Bool.or_false, Bool.and_eq_true, decide_eq_true_eq] at both
      obtain ⟨shared, rfl⟩ := both
      simp [shared]
    · intro h
      simp only [same, decide_false, Bool.false_or, Bool.and_eq_true, decide_eq_true_eq] at h
      obtain ⟨-, -, own⟩ := State.cycleSource_other h.2 same
      simp [own, h.2]

/-! ## A tracker that is disabled (R76) -/

/-- The notice of a pending handover that is cancelled (R76, R87). -/
def State.cancelNotices (s : State) (u : TrackerId) : List NoticeBody :=
  match s.trackers[u].handover with
  | none => []
  | some h => [.handover u .cancelled s.tables.settings[u].reference h.channel h.timeout h.locked s.trackers[u].state h.ls]

theorem State.cancelHandover_becomes (s : State) (u : TrackerId) :
    TrackerBecomes s (s.cancelHandover u) u { s.trackers[u] with handover := none } (s.cancelNotices u) := by
  unfold State.cancelHandover State.cancelNotices
  cases pending : s.trackers[u].handover with
  | none =>
    have same : ({ s.trackers[u] with handover := none } : Tracker) = s.trackers[u] := by rw [← pending]
    exact ⟨.refl _ s, same.symm, rfl, .nil rfl rfl⟩
  | some h => exact s.dropHandover_becomes u .cancelled h

/-- The part before the stops of a tracker that is disabled. -/
def State.beforeIdle (s : State) (u : TrackerId) : State :=
  (((s.cancelHandover u).abandonOf u Resampler.breakSamples).modTracker u fun _ => .fresh .idle s.lnom).discardResampler u

theorem State.abandonOf_former (s : State) (u : TrackerId) (n : Resampler → Nat) :
    (s.abandonOf u n).former = { s.former with taps := (s.abandonOf u n).former.taps } := by
  unfold State.abandonOf
  split
  · rfl
  · exact s.abandonCycle_former _ _ _

theorem TrackerId.eq_other : ∀ {u w : TrackerId}, w ≠ u → w = 1 - u := by decide

/-- What the part looks like before the stops of a tracker that leaves its cycles for IDLE or FOLLOWING. -/
structure LeavesCycles (s b : State) (u : TrackerId) (x : Tracker) (l : List NoticeBody) (stops : TapId → Bool) :
    Prop where
  before : BeforeStops s b stops
  noticed : Noticed s b l
  own : b.trackers[u] = x
  other : b.trackers[1 - u] = s.trackers[1 - u]
  pending : b.former.pendingTariff = s.former.pendingTariff
  resampler : b.former.trackers[u].resampler = none

theorem State.discardResampler_former (s : State) (u v : TrackerId) : (s.discardResampler u).former.taps = s.former.taps ∧
    (s.discardResampler u).former.second = s.former.second ∧
    (s.discardResampler u).former.pendingTariff = s.former.pendingTariff ∧
    (s.discardResampler u).former.trackers[v].cycleEnds = s.former.trackers[v].cycleEnds ∧
    (s.discardResampler u).former.trackers[v].tariff = s.former.trackers[v].tariff := by
  refine ⟨rfl, rfl, rfl, ?_, ?_⟩ <;> rw [State.discardResampler, State.modFormerTracker_trackers] <;> split <;> rfl

/-- Tracker u leaves the cycles that it has, in the part a, where the taps have abandoned them. -/
theorem LeavesCycles.of_abandoned {a : State} {stops : TapId → Bool} {l : List NoticeBody}
    (frame : SameOutside [.trackers, .former, .ports, .latches] s a)
    (former : a.former = { s.former with taps := a.former.taps })
    (taps : ∀ tap : TapId, a.former.taps[tap] =
      if stops tap then s.leftTap tap Resampler.breakSamples else s.former.taps[tap])
    (noticed : Noticed s a l) (other : a.trackers[1 - u] = s.trackers[1 - u]) (x : Tracker) :
    LeavesCycles s ((a.modTracker u fun _ => x).discardResampler u) u x l stops := by
  have discarded (v : TrackerId) := (a.modTracker u fun _ => x).discardResampler_former u v
  have same : (a.modTracker u fun _ => x).former = a.former := rfl
  refine ⟨⟨?_, ?_, fun v => ?_, fun v => ?_, fun tap => ?_⟩, ?_, ?_, ?_, ?_, ?_⟩
  · exact frame.trans ((a.modTracker_frame u _).wider.trans (State.discardResampler_frame _ u).wider)
  · rw [(discarded u).2.1, same, former]
  · rw [(discarded v).2.2.2.2, same, former]
  · rw [(discarded v).2.2.2.1, same, former]
  · rw [(discarded u).1]
    exact taps tap
  · exact noticed
  · exact (a.modTracker_trackers u u _).trans (if_pos rfl)
  · exact ((a.modTracker_trackers u (1 - u) _).trans (if_neg (TrackerId.ne_other u))).trans other
  · rw [(discarded u).2.2.1, same, former]
  · rw [State.discardResampler_resampler, if_pos rfl]

theorem State.cancelHandover_state (s : State) (u w : TrackerId) :
    (s.cancelHandover u).trackers[w].state = s.trackers[w].state := by
  obtain ⟨-, own, other, -⟩ := s.cancelHandover_becomes u
  by_cases same : w = u
  · subst same
    rw [own]
  · rw [TrackerId.eq_other same, other]

theorem State.idling_congr (state : ∀ w : TrackerId, t.trackers[w].state = s.trackers[w].state) (u w : TrackerId) :
    t.idling u w = s.idling u w := by
  unfold State.idling State.makesCycles
  rw [State.cycleSource_congr state]

theorem State.beforeIdle_leaves (s : State) (u : TrackerId) : LeavesCycles s (s.beforeIdle u) u (.fresh .idle s.lnom)
    (s.cancelNotices u) fun tap => s.idling u (s.tapTracker tap) := by
  obtain ⟨frame, -, other, noticed⟩ := s.cancelHandover_becomes u
  have abandons := (s.cancelHandover u).abandonOf_frame u Resampler.breakSamples
  have former : (s.cancelHandover u).former = s.former := frame.get .former
  have tables : (s.cancelHandover u).tables = s.tables := frame.get .tables
  have idles (tap : TapId) : (s.cancelHandover u).leaving u tap = s.idling u (s.tapTracker tap) := by
    rw [State.leaving_eq_idling, State.tapTracker_congr tables, State.idling_congr (s.cancelHandover_state u)]
  have left (tap : TapId) : (s.cancelHandover u).leftTap tap Resampler.breakSamples =
      s.leftTap tap Resampler.breakSamples := by
    unfold State.leftTap
    rw [State.tapTracker_congr tables, State.cycleSource_congr (s.cancelHandover_state u), former]
  refine LeavesCycles.of_abandoned (frame.wider.trans abandons.wider) ?_ (fun tap => ?_) ?_ ?_ _
  · rw [State.abandonOf_former, former]
  · rw [State.abandonOf_taps, idles, left, former]
  · rw [Noticed, NoticesFrom, abandons.get .ports, abandons.get .latches]
    exact noticed
  · rw [abandons.get .trackers]
    exact other

theorem State.disable_eq (s : State) (u : TrackerId) :
    s.disable u = ((s.beforeIdle u).stopCycles (s.idling u)).clearBlockIndex u true := by
  have abandons := (s.cancelHandover u).abandonOf_frame u Resampler.breakSamples
  have stops : ((s.cancelHandover u).abandonOf u Resampler.breakSamples).idling u = s.idling u :=
    funext fun w => State.idling_congr (fun w => by rw [abandons.get .trackers]; exact s.cancelHandover_state u w) u w
  rw [← stops]
  rfl

/-! ## A running tracker that enters FOLLOWING (R77) -/

/-- The part before the taps of tracker u join tracker 0's cycles or stop. -/
def State.beforeFollowing (s : State) (u : TrackerId) : State :=
  (((s.abandonCycle u Resampler.breakSamples fun tap => s.collectsFrom u tap).modTracker u
    fun _ => .fresh .following s.lnom).discardResampler u).trackerNotice u s.trackers[u].state .follow

theorem State.abandonOwn_taps (s : State) (u : TrackerId) (n : Resampler → Nat)
    (alone : ∀ v, s.cycleSource v = some u ↔ v = u) (tap : TapId) :
    (s.abandonCycle u n fun tap => s.collectsFrom u tap).former.taps[tap] =
      if decide (s.tapTracker tap = u) then s.leftTap tap n else s.former.taps[tap] := by
  rw [State.abandonCycle_taps]
  unfold State.leftTap State.collectsFrom
  by_cases own : s.tapTracker tap = u
  · rw [decide_eq_true own, if_pos rfl, (alone _).mpr own, Option.bind_some, decide_eq_true rfl, Bool.and_true]
    cases s.former.trackers[u].resampler with
    | none => rfl
    | some r =>
      by_cases collecting : s.former.taps[tap].collect = .collecting
      · rw [decide_eq_true collecting]
        rfl
      · dsimp only
        rw [FormerTap.abandon_other collecting]
        exact ite_self _
  · rw [decide_eq_false own, decide_eq_false (mt (alone _).mp own), Bool.and_false]
    cases s.former.trackers[u].resampler <;> rfl

theorem State.cycleSource_own (running : s.trackers[u].state.isRunning = true) (one : u = 1) (v : TrackerId) :
    s.cycleSource v = some u ↔ v = u := by
  refine ⟨fun source => by_contra fun differs => ?_, fun own => ?_⟩
  · obtain ⟨-, zero, -⟩ := State.cycleSource_other source differs
    exact absurd (one.symm.trans zero) (by decide)
  · subst own
    exact State.cycleSource_of_running running

theorem LeavesCycles.handOver {x : Tracker} {l : List NoticeBody} {stops : TapId → Bool}
    (h : LeavesCycles s b u x l stops) (n : NoticeBody) : LeavesCycles s (b.handOver n) u x (l ++ [n]) stops := by
  obtain ⟨⟨frame, second, tariffs, ends, taps⟩, noticed, own, other, pending, resampler⟩ := h
  have hands := b.handOver_frame n
  have former : (b.handOver n).former = b.former := hands.get .former
  have trackers : (b.handOver n).trackers = b.trackers := hands.get .trackers
  refine ⟨⟨frame.trans hands.wider, ?_, ?_, ?_, ?_⟩, noticed.handOver (by rw [frame.get .tables]) (frame.get .straps)
    (frame.get .resetLine) n, by rw [trackers]; exact own, by rw [trackers]; exact other, ?_, ?_⟩ <;> rw [former]
  · exact second
  · exact tariffs
  · exact ends
  · exact taps
  · exact pending
  · exact resampler

theorem State.beforeFollowing_leaves (s : State) (u : TrackerId) (running : s.trackers[u].state.isRunning = true)
    (one : u = 1) : LeavesCycles s (s.beforeFollowing u) u (.fresh .following s.lnom)
      [.tracker u s.trackers[u].state .following .follow s.tables.settings[u].reference s.lnom s.intake.count]
      fun tap => decide (s.tapTracker tap = u) := by
  have abandons := s.abandonCycle_frame u Resampler.breakSamples fun tap => s.collectsFrom u tap
  have leaves := LeavesCycles.of_abandoned (s := s) (u := u) (l := []) abandons.wider (s.abandonCycle_former _ _ _)
    (s.abandonOwn_taps u _ (State.cycleSource_own running one)) (.nil (abandons.get .ports) (abandons.get .latches))
    (by rw [abandons.get .trackers]) (.fresh .following s.lnom)
  unfold State.beforeFollowing
  generalize ((s.abandonCycle u Resampler.breakSamples fun tap => s.collectsFrom u tap).modTracker u
    fun _ => .fresh .following s.lnom).discardResampler u = a at leaves ⊢
  have lfix : a.lfix u = s.lnom := by
    rw [State.lfix, leaves.own]
    rfl
  have notice := leaves.handOver (.tracker u s.trackers[u].state a.trackers[u].state .follow
    a.tables.settings[u].reference (a.lfix u) a.intake.count)
  rw [leaves.own, leaves.before.frame.get .tables, lfix, leaves.before.frame.get .intake] at notice
  unfold State.trackerNotice
  rw [leaves.own, leaves.before.frame.get .tables, lfix, leaves.before.frame.get .intake]
  exact notice

theorem State.follow_eq (s : State) (u : TrackerId) : s.follow u =
    if (s.beforeFollowing u).makesCycles u then
      (s.beforeFollowing u).mapFormerTaps fun tap f =>
        if (s.beforeFollowing u).tapTracker tap = u ∧ f.collect = .collecting then f.clear (.joining (some 0)) else f
    else (s.beforeFollowing u).stopCycles fun w => decide (w = u) := rfl

end Sys2Proof.Machine
end


section
/-! SUPPORT. A tracker that starts making cycles of its own, and one that joins tracker 0's from IDLE (R47, R71, R77, R78,
R103). -/

namespace Sys2Proof.Machine

set_option Elab.async false

open Sys2Proof

variable {s t : State} {u v : TrackerId} {tap : TapId} {l : List NoticeBody}

/-! ## Cycles that start (R103) -/

theorem State.clearBlockIndex_block (s : State) (u v : TrackerId) (b : Bool) :
    (s.clearBlockIndex u b).former.trackers[v] = if u = v then
      { s.former.trackers[v] with
        index := 0, inForce := if b then s.tables.settings[u].written else s.former.trackers[v].inForce
        align := .none, reindexed := false, realigned := false }
    else s.former.trackers[v] := s.modFormerTracker_trackers u v _

theorem State.startCycles_taps (s : State) (u : TrackerId) (tap : TapId) : (s.startCycles u).former.taps[tap] =
    if s.tapTracker tap = u ∧ (s.tapEntry tap).enabled = true ∧ s.former.taps[tap].collect = .inactive then
      s.former.taps[tap].clear .collecting
    else s.former.taps[tap] :=
  (s.clearBlockIndex u true).mapFormerTaps_taps _ tap

theorem State.startCycles_block (s : State) (u v : TrackerId) : (s.startCycles u).former.trackers[v] =
    (s.clearBlockIndex u true).former.trackers[v] := rfl

/-- The tap, cleared for a cycle that it collects from its first point (R100). -/
theorem FormerTap.cleared_start (f : FormerTap) : (f.clear .collecting).cycleStart = tapCleared .collecting f.unaccounted := by
  rw [FormerTap.cycleStart_active (by exact Collect.noConfusion)]
  rfl

/-- A tracker beside u that has not u's cycles. -/
def State.apart (s : State) (u v : TrackerId) : Prop := v ≠ u ∧ (u = 1 ∨ s.trackers[(1 : TrackerId)].state ≠ .following)

theorem State.apart.source (h : s.apart u v) : s.cycleSource v ≠ some u := fun source => by
  obtain ⟨follows, zero, -⟩ := State.cycleSource_other source h.1
  subst zero
  obtain rfl : v = 1 := Fin.eq_one_of_ne_zero v h.1
  exact h.2.elim (by decide) fun awake => awake follows

theorem State.apart.idling (h : s.apart u v) : s.idling u v = false := by
  rw [State.idling, decide_eq_false h.1, decide_eq_false h.source, Bool.or_false, Bool.and_false]

theorem TrackerId.zero_of_ne_one : ∀ {u : TrackerId}, u ≠ 1 → u = 0 := by decide

theorem State.apart.congr (h : s.apart u v) (other : t.trackers[1 - u] = s.trackers[1 - u]) : t.apart u v := by
  refine ⟨h.1, ?_⟩
  by_cases one : u = 1
  · exact .inl one
  · obtain rfl := TrackerId.zero_of_ne_one one
    have same : t.trackers[(1 : TrackerId)] = s.trackers[(1 : TrackerId)] := other
    exact .inr (by rw [same]; exact h.2.resolve_left one)

/-- Facts of a tracker that has begun to make cycles of its own. -/
structure CyclesBegun (s t : State) (u : TrackerId) : Prop where
  own : t.trackers[u] = .fresh .acquiring s.lnom
  other : t.trackers[1 - u] = s.trackers[1 - u]
  resampler : t.former.trackers[u].resampler = some (.start s.lnom)
  pending : t.former.pendingTariff = s.former.pendingTariff

/-- Tracker u begins to make cycles of its own, in a part a where it is ACQUIRING at Lnom. -/
theorem CyclesBegun.of_started {a : State} (own : a.trackers[u] = .fresh .acquiring s.lnom)
    (other : a.trackers[1 - u] = s.trackers[1 - u]) (pending : a.former.pendingTariff = s.former.pendingTariff) :
    CyclesBegun s (a.startResampler u) u := by
  have trackers : (a.startResampler u).trackers = a.trackers := (a.startResampler_frame u).get .trackers
  refine ⟨by rw [trackers]; exact own, by rw [trackers]; exact other, ?_, pending⟩
  rw [State.startResampler_resampler, if_pos rfl, own]
  rfl

/-- A tracker that follows has tracker 0's cycles where that one has any (R77). -/
theorem State.cycleSource_following (follows : s.trackers[v].state = .following) : s.cycleSource v =
    if s.trackers[(0 : TrackerId)].state = .idle then none else some 0 := by
  rw [State.cycleSource_eq, follows]
  rfl

theorem State.makesCycles_following (follows : s.trackers[v].state = .following) : s.makesCycles v = true ↔
    s.trackers[(0 : TrackerId)].state ≠ .idle := by
  rw [State.makesCycles, State.cycleSource_following follows]
  split
  · next idle => exact iff_of_false Bool.false_ne_true (not_not.mpr idle)
  · next awake => exact iff_of_true rfl awake

/-! ## From IDLE into ACQUIRING (R71) -/

/-- The part before the resampler start of a tracker that leaves IDLE. -/
def State.beforeAcquiring (s : State) (u : TrackerId) : State :=
  let m := (s.modTracker u fun _ => .fresh .acquiring s.lnom).startCycles u
  if u = 0 ∧ m.follows then m.startCycles 1 else m

theorem State.enableAcquiring_eq (s : State) (u : TrackerId) : s.enableAcquiring u = (s.beforeAcquiring u).startResampler u :=
  rfl

theorem State.beforeAcquiring_frame (s : State) (u : TrackerId) :
    SameOutside [.former] (s.modTracker u fun _ => .fresh .acquiring s.lnom) (s.beforeAcquiring u) := by
  have first := (s.modTracker u fun _ => .fresh .acquiring s.lnom).startCycles_frame u
  exact .ite (first.trans (State.startCycles_frame _ 1)) first

theorem State.beforeAcquiring_block (s : State) (u : TrackerId) : (s.beforeAcquiring u).former.trackers[u] =
    (s.clearBlockIndex u true).former.trackers[u] := by
  unfold State.beforeAcquiring
  dsimp only
  split
  · next zero =>
    obtain rfl := zero.1
    exact (State.clearBlockIndex_block _ 1 0 true).trans (if_neg (by decide))
  · rfl

theorem State.enableAcquiring_begun (s : State) (u : TrackerId) : CyclesBegun s (s.enableAcquiring u) u := by
  have trackers : (s.beforeAcquiring u).trackers = (s.modTracker u fun _ => .fresh .acquiring s.lnom).trackers :=
    (s.beforeAcquiring_frame u).get .trackers
  refine CyclesBegun.of_started (a := s.beforeAcquiring u) ?_ ?_ ?_
  · rw [trackers, State.modTracker_trackers, if_pos rfl]
  · rw [trackers, State.modTracker_trackers, if_neg (TrackerId.ne_other u)]
  · unfold State.beforeAcquiring
    dsimp only
    split <;> rfl

theorem State.enableAcquiring_block (s : State) (u : TrackerId) :
    (s.enableAcquiring u).former.trackers[u].inForce = s.tables.settings[u].written ∧
      (s.enableAcquiring u).former.trackers[u].index = 0 := by
  rw [State.enableAcquiring_eq, State.startResampler_trackers, if_pos rfl, s.beforeAcquiring_block,
    State.clearBlockIndex_block, if_pos rfl]
  exact ⟨rfl, rfl⟩

theorem State.beforeAcquiring_taps (s : State) (u : TrackerId) (tap : TapId) : (s.beforeAcquiring u).former.taps[tap] =
    if (s.tapTracker tap = u ∨ (u = 0 ∧ s.tapTracker tap = 1 ∧ s.trackers[(1 : TrackerId)].state = .following)) ∧
      (s.tapEntry tap).enabled = true ∧ s.former.taps[tap].collect = .inactive then
      s.former.taps[tap].clear .collecting
    else s.former.taps[tap] := by
  have first : ((s.modTracker u fun _ => .fresh .acquiring s.lnom).startCycles u).former.taps[tap] =
      if s.tapTracker tap = u ∧ (s.tapEntry tap).enabled = true ∧ s.former.taps[tap].collect = .inactive then
        s.former.taps[tap].clear .collecting
      else s.former.taps[tap] := (s.modTracker u fun _ => .fresh .acquiring s.lnom).startCycles_taps u tap
  have second (a : State) (tables : a.tables = s.tables) : (a.startCycles 1).former.taps[tap] =
      if s.tapTracker tap = 1 ∧ (s.tapEntry tap).enabled = true ∧ a.former.taps[tap].collect = .inactive then
        a.former.taps[tap].clear .collecting
      else a.former.taps[tap] := by
    rw [State.startCycles_taps, State.tapTracker_congr tables, State.tapEntry, tables]
    rfl
  have follows : u = 0 → (((s.modTracker u fun _ => .fresh .acquiring s.lnom).startCycles u).follows = true ↔
      s.trackers[(1 : TrackerId)].state = .following) := fun zero => by
    have state : (s.modTracker u fun _ => .fresh .acquiring s.lnom).trackers[(1 : TrackerId)] = s.trackers[(1 : TrackerId)] := by
      rw [State.modTracker_trackers, if_neg (by rw [zero]; decide)]
    rw [← state]
    exact decide_eq_true_iff
  unfold State.beforeAcquiring
  dsimp only
  by_cases joins : u = 0 ∧ ((s.modTracker u fun _ => .fresh .acquiring s.lnom).startCycles u).follows = true
  · obtain ⟨rfl, joined⟩ := joins
    rw [if_pos ⟨rfl, joined⟩]
    rw [second ((s.modTracker 0 fun _ => .fresh .acquiring s.lnom).startCycles 0) rfl, first]
    by_cases zero : s.tapTracker tap = 0
    · simp only [zero, false_and, if_false, true_or, true_and, show ¬(0 : TrackerId) = 1 by decide]
    · obtain one : s.tapTracker tap = 1 := Fin.eq_one_of_ne_zero _ zero
      simp only [one, (follows rfl).mp joined, true_and, false_and, if_false, or_true, show ¬(1 : TrackerId) = 0 by decide]
  · rw [if_neg joins]
    refine first.trans ?_
    have none : ¬(u = 0 ∧ s.tapTracker tap = 1 ∧ s.trackers[(1 : TrackerId)].state = .following) := fun both =>
      joins ⟨both.1, (follows both.1).mpr both.2.2⟩
    exact if_congr (and_congr_left' (or_iff_left none).symm) rfl rfl

theorem State.enableAcquiring_taps (s : State) (u : TrackerId) (tap : TapId) (on : s.tapTracker tap = v) :
    ((v = u ∨ (u = 0 ∧ s.trackers[v].state = .following)) → s.trackers[u].state = .idle → (s.tapEntry tap).enabled = true → s.former.taps[tap].collect = .inactive →
      (s.enableAcquiring u).former.taps[tap] = tapCleared .collecting s.former.taps[tap].unaccounted) ∧
    (s.apart u v → (s.enableAcquiring u).former.taps[tap] = s.former.taps[tap]) := by
  have taps := s.beforeAcquiring_taps u tap
  have frame := s.beforeAcquiring_frame u
  have trackers (w : TrackerId) : (s.beforeAcquiring u).trackers[w] =
      if u = w then .fresh .acquiring s.lnom else s.trackers[w] := by
    rw [frame.get .trackers, State.modTracker_trackers]
  have tracker : (s.beforeAcquiring u).tapTracker tap = s.tapTracker tap := State.tapTracker_congr (frame.get .tables) tap
  rw [State.enableAcquiring_eq, State.startResampler_taps, tracker]
  generalize s.beforeAcquiring u = a at taps trackers ⊢
  rw [on] at taps ⊢
  refine ⟨fun hits idle enabled inactive => ?_, fun apart => ?_⟩
  · have which : v = u ∨ (u = 0 ∧ v = 1 ∧ s.trackers[(1 : TrackerId)].state = .following) := by
      refine hits.imp_right fun ⟨zero, follows⟩ => ?_
      subst zero
      have apart : v ≠ 0 := fun same => by
        subst same
        rw [idle] at follows
        exact nomatch follows
      obtain rfl := Fin.eq_one_of_ne_zero v apart
      exact ⟨rfl, rfl, follows⟩
    have source : a.cycleSource v = some u := by
      obtain rfl | ⟨rfl, rfl, follows⟩ := which
      · refine State.cycleSource_of_running ?_
        rw [trackers, if_pos rfl]
        rfl
      · have acquiring : a.trackers[(0 : TrackerId)] = .fresh .acquiring s.lnom := (trackers 0).trans (if_pos rfl)
        have still : a.trackers[(1 : TrackerId)] = s.trackers[(1 : TrackerId)] := (trackers 1).trans (if_neg (by decide))
        rw [State.cycleSource_following (by rw [still]; exact follows), acquiring]
        rfl
    rw [if_pos source, taps, if_pos ⟨which, enabled, inactive⟩, FormerTap.cleared_start]
  · have beside : a.apart u v := apart.congr ((trackers (1 - u)).trans (if_neg (TrackerId.ne_other u)))
    rw [if_neg beside.source, taps, if_neg]
    rintro ⟨own | ⟨zero, -, follows⟩, -⟩
    · exact apart.1 own
    · exact apart.2.elim (fun one => absurd (zero.symm.trans one) (by decide)) fun awake => awake follows

/-! ## From IDLE into FOLLOWING (R77) -/

theorem State.enableFollowing_taps (s : State) (u : TrackerId) (tap : TapId) (one : u = 1) :
    (s.enableFollowing u).former.taps[tap] =
      if s.tapTracker tap = u ∧ (s.tapEntry tap).enabled = true ∧ s.trackers[(0 : TrackerId)].state ≠ .idle ∧
        s.former.taps[tap].collect = .inactive then
        { tapCleared (.joining (some 0)) 0 with unaccounted := s.former.taps[tap].unaccounted }
      else s.former.taps[tap] := by
  subst one
  have makes : (s.modTracker 1 fun _ => .fresh .following s.lnom).makesCycles 1 = true ↔
      s.trackers[(0 : TrackerId)].state ≠ .idle := by
    have own : (s.modTracker 1 fun _ => .fresh .following s.lnom).trackers[(1 : TrackerId)] = .fresh .following s.lnom :=
      (s.modTracker_trackers 1 1 _).trans (if_pos rfl)
    have other : (s.modTracker 1 fun _ => .fresh .following s.lnom).trackers[(0 : TrackerId)] = s.trackers[(0 : TrackerId)] :=
      (s.modTracker_trackers 1 0 _).trans (if_neg (by decide))
    rw [State.makesCycles_following (by rw [own]; rfl), other]
  refine (((s.modTracker 1 fun _ => .fresh .following s.lnom).clearBlockIndex 1 true).mapFormerTaps_taps _ tap).trans ?_
  exact if_congr (and_congr_right fun _ => and_congr_right fun _ => and_congr_left fun _ => makes) rfl rfl

theorem State.enableFollowing_trackers (s : State) (u v : TrackerId) : (s.enableFollowing u).trackers[v] =
    if u = v then .fresh .following s.lnom else s.trackers[v] := s.modTracker_trackers u v _

/-! ## From FOLLOWING into ACQUIRING (R78) -/

/-- The part with the tracker out of tracker 0's cycle, its notice handed over. -/
def State.unfollowed (s : State) (u : TrackerId) : State :=
  ((s.abandonOf u Resampler.samples).modTracker u fun _ => .fresh .acquiring s.lnom).trackerNotice u s.trackers[u].state .unfollow

theorem State.unfollow_eq (s : State) (u : TrackerId) : s.unfollow u =
    (if s.makesCycles u then s.unfollowed u else (s.unfollowed u).startCycles u).startResampler u := rfl

/-- What the part looks like before the start of a tracker that has left FOLLOWING. -/
structure Unfollowed (s b : State) (u : TrackerId) : Prop where
  frame : SameOutside [.trackers, .former, .ports, .latches] s b
  own : b.trackers[u] = .fresh .acquiring s.lnom
  other : b.trackers[1 - u] = s.trackers[1 - u]
  noticed : Noticed s b
    [.tracker u s.trackers[u].state .acquiring .unfollow s.tables.settings[u].reference s.lnom s.intake.count]
  pending : b.former.pendingTariff = s.former.pendingTariff
  taps : ∀ tap : TapId, b.former.taps[tap] =
    if s.leaving u tap then s.leftTap tap Resampler.samples else s.former.taps[tap]

theorem State.unfollowed_unfollowed (s : State) (u : TrackerId) : Unfollowed s (s.unfollowed u) u := by
  have abandons := s.abandonOf_frame u Resampler.samples
  have former := s.abandonOf_former u Resampler.samples
  have taps := s.abandonOf_taps u Resampler.samples
  obtain ⟨frame, own, other, noticed⟩ := (s.abandonOf u Resampler.samples).modTracker_notice_becomes (u := u)
    (f := fun _ => .fresh .acquiring s.lnom) (nofun : TrackerState.acquiring ≠ .idle) s.trackers[u].state .unfollow
  rw [State.changeNotice, abandons.get .tables, abandons.get .intake] at noticed
  unfold State.unfollowed
  generalize s.abandonOf u Resampler.samples = a at abandons former taps frame own other noticed ⊢
  refine ⟨abandons.wider.trans frame.wider, own, other.trans (by rw [abandons.get .trackers]), ?_, ?_, fun tap => ?_⟩
  · have handed := noticed.congr (s := s) (by rw [abandons.get .tables]) (abandons.get .straps) (abandons.get .resetLine)
    rw [abandons.get .ports, abandons.get .latches] at handed
    exact handed
  · rw [frame.get .former, former]
  · rw [frame.get .former]
    exact taps tap

/-- The part before the resampler start of a tracker that leaves FOLLOWING. -/
def State.beforeOwn (s : State) (u : TrackerId) : State :=
  if s.makesCycles u then s.unfollowed u else (s.unfollowed u).startCycles u

theorem State.beforeOwn_frame (s : State) (u : TrackerId) : SameOutside [.former] (s.unfollowed u) (s.beforeOwn u) :=
  .ite (.refl _ _) (State.startCycles_frame _ u)

theorem State.unfollow_silent (s : State) (u : TrackerId) :
    SameOutside [.trackers, .former, .ports, .latches] s (s.unfollow u) ∧ Noticed s (s.unfollow u)
      [.tracker u s.trackers[u].state .acquiring .unfollow s.tables.settings[u].reference s.lnom s.intake.count] := by
  have left := s.unfollowed_unfollowed u
  have started := (s.beforeOwn_frame u).trans (State.startResampler_frame _ u)
  refine ⟨left.frame.trans started.wider, ?_⟩
  rw [State.unfollow_eq, Noticed, NoticesFrom, ← State.beforeOwn, started.get .ports, started.get .latches]
  exact left.noticed

theorem State.unfollow_begun (s : State) (u : TrackerId) : CyclesBegun s (s.unfollow u) u := by
  have left := s.unfollowed_unfollowed u
  have trackers : (s.beforeOwn u).trackers = (s.unfollowed u).trackers := (s.beforeOwn_frame u).get .trackers
  refine CyclesBegun.of_started (a := s.beforeOwn u) ?_ ?_ ?_
  · rw [trackers]
    exact left.own
  · rw [trackers]
    exact left.other
  · refine Eq.trans ?_ left.pending
    unfold State.beforeOwn
    split <;> rfl

theorem State.unfollow_kept (s : State) (u : TrackerId) (tap : TapId) (apart : s.apart u (s.tapTracker tap)) :
    (s.unfollow u).former.taps[tap] = s.former.taps[tap] := by
  have left := s.unfollowed_unfollowed u
  have frame := s.beforeOwn_frame u
  have tracker : (s.unfollowed u).tapTracker tap = s.tapTracker tap :=
    State.tapTracker_congr (left.frame.get .tables) tap
  have still : (s.beforeOwn u).former.taps[tap] = (s.unfollowed u).former.taps[tap] := by
    unfold State.beforeOwn
    split
    · rfl
    · rw [State.startCycles_taps, tracker, if_neg fun own => apart.1 own.1]
  have beside : (s.beforeOwn u).apart u (s.tapTracker tap) :=
    apart.congr (by rw [frame.get .trackers]; exact left.other)
  rw [State.unfollow_eq, ← State.beforeOwn, State.startResampler_taps, State.tapTracker_congr (frame.get .tables), tracker,
    if_neg beside.source, still, left.taps, s.leaving_eq_idling, apart.idling]
  rfl

/-- The tap with tracker 0's cycle abandoned, where tracker u has it (R78). -/
def State.unfollowedTap (s : State) (u : TrackerId) (tap : TapId) : FormerTap :=
  if s.leaving u tap then s.leftTap tap Resampler.samples else s.former.taps[tap]

/-- A tap of a tracker that leaves FOLLOWING (R78, R102, R103). -/
theorem State.unfollow_taps (s : State) (u : TrackerId) (tap : TapId) (own : s.tapTracker tap = u) :
    (s.unfollow u).former.taps[tap] =
      (if s.makesCycles u = false ∧ (s.tapEntry tap).enabled = true ∧ (s.unfollowedTap u tap).collect = .inactive then
        (s.unfollowedTap u tap).clear .collecting
      else s.unfollowedTap u tap).cycleStart := by
  have left := s.unfollowed_unfollowed u
  have frame := s.beforeOwn_frame u
  have tables : (s.unfollowed u).tables = s.tables := left.frame.get .tables
  have tracker : (s.unfollowed u).tapTracker tap = u := (State.tapTracker_congr tables tap).trans own
  have before : (s.beforeOwn u).former.taps[tap] =
      if s.makesCycles u = false ∧ (s.tapEntry tap).enabled = true ∧ (s.unfollowedTap u tap).collect = .inactive then
        (s.unfollowedTap u tap).clear .collecting
      else s.unfollowedTap u tap := by
    unfold State.beforeOwn State.unfollowedTap
    cases s.makesCycles u with
    | true => exact (left.taps tap).trans (if_neg fun both => Bool.noConfusion both.1).symm
    | false =>
      refine (State.startCycles_taps _ u tap).trans ?_
      rw [tracker, left.taps, State.tapEntry, tables]
      exact if_congr (and_congr_left' (iff_of_true rfl rfl)) rfl rfl
  have running : (s.beforeOwn u).trackers[u].state.isRunning = true := by
    rw [frame.get .trackers, left.own]
    rfl
  rw [State.unfollow_eq, ← State.beforeOwn, State.startResampler_taps, State.tapTracker_congr (frame.get .tables), tracker,
    if_pos (State.cycleSource_of_running running), before]

end Sys2Proof.Machine
end


section
/-! SUPPORT. The transitions of WRITE TRACKER in which taps stop (R76, R77, R99, R103). -/

namespace Sys2Proof.Machine

set_option Elab.async false

open Sys2Proof

variable {s t b m k : State} {u v : TrackerId} {tap : TapId} {l : List NoticeBody} {stops : TapId → Bool}
  {stopping : TrackerId → Bool} {x : Tracker}

/-! ## Changes of the cycle former after the stops -/

theorem BooksClosed.beside (h : BooksClosed s m l stops) (frame : SameOutside [.former] m t) : BooksClosed s t l stops := by
  obtain ⟨⟨n, placed, noticed, records, latches, ports⟩, engine, moved, unmoved⟩ := h
  have same : t.engine = m.engine := frame.get .engine
  refine ⟨⟨n, placed, noticed, (frame.get .records).trans records, (frame.get .latches).trans latches,
    (frame.get .ports).trans ports⟩, ?_, ?_, ?_⟩ <;> rw [same]
  · exact engine
  · exact moved
  · exact unmoved

theorem TapStopped.kept (h : TapStopped s m tap) (g : TapKept m t tap) (trackers : t.trackers = m.trackers) :
    TapStopped s t tap := by
  obtain ⟨block, slot, collect, pending, account⟩ := h
  refine ⟨by rw [g.account]; exact block, g.slot.trans slot, ?_, fun active => by rw [g.former]; exact pending active,
    fun active => g.account.trans (account active)⟩
  have makes (w : TrackerId) : t.makesCycles w = m.makesCycles w :=
    congrArg Option.isSome (State.cycleSource_congr (fun y => by rw [trackers]) w)
  rw [g.former, collect]
  simp only [makes]

theorem State.clearBlockIndex_kept (s : State) (u : TrackerId) (tap : TapId) : TapKept s (s.clearBlockIndex u true) tap :=
  ⟨rfl, rfl, rfl, rfl, rfl⟩

theorem State.removeTariff_kept (s : State) (tap : TapId) : TapKept s s.removeTariff tap := by
  unfold State.removeTariff
  split
  · exact .refl s tap
  · split
    · exact ⟨rfl, rfl, rfl, rfl, rfl⟩
    · exact .refl s tap

/-! ## The removal of the pending record (R99) -/

theorem State.tariffApplied_iff (s : State) (p : PendingTariff) : s.tariffApplied p = true ↔
    ∀ v : TrackerId, s.tables.settings[v].enabled = true → s.trackers[v].state ≠ .following → p.applied[v] = true := by
  have each (v : TrackerId) : (!s.tables.settings[v].enabled || decide (s.trackers[v].state = .following) ||
      p.applied[v]) = true ↔
      (s.tables.settings[v].enabled = true → s.trackers[v].state ≠ .following → p.applied[v] = true) := by
    rw [Bool.or_eq_true, Bool.or_eq_true, Bool.not_eq_true', decide_eq_true_iff, or_assoc, ← Bool.not_eq_true,
      ← imp_iff_not_or, or_iff_not_imp_left]
  unfold State.tariffApplied
  rw [List.all_cons, List.all_cons, List.all_nil, Bool.and_true, Bool.and_eq_true, each, each]
  refine ⟨fun ⟨zero, one⟩ v => ?_, fun all => ⟨all 0, all 1⟩⟩
  by_cases own : v = 1
  · subst own
    exact one
  · obtain rfl := TrackerId.zero_of_ne_one own
    exact zero

theorem State.removeTariff_pending (s : State) : s.removeTariff.former.pendingTariff =
    s.former.pendingTariff.bind fun p => if ∀ v : TrackerId, s.tables.settings[v].enabled = true →
      s.trackers[v].state ≠ .following → p.applied[v] = true then none else some p := by
  unfold State.removeTariff
  cases pending : s.former.pendingTariff with
  | none => exact pending
  | some p =>
    dsimp only [Option.bind_some]
    by_cases applied : s.tariffApplied p = true
    · rw [if_pos applied, if_pos ((s.tariffApplied_iff p).mp applied)]
      rfl
    · rw [if_neg applied, if_neg (mt (s.tariffApplied_iff p).mpr applied), pending]

/-! ## A tracker that is disabled -/

section
variable (s) (u)

theorem State.disable_books : BooksClosed s (s.disable u) (s.cancelNotices u) fun tap => s.idling u (s.tapTracker tap) := by
  have leaves := s.beforeIdle_leaves u
  rw [s.disable_eq]
  exact (leaves.before.books (fun tap => by rw [leaves.before.tapTracker]) leaves.noticed).beside
    (State.clearBlockIndex_frame _ u true)

theorem State.disable_stopped (stop : s.idling u (s.tapTracker tap) = true) : TapStopped s (s.disable u) tap := by
  have leaves := s.beforeIdle_leaves u
  rw [s.disable_eq]
  exact (leaves.before.stopped (stopping := s.idling u) (fun tap => by rw [leaves.before.tapTracker]) stop).kept
    (State.clearBlockIndex_kept _ u tap) rfl

theorem State.disable_kept (stop : s.idling u (s.tapTracker tap) = false) : TapKept s (s.disable u) tap := by
  have leaves := s.beforeIdle_leaves u
  rw [s.disable_eq]
  exact (leaves.before.stays (stopping := s.idling u) (fun tap => by rw [leaves.before.tapTracker]) stop).trans
    (State.clearBlockIndex_kept _ u tap)

/-- What is left of a tracker that has been disabled. -/
structure Disabled (s t : State) (u : TrackerId) : Prop where
  own : t.trackers[u] = .fresh .idle s.lnom
  other : t.trackers[1 - u] = s.trackers[1 - u]
  index : t.former.trackers[u].index = 0
  inForce : t.former.trackers[u].inForce = s.tables.settings[u].written
  resampler : t.former.trackers[u].resampler = none
  settings : t.tables.settings = s.tables.settings
  pending : t.former.pendingTariff = s.former.pendingTariff

theorem State.disable_disabled : Disabled s (s.disable u) u := by
  have leaves := s.beforeIdle_leaves u
  have stopped := (s.beforeIdle u).stopCycles_stopped (s.idling u)
  have settings : ((s.beforeIdle u).stopCycles (s.idling u)).tables.settings = s.tables.settings := by
    rw [stopped.tables, leaves.before.frame.get .tables]
  rw [s.disable_eq]
  generalize (s.beforeIdle u).stopCycles (s.idling u) = a at stopped settings ⊢
  have block := a.clearBlockIndex_block u u true
  rw [if_pos rfl] at block
  refine ⟨?_, ?_, by rw [block], by rw [block, ← settings]; rfl, ?_, settings, ?_⟩
  · exact (congrArg (fun y : Vector Tracker 2 => y[u]) stopped.trackers :).trans leaves.own
  · exact (congrArg (fun y : Vector Tracker 2 => y[1 - u]) stopped.trackers :).trans leaves.other
  · rw [block]
    exact (stopped.resamplers u).trans leaves.resampler
  · exact stopped.pending.trans leaves.pending

end

/-! ## A running tracker 1 that enters FOLLOWING -/

section
variable (s) (u) (running : s.trackers[u].state.isRunning = true) (one : u = 1)
include running one

/-- Facts of a running tracker that has entered FOLLOWING. -/
structure Followed (s t : State) (u : TrackerId) : Prop where
  own : t.trackers[u] = .fresh .following s.lnom
  other : t.trackers[1 - u] = s.trackers[1 - u]
  resampler : t.former.trackers[u].resampler = none
  settings : t.tables.settings = s.tables.settings
  pending : t.former.pendingTariff = s.former.pendingTariff

theorem State.beforeFollowing_makes :
    (s.beforeFollowing u).makesCycles u = true ↔ s.trackers[(0 : TrackerId)].state ≠ .idle := by
  have leaves := s.beforeFollowing_leaves u running one
  subst one
  have other : (s.beforeFollowing 1).trackers[(0 : TrackerId)] = s.trackers[(0 : TrackerId)] := leaves.other
  rw [State.makesCycles_following (by rw [leaves.own]; rfl), other]

theorem State.follow_followed : Followed s (s.follow u) u := by
  have leaves := s.beforeFollowing_leaves u running one
  have settings : (s.beforeFollowing u).tables.settings = s.tables.settings := by rw [leaves.before.frame.get .tables]
  have stopped := (s.beforeFollowing u).stopCycles_stopped fun w => decide (w = u)
  rw [s.follow_eq]
  split
  · exact ⟨leaves.own, leaves.other, leaves.resampler, settings, leaves.pending⟩
  · refine ⟨?_, ?_, (stopped.resamplers u).trans leaves.resampler, ?_, stopped.pending.trans leaves.pending⟩
    · rw [stopped.trackers]
      exact leaves.own
    · rw [stopped.trackers]
      exact leaves.other
    · rw [stopped.tables]
      exact settings

/-- The notice of the change into FOLLOWING (R77, R81). -/
def State.followNotice (s : State) (u : TrackerId) : NoticeBody :=
  .tracker u s.trackers[u].state .following .follow s.tables.settings[u].reference s.lnom s.intake.count

theorem State.follow_stops (idle : s.trackers[(0 : TrackerId)].state = .idle) :
    s.follow u = (s.beforeFollowing u).stopCycles fun w => decide (w = u) := by
  rw [s.follow_eq, if_neg (mt (s.beforeFollowing_makes u running one).mp (not_not.mpr idle))]

theorem State.follow_joins (awake : s.trackers[(0 : TrackerId)].state ≠ .idle) : s.follow u =
    (s.beforeFollowing u).mapFormerTaps fun tap f =>
      if (s.beforeFollowing u).tapTracker tap = u ∧ f.collect = .collecting then f.clear (.joining (some 0)) else f := by
  rw [s.follow_eq, if_pos ((s.beforeFollowing_makes u running one).mpr awake)]

theorem State.follow_books_idle (idle : s.trackers[(0 : TrackerId)].state = .idle) :
    BooksClosed s (s.follow u) [s.followNotice u] fun tap => decide (s.tapTracker tap = u) := by
  have leaves := s.beforeFollowing_leaves u running one
  rw [s.follow_stops u running one idle]
  exact leaves.before.books (fun tap => by rw [leaves.before.tapTracker]) leaves.noticed

theorem State.follow_books_awake (awake : s.trackers[(0 : TrackerId)].state ≠ .idle) :
    BooksClosed s (s.follow u) [s.followNotice u] fun _ => false := by
  have leaves := s.beforeFollowing_leaves u running one
  rw [s.follow_joins u running one awake]
  have mapped := (s.beforeFollowing u).mapFormerTaps_frame fun tap f =>
    if (s.beforeFollowing u).tapTracker tap = u ∧ f.collect = .collecting then f.clear (.joining (some 0)) else f
  exact .silent (leaves.before.frame.trans mapped.wider) leaves.noticed

theorem State.follow_stopped (idle : s.trackers[(0 : TrackerId)].state = .idle) (own : s.tapTracker tap = u) :
    TapStopped s (s.follow u) tap := by
  have leaves := s.beforeFollowing_leaves u running one
  rw [s.follow_stops u running one idle]
  exact leaves.before.stopped (fun tap => by rw [leaves.before.tapTracker]) (decide_eq_true own)

theorem State.follow_kept (other : s.tapTracker tap ≠ u) : TapKept s (s.follow u) tap := by
  have leaves := s.beforeFollowing_leaves u running one
  by_cases idle : s.trackers[(0 : TrackerId)].state = .idle
  · rw [s.follow_stops u running one idle]
    exact leaves.before.stays (fun tap => by rw [leaves.before.tapTracker]) (decide_eq_false other)
  · rw [s.follow_joins u running one idle]
    refine (leaves.before.kept (decide_eq_false other)).trans ⟨rfl, ?_, rfl, rfl, rfl⟩
    rw [State.mapFormerTaps_taps, leaves.before.tapTracker, if_neg fun both => other both.1]

theorem State.follow_joined (awake : s.trackers[(0 : TrackerId)].state ≠ .idle) (own : s.tapTracker tap = u) :
    (s.follow u).tables = s.tables ∧ (s.follow u).accounts = s.accounts ∧ (s.follow u).former.taps[tap] =
      if s.former.taps[tap].collect = .collecting then
        (s.leftTap tap Resampler.breakSamples).clear (.joining (some 0))
      else s.leftTap tap Resampler.breakSamples := by
  have leaves := s.beforeFollowing_leaves u running one
  rw [s.follow_joins u running one awake]
  refine ⟨leaves.before.frame.get .tables, leaves.before.frame.get .accounts, ?_⟩
  rw [State.mapFormerTaps_taps, leaves.before.tapTracker, leaves.before.taps, decide_eq_true own, if_pos rfl,
    State.leftTap_collect]
  exact if_congr (and_iff_right own) rfl rfl

end

end Sys2Proof.Machine
end


section
/-! SUPPORT. The transition of WRITE TRACKER by the tracker's state and the new settings (R47, R71, R76 to R78, R99). -/

namespace Sys2Proof.Machine

set_option Elab.async false

open Sys2Proof

variable {s t m : State} {u v : TrackerId} {tap : TapId} {l : List NoticeBody} {stops : TapId → Bool} {x : TrackerSettings}

/-! ## The cases of the transition -/

theorem TrackerState.cases_running (state : TrackerState) : state = .idle ∨ state = .following ∨ state.isRunning = true := by
  cases state <;> decide

theorem State.trackerTransition_idle (idle : s.trackers[u].state = .idle) : s.trackerTransition u x =
    if x.enabled = true then
      if x.mode = .follower then (s.enableFollowing u).removeTariff else s.enableAcquiring u
    else s.clearBlockIndex u true := by
  rw [State.trackerTransition, idle]

theorem State.trackerTransition_following (follows : s.trackers[u].state = .following) : s.trackerTransition u x =
    if x.enabled = true then if x.mode = .independent then s.unfollow u else s else (s.disable u).removeTariff := by
  rw [State.trackerTransition, follows]

theorem State.trackerTransition_running (running : s.trackers[u].state.isRunning = true) : s.trackerTransition u x =
    if x.enabled = true then if x.mode = .follower then (s.follow u).removeTariff else s
    else (s.disable u).removeTariff := by
  unfold State.trackerTransition
  generalize s.trackers[u].state = state at running ⊢
  cases state with
  | idle => exact absurd running Bool.false_ne_true
  | following => exact absurd running Bool.false_ne_true
  | acquiring => rfl
  | locked => rfl
  | holdover => rfl
  | freerun => rfl

theorem State.trackerTransition_off (off : x.enabled = false) (active : s.trackers[u].state ≠ .idle) :
    s.trackerTransition u x = (s.disable u).removeTariff := by
  obtain idle | follows | running := TrackerState.cases_running s.trackers[u].state
  · exact absurd idle active
  · rw [State.trackerTransition_following follows, off, if_neg Bool.false_ne_true]
  · rw [State.trackerTransition_running running, off, if_neg Bool.false_ne_true]

/-! ## Notices and stops (R81, R103) -/

/-- The notice that a WRITE TRACKER hands over before the closes. -/
def State.writeNotices (s : State) (u : TrackerId) (x : TrackerSettings) : List NoticeBody :=
  if x.enabled = false then (if s.trackers[u].state = .idle then [] else s.cancelNotices u)
  else if x.mode = .follower then (if s.trackers[u].state.isRunning = true then [s.followNotice u] else [])
  else if s.trackers[u].state = .following then
    [.tracker u .following .acquiring .unfollow s.tables.settings[u].reference s.lnom s.intake.count]
  else []

/-- The taps that stop where tracker u is written (R103). -/
def State.writeStops (s : State) (u : TrackerId) (x : TrackerSettings) (tap : TapId) : Bool := decide (
  s.makesCycles (s.tapTracker tap) = true ∧
  ((x.enabled = false ∧ s.trackers[u].state ≠ .idle ∧
      (s.tapTracker tap = u ∨ s.cycleSource (s.tapTracker tap) = some u)) ∨
    (x.enabled = true ∧ x.mode = .follower ∧ s.trackers[u].state.isRunning = true ∧
      s.tapTracker tap = u ∧ s.trackers[(0 : TrackerId)].state = .idle)))

theorem State.writeStops_off (off : x.enabled = false) (active : s.trackers[u].state ≠ .idle) (tap : TapId) :
    s.writeStops u x tap = s.idling u (s.tapTracker tap) := by
  have on : ¬x.enabled = true := by rw [off]; exact Bool.false_ne_true
  rw [Bool.eq_iff_iff, State.writeStops, State.idling, Bool.and_eq_true, Bool.or_eq_true, decide_eq_true_iff,
    decide_eq_true_iff, decide_eq_true_iff]
  refine and_congr_right fun _ => ⟨fun h => ?_, fun h => .inl ⟨off, active, h⟩⟩
  obtain ⟨-, -, h⟩ | ⟨h, -⟩ := h
  · exact h
  · exact absurd h on

theorem State.writeStops_follow (on : x.enabled = true) (follower : x.mode = .follower)
    (running : s.trackers[u].state.isRunning = true) (tap : TapId) :
    s.writeStops u x tap = (decide (s.trackers[(0 : TrackerId)].state = .idle) && decide (s.tapTracker tap = u)) := by
  have makes (own : s.tapTracker tap = u) : s.makesCycles (s.tapTracker tap) = true := by
    rw [own, State.makesCycles, State.cycleSource_of_running running]
    rfl
  rw [Bool.eq_iff_iff, State.writeStops, decide_eq_true_iff, Bool.and_eq_true, decide_eq_true_iff, decide_eq_true_iff]
  refine ⟨fun ⟨_, h⟩ => ?_, fun ⟨idle, own⟩ => ⟨makes own, .inr ⟨on, follower, running, own, idle⟩⟩⟩
  obtain ⟨off, -⟩ | ⟨-, -, -, own, idle⟩ := h
  · exact absurd (off.symm.trans on) Bool.false_ne_true
  · exact ⟨idle, own⟩

theorem State.writeStops_none (off : x.enabled = false → s.trackers[u].state = .idle)
    (joins : x.enabled = true → x.mode = .follower → s.trackers[u].state.isRunning = false) :
    s.writeStops u x = fun _ => false := by
  funext tap
  refine decide_eq_false ?_
  rintro ⟨-, ⟨disabled, active, -⟩ | ⟨on, follower, running, -⟩⟩
  · exact active (off disabled)
  · rw [joins on follower] at running
    exact Bool.false_ne_true running

/-- What a WRITE TRACKER does to the record unit, the ports and the engine before its answer. -/
theorem State.trackerTransition_books (s : State) {u : TrackerId} {x : TrackerSettings}
    (alone : x.mode = .follower → u = 1) :
    BooksClosed s (s.trackerTransition u x) (s.writeNotices u x) (s.writeStops u x) := by
  have removes (k : State) : SameOutside [.former] k k.removeTariff := k.removeTariff_frame
  cases enabled : x.enabled with
  | false =>
    by_cases idle : s.trackers[u].state = .idle
    · rw [State.trackerTransition_idle idle, State.writeNotices,
        State.writeStops_none (fun _ => idle) (fun on => absurd (enabled.symm.trans on) Bool.false_ne_true), enabled,
        if_neg Bool.false_ne_true, if_pos rfl, if_pos idle]
      exact .silent (s.clearBlockIndex_frame u true).wider (.nil rfl rfl)
    · rw [State.trackerTransition_off enabled idle, State.writeNotices, funext (State.writeStops_off enabled idle),
        if_pos enabled, if_neg idle]
      exact (s.disable_books u).beside (removes _)
  | true =>
    have on : ¬x.enabled = false := by rw [enabled]; exact Bool.noConfusion
    have stays (h : x.mode = .follower → s.trackers[u].state.isRunning = false) : s.writeStops u x = fun _ => false :=
      State.writeStops_none (fun off => absurd off on) fun _ => h
    rw [State.writeNotices, if_neg on]
    by_cases follower : x.mode = .follower
    · rw [if_pos follower]
      obtain idle | follows | running := TrackerState.cases_running s.trackers[u].state
      · have still : s.trackers[u].state.isRunning = false := by rw [idle]; rfl
        rw [stays fun _ => still, State.trackerTransition_idle idle, if_pos enabled, if_pos follower,
          if_neg (by rw [still]; exact Bool.false_ne_true)]
        have frame := (s.enableFollowing_frame u).trans (removes (s.enableFollowing u)).wider
        exact .silent frame.wider (.nil (frame.get .ports) (frame.get .latches))
      · have still : s.trackers[u].state.isRunning = false := by rw [follows]; rfl
        rw [stays fun _ => still, State.trackerTransition_following follows, if_pos enabled,
          if_neg (by rw [follower]; exact TrackerMode.noConfusion), if_neg (by rw [still]; exact Bool.false_ne_true)]
        exact .silent (.refl _ s) (.nil rfl rfl)
      · rw [State.trackerTransition_running running, if_pos enabled, if_pos follower, if_pos running,
          funext (State.writeStops_follow enabled follower running)]
        by_cases idle : s.trackers[(0 : TrackerId)].state = .idle
        · rw [decide_eq_true idle]
          exact (s.follow_books_idle u running (alone follower) idle).beside (removes _)
        · rw [decide_eq_false idle]
          exact (s.follow_books_awake u running (alone follower) idle).beside (removes _)
    · have independent : x.mode = .independent := by
        cases mode : x.mode with
        | independent => rfl
        | follower => exact absurd mode follower
      rw [if_neg follower, stays fun h => absurd h follower]
      obtain idle | follows | running := TrackerState.cases_running s.trackers[u].state
      · rw [State.trackerTransition_idle idle, if_pos enabled, if_neg follower,
          if_neg (by rw [idle]; exact TrackerState.noConfusion)]
        have frame := s.enableAcquiring_frame u
        exact .silent frame.wider (.nil (frame.get .ports) (frame.get .latches))
      · obtain ⟨frame, noticed⟩ := s.unfollow_silent u
        rw [State.trackerTransition_following follows, if_pos enabled, if_pos independent, if_pos follows]
        rw [follows] at noticed
        exact .silent frame noticed
      · have still : s.trackers[u].state ≠ .following := fun follows => by
          rw [follows] at running
          exact Bool.false_ne_true running
        rw [State.trackerTransition_running running, if_pos enabled, if_neg follower, if_neg still]
        exact .silent (.refl _ s) (.nil rfl rfl)

end Sys2Proof.Machine
end


section
/-! SUPPORT. What the transition of WRITE TRACKER leaves of the trackers, the tariff record and the taps (R47, R71, R76 to
R78, R99 to R103). -/

namespace Sys2Proof.Machine

set_option Elab.async false

open Sys2Proof

variable {s t a : State} {u v : TrackerId} {tap : TapId} {x : TrackerSettings}

/-! ## Settings, the other tracker and the pending tariff record -/

/-- The transition takes the tracker out of the trackers that must apply a pending record (R99). -/
def State.withdraws (s : State) (u : TrackerId) (x : TrackerSettings) : Prop :=
  (x.enabled = false ∧ s.trackers[u].state ≠ .idle) ∨
    (x.enabled = true ∧ x.mode = .follower ∧ s.trackers[u].state ≠ .following)

/-- The pending record after its removal test in the part t (R99). -/
def State.tariffLeft (s t : State) : Option PendingTariff :=
  s.former.pendingTariff.bind fun p => if ∀ v : TrackerId, t.tables.settings[v].enabled = true →
    t.trackers[v].state ≠ .following → p.applied[v] = true then none else some p

/-- What the transition leaves of the settings, the other tracker and the pending record. -/
structure Transferred (s t : State) (u : TrackerId) (x : TrackerSettings) : Prop where
  settings : t.tables.settings = s.tables.settings
  other : t.trackers[1 - u] = s.trackers[1 - u]
  free : ¬s.withdraws u x → t.former.pendingTariff = s.former.pendingTariff
  withdrawn : s.withdraws u x → t.former.pendingTariff = s.tariffLeft t

theorem Transferred.of_free (settings : t.tables.settings = s.tables.settings)
    (other : t.trackers[1 - u] = s.trackers[1 - u]) (pending : t.former.pendingTariff = s.former.pendingTariff)
    (stays : ¬s.withdraws u x) : Transferred s t u x :=
  ⟨settings, other, fun _ => pending, fun leaves => absurd leaves stays⟩

theorem Transferred.of_removed (settings : a.tables.settings = s.tables.settings)
    (other : a.trackers[1 - u] = s.trackers[1 - u]) (pending : a.former.pendingTariff = s.former.pendingTariff)
    (leaves : s.withdraws u x) : Transferred s a.removeTariff u x := by
  have frame := a.removeTariff_frame
  have tables : a.removeTariff.tables = a.tables := frame.get .tables
  have trackers : a.removeTariff.trackers = a.trackers := frame.get .trackers
  refine ⟨by rw [tables]; exact settings, by rw [trackers]; exact other, fun stays => absurd leaves stays, fun _ => ?_⟩
  rw [a.removeTariff_pending, pending, State.tariffLeft, tables, trackers]

/-- The states of the tracker and the new settings under which the transition runs through each of its cases. -/
theorem State.trackerTransition_transferred (s : State) {u : TrackerId} {x : TrackerSettings}
    (alone : x.mode = .follower → u = 1) : Transferred s (s.trackerTransition u x) u x := by
  have same : s.tables.settings = s.tables.settings := rfl
  cases enabled : x.enabled with
  | false =>
    have off : ¬x.enabled = true := by rw [enabled]; exact Bool.false_ne_true
    by_cases idle : s.trackers[u].state = .idle
    · rw [State.trackerTransition_idle idle, if_neg off]
      refine .of_free same rfl rfl ?_
      rintro (⟨-, active⟩ | ⟨on, -⟩)
      · exact active idle
      · exact off on
    · rw [State.trackerTransition_off enabled idle]
      have disabled := s.disable_disabled u
      exact .of_removed disabled.settings disabled.other disabled.pending (.inl ⟨enabled, idle⟩)
  | true =>
    have on : ¬x.enabled = false := by rw [enabled]; exact Bool.noConfusion
    have stays (h : x.mode = .follower → s.trackers[u].state = .following) : ¬s.withdraws u x := by
      rintro (⟨disabled, -⟩ | ⟨-, follower, active⟩)
      · exact on disabled
      · exact active (h follower)
    obtain idle | follows | running := TrackerState.cases_running s.trackers[u].state
    · rw [State.trackerTransition_idle idle, if_pos enabled]
      split
      · next follower =>
        refine .of_removed same ?_ rfl (.inr ⟨enabled, follower, by rw [idle]; exact TrackerState.noConfusion⟩)
        rw [State.enableFollowing_trackers, if_neg (TrackerId.ne_other u)]
      · next independent =>
        have begun := s.enableAcquiring_begun u
        have tables : (s.enableAcquiring u).tables = s.tables := (s.enableAcquiring_frame u).get .tables
        exact .of_free (by rw [tables]) begun.other begun.pending (stays fun h => absurd h independent)
    · rw [State.trackerTransition_following follows, if_pos enabled]
      split
      · have begun := s.unfollow_begun u
        have tables : (s.unfollow u).tables = s.tables := (s.unfollow_silent u).1.get .tables
        exact .of_free (by rw [tables]) begun.other begun.pending (stays fun _ => follows)
      · exact .of_free same rfl rfl (stays fun _ => follows)
    · rw [State.trackerTransition_running running, if_pos enabled]
      split
      · next follower =>
        have followed := s.follow_followed u running (alone follower)
        refine .of_removed followed.settings followed.other followed.pending (.inr ⟨enabled, follower, fun follows => ?_⟩)
        rw [follows] at running
        exact Bool.false_ne_true running
      · next independent => exact .of_free same rfl rfl (stays fun h => absurd h independent)

/-! ## The tracker that is written -/

theorem State.removeTariff_blocks (a : State) : a.removeTariff.trackers = a.trackers ∧
    a.removeTariff.former.trackers = a.former.trackers ∧ a.removeTariff.former.taps = a.former.taps ∧
    a.removeTariff.tables = a.tables ∧ a.removeTariff.accounts = a.accounts :=
  ⟨a.removeTariff_frame.get .trackers, a.removeTariff_former.2, a.removeTariff_former.1, a.removeTariff_frame.get .tables,
    a.removeTariff_frame.get .accounts⟩

theorem State.trackerTransition_disabled (off : x.enabled = false) :
    (s.trackerTransition u x).trackers[u].state = .idle ∧ (s.trackerTransition u x).former.trackers[u].index = 0 ∧
      (s.trackerTransition u x).former.trackers[u].inForce = s.tables.settings[u].written ∧
      (s.trackers[u].state ≠ .idle → (s.trackerTransition u x).trackers[u].handover = none ∧
        (s.trackerTransition u x).former.trackers[u].resampler = none) := by
  by_cases idle : s.trackers[u].state = .idle
  · rw [State.trackerTransition_idle idle, off, if_neg Bool.false_ne_true, State.clearBlockIndex_block, if_pos rfl]
    exact ⟨idle, rfl, rfl, fun active => absurd idle active⟩
  · obtain ⟨own, -, index, inForce, resampler, -, -⟩ := s.disable_disabled u
    obtain ⟨trackers, formers, -⟩ := (s.disable u).removeTariff_blocks
    rw [State.trackerTransition_off off idle, trackers, formers, own]
    exact ⟨rfl, index, inForce, fun _ => ⟨rfl, resampler⟩⟩

theorem State.trackerTransition_begun (on : x.enabled = true) (independent : x.mode = .independent)
    (before : s.trackers[u].state = .idle ∨ s.trackers[u].state = .following) :
    CyclesBegun s (s.trackerTransition u x) u ∧ (s.trackers[u].state = .idle →
      (s.trackerTransition u x).former.trackers[u].inForce = s.tables.settings[u].written ∧
        (s.trackerTransition u x).former.trackers[u].index = 0) := by
  obtain idle | follows := before
  · rw [State.trackerTransition_idle idle, if_pos on, if_neg (by rw [independent]; exact TrackerMode.noConfusion)]
    exact ⟨s.enableAcquiring_begun u, fun _ => s.enableAcquiring_block u⟩
  · rw [State.trackerTransition_following follows, if_pos on, if_pos independent]
    exact ⟨s.unfollow_begun u, fun idle => absurd (follows.symm.trans idle) TrackerState.noConfusion⟩

theorem State.trackerTransition_stays (on : x.enabled = true) (independent : x.mode = .independent)
    (running : s.trackers[u].state.isRunning = true) : s.trackerTransition u x = s := by
  rw [State.trackerTransition_running running, if_pos on, if_neg (by rw [independent]; exact TrackerMode.noConfusion)]

theorem State.trackerTransition_followed (on : x.enabled = true) (follower : x.mode = .follower) (one : u = 1) :
    (s.trackerTransition u x).trackers[u].state = .following ∧
      (s.trackers[u].state ≠ .following → (s.trackerTransition u x).trackers[u].lfix = s.lnom) ∧
      (s.trackers[u].state.isRunning = true → (s.trackerTransition u x).former.trackers[u].resampler = none) := by
  obtain idle | follows | running := TrackerState.cases_running s.trackers[u].state
  · rw [State.trackerTransition_idle idle, if_pos on, if_pos follower, ((s.enableFollowing u).removeTariff_blocks).1,
      State.enableFollowing_trackers, if_pos rfl, idle]
    exact ⟨rfl, fun _ => rfl, fun running => absurd running Bool.false_ne_true⟩
  · rw [State.trackerTransition_following follows, if_pos on, if_neg (by rw [follower]; exact TrackerMode.noConfusion)]
    refine ⟨follows, fun other => absurd follows other, fun running => ?_⟩
    rw [follows] at running
    exact absurd running Bool.false_ne_true
  · obtain ⟨own, -, resampler, -, -⟩ := s.follow_followed u running one
    obtain ⟨trackers, formers, -⟩ := (s.follow u).removeTariff_blocks
    rw [State.trackerTransition_running running, if_pos on, if_pos follower, trackers, formers, own]
    exact ⟨rfl, fun _ => rfl, fun _ => resampler⟩

end Sys2Proof.Machine
end


section
/-! SUPPORT. What the transition of WRITE TRACKER does to each tap (R41, R76 to R78, R102, R103). -/

namespace Sys2Proof.Machine

set_option Elab.async false

open Sys2Proof

variable {s t a : State} {u v : TrackerId} {tap : TapId} {x : TrackerSettings}

theorem TapKept.of_former (frame : SameOutside [.trackers, .former, .ports, .latches] s t)
    (former : t.former.taps[tap] = s.former.taps[tap]) : TapKept s t tap :=
  ⟨by rw [frame.get .tables], former, by rw [frame.get .accounts], by rw [frame.get .engine], by rw [frame.get .engine]⟩

/-- A tap of a tracker that has not the written one's cycles stays. -/
theorem State.trackerTransition_kept (s : State) {u : TrackerId} {x : TrackerSettings} (alone : x.mode = .follower → u = 1)
    (apart : s.apart u (s.tapTracker tap)) : TapKept s (s.trackerTransition u x) tap := by
  cases enabled : x.enabled with
  | false =>
    by_cases idle : s.trackers[u].state = .idle
    · rw [State.trackerTransition_idle idle, enabled, if_neg Bool.false_ne_true]
      exact s.clearBlockIndex_kept u tap
    · rw [State.trackerTransition_off enabled idle]
      exact (s.disable_kept u apart.idling).trans (State.removeTariff_kept _ tap)
  | true =>
    obtain idle | follows | running := TrackerState.cases_running s.trackers[u].state
    · rw [State.trackerTransition_idle idle, if_pos enabled]
      split
      · next follower =>
        refine (TapKept.of_former (s.enableFollowing_frame u).wider ?_).trans (State.removeTariff_kept _ tap)
        rw [s.enableFollowing_taps u tap (alone follower), if_neg fun both => apart.1 both.1]
      · exact .of_former (s.enableAcquiring_frame u).wider ((s.enableAcquiring_taps u tap rfl).2 apart)
    · rw [State.trackerTransition_following follows, if_pos enabled]
      split
      · exact .of_former (s.unfollow_silent u).1 (s.unfollow_kept u tap apart)
      · exact .refl s tap
    · rw [State.trackerTransition_running running, if_pos enabled]
      split
      · next follower =>
        exact (s.follow_kept u running (alone follower) apart.1).trans (State.removeTariff_kept _ tap)
      · exact .refl s tap

/-- A tap whose tracker stops making cycles because tracker u is disabled (R76, R103). -/
theorem State.trackerTransition_stopped (off : x.enabled = false) (active : s.trackers[u].state ≠ .idle)
    (stop : s.idling u (s.tapTracker tap) = true) : TapStopped s (s.trackerTransition u x) tap := by
  rw [State.trackerTransition_off off active]
  exact (s.disable_stopped u stop).kept (State.removeTariff_kept _ tap) (State.removeTariff_blocks _).1

/-- An INACTIVE tap of a tracker that leaves IDLE for cycles of its own (R71, R103). -/
theorem State.trackerTransition_collects (on : x.enabled = true) (independent : x.mode = .independent)
    (idle : s.trackers[u].state = .idle) (tracker : s.tapTracker tap = v)
    (hits : v = u ∨ (u = 0 ∧ s.trackers[v].state = .following)) (enabled : (s.tapEntry tap).enabled = true)
    (inactive : s.former.taps[tap].collect = .inactive) :
    (s.trackerTransition u x).former.taps[tap] = tapCleared .collecting s.former.taps[tap].unaccounted ∧
      (s.trackerTransition u x).accounts[tap] = s.accounts[tap] ∧
      (s.trackerTransition u x).tables.taps[tap] = s.tables.taps[tap] := by
  rw [State.trackerTransition_idle idle, if_pos on, if_neg (by rw [independent]; exact TrackerMode.noConfusion)]
  have frame := s.enableAcquiring_frame u
  exact ⟨(s.enableAcquiring_taps u tap tracker).1 hits idle enabled inactive, by rw [frame.get .accounts],
    by rw [frame.get .tables]⟩

/-- An INACTIVE tap of a tracker that enters FOLLOWING from IDLE (R77, R102). -/
theorem State.trackerTransition_waits (on : x.enabled = true) (follower : x.mode = .follower) (one : u = 1)
    (idle : s.trackers[u].state = .idle) (own : s.tapTracker tap = u) (enabled : (s.tapEntry tap).enabled = true)
    (inactive : s.former.taps[tap].collect = .inactive) : (s.trackerTransition u x).former.taps[tap] =
      if s.trackers[(0 : TrackerId)].state = .idle then s.former.taps[tap]
      else { tapCleared (.joining (some 0)) 0 with unaccounted := s.former.taps[tap].unaccounted } := by
  rw [State.trackerTransition_idle idle, if_pos on, if_pos follower, (State.removeTariff_blocks _).2.2.1,
    s.enableFollowing_taps u tap one]
  by_cases silent : s.trackers[(0 : TrackerId)].state = .idle
  · rw [if_pos silent, if_neg fun all => all.2.2.1 silent]
  · rw [if_neg silent, if_pos ⟨own, enabled, silent, inactive⟩]

section
variable (on : x.enabled = true) (follower : x.mode = .follower) (one : u = 1)
  (running : s.trackers[u].state.isRunning = true) (own : s.tapTracker tap = u)
include on follower one running own

/-- A tap of a running tracker that enters FOLLOWING where tracker 0 makes no cycles (R77, R103). -/
theorem State.trackerTransition_halts (idle : s.trackers[(0 : TrackerId)].state = .idle) :
    TapStopped s (s.trackerTransition u x) tap := by
  rw [State.trackerTransition_running running, if_pos on, if_pos follower]
  exact (s.follow_stopped u running one idle own).kept (State.removeTariff_kept _ tap) (State.removeTariff_blocks _).1

/-- A tap of a running tracker that joins tracker 0's cycles (R77, R102). -/
theorem State.trackerTransition_joins (awake : s.trackers[(0 : TrackerId)].state ≠ .idle) {m : Resampler}
    (present : s.former.trackers[u].resampler = some m) :
    (s.trackerTransition u x).tables.taps[tap] = s.tables.taps[tap] ∧
      (s.trackerTransition u x).accounts[tap] = s.accounts[tap] ∧
      (s.former.taps[tap].collect = .collecting → (s.trackerTransition u x).former.taps[tap] =
        tapCleared (.joining (some 0)) (s.former.taps[tap].unaccounted + if m.point = 0 then 0 else m.samples)) ∧
      (s.former.taps[tap].collect ≠ .collecting → (s.trackerTransition u x).former.taps[tap] = s.former.taps[tap]) := by
  obtain ⟨tables, accounts, former⟩ := s.follow_joined u running one awake own
  obtain ⟨-, -, taps, tables', accounts'⟩ := (s.follow u).removeTariff_blocks
  have left : s.leftTap tap Resampler.breakSamples = s.former.taps[tap].abandon m.breakSamples := by
    unfold State.leftTap
    rw [own, State.cycleSource_of_running running, Option.bind_some, present]
  rw [State.trackerTransition_running running, if_pos on, if_pos follower, tables', tables, accounts', accounts, taps,
    former, left]
  refine ⟨rfl, rfl, fun collecting => ?_, fun other => ?_⟩
  · rw [if_pos collecting, FormerTap.abandon_collecting collecting]
    rfl
  · rw [if_neg other, FormerTap.abandon_other other]

end

section
variable (on : x.enabled = true) (independent : x.mode = .independent) (follows : s.trackers[u].state = .following)
  (own : s.tapTracker tap = u)
include on independent follows own

/-- A tap of a tracker that leaves FOLLOWING collects that tracker's own cycles (R78, R102, R103). -/
theorem State.trackerTransition_parts : (s.trackerTransition u x).tables.taps[tap] = s.tables.taps[tap] ∧
    (s.trackerTransition u x).accounts[tap] = s.accounts[tap] ∧
    (∀ m, s.trackers[(0 : TrackerId)].state ≠ .idle → s.former.trackers[(0 : TrackerId)].resampler = some m →
      s.former.taps[tap].collect = .collecting → (s.trackerTransition u x).former.taps[tap] =
        tapCleared .collecting (s.former.taps[tap].unaccounted + m.samples)) ∧
    (∀ gap, s.former.taps[tap].collect = .joining gap → (s.trackerTransition u x).former.taps[tap] =
      tapCleared .collecting (s.former.taps[tap].unaccounted + gap.getD 0)) ∧
    (s.trackers[(0 : TrackerId)].state = .idle → (s.tapEntry tap).enabled = true →
      s.former.taps[tap].collect = .inactive → (s.trackerTransition u x).former.taps[tap] =
        tapCleared .collecting s.former.taps[tap].unaccounted) := by
  have frame := (s.unfollow_silent u).1
  have source := State.cycleSource_following follows
  have left (h : s.former.taps[tap].collect ≠ .collecting) : s.unfollowedTap u tap = s.former.taps[tap] := by
    unfold State.unfollowedTap State.leftTap
    split
    · split
      · rfl
      · exact FormerTap.abandon_other h _
    · rfl
  rw [State.trackerTransition_following follows, if_pos on, if_pos independent, frame.get .tables, frame.get .accounts,
    s.unfollow_taps u tap own]
  refine ⟨rfl, rfl, fun m awake present collecting => ?_, fun gap joining => ?_, fun idle enabled inactive => ?_⟩
  · rw [if_neg awake] at source
    have leaving : s.leaving u tap = true := by
      rw [s.leaving_eq_idling, own, State.idling, State.makesCycles, source, decide_eq_true rfl]
      rfl
    have before : s.unfollowedTap u tap = tapCleared .collecting (s.former.taps[tap].unaccounted + m.samples) := by
      rw [State.unfollowedTap, leaving, if_pos rfl, State.leftTap, own, source, Option.bind_some, present]
      exact FormerTap.abandon_collecting collecting _
    rw [before, if_neg fun all => Collect.noConfusion all.2.2, FormerTap.cycleStart_active (by exact Collect.noConfusion)]
    exact congrArg (FormerTap.mk _ _ _ _) (Nat.min_eq_right (Nat.min_le_left _ _))
  · have still : s.former.taps[tap].collect ≠ .collecting := by rw [joining]; exact Collect.noConfusion
    have active : s.former.taps[tap].collect ≠ .inactive := by rw [joining]; exact Collect.noConfusion
    rw [left still, if_neg fun all => active all.2.2, FormerTap.cycleStart_active active, FormerTap.gap_joining joining]
  · have still : s.former.taps[tap].collect ≠ .collecting := by rw [inactive]; exact Collect.noConfusion
    have none : s.makesCycles u = false := by
      rw [State.makesCycles, source, if_pos idle]
      rfl
    rw [left still, if_pos ⟨none, enabled, inactive⟩, FormerTap.cleared_start]

end

end Sys2Proof.Machine
end


section
/-! O38. WRITE TRACKER: refusals, settings stored, the tracker's change of state and its taps (R41, R46, R47, R71, R76 to
R78, R99, R103, R172, R176). -/

namespace Sys2Proof.Machine

set_option Elab.async false

open Sys2Proof

variable {s t k : State} {u : TrackerId} {tap : TapId} {x : TrackerSettings} {l : List NoticeBody} {stops : TapId → Bool}

/-! ## The body (R176) -/

/-- The settings that the bytes of the body give (R46, R176). -/
def writtenSettings (b : Bytes) : TrackerSettings :=
  { enabled := decide (byteAt b 1 = 1), reference := Fin.ofNat 48 (byteAt b 2)
    mode := if byteAt b 3 = 1 then .follower else .independent
    written := ⟨byteAt b 4, if byteAt b 5 = 0 then .off else if byteAt b 5 = 1 then .soft else .hard, byteAt b 6⟩
    holdoverLimit := byteAt b 7, autoReport := decide (byteAt b 8 = 1), dipThreshold := beNat b 9 5 }

theorem readBool_of_le {n : Nat} (h : n ≤ 1) : readBool n = some (decide (n = 1)) := by
  obtain rfl | rfl : n = 0 ∨ n = 1 := by omega
  · rfl
  · rfl

theorem readChannel_of_le {n : Nat} (h : n ≤ 47) : readChannel n = some (Fin.ofNat 48 n) := by
  rw [readChannel, dif_pos (Nat.lt_succ_of_le h)]
  exact congrArg some (Fin.ext (Nat.mod_eq_of_lt (Nat.lt_succ_of_le h)).symm)

theorem readTrackerMode_of_le {n : Nat} (h : n ≤ 1) :
    readTrackerMode n = some (if n = 1 then .follower else .independent) := by
  obtain rfl | rfl : n = 0 ∨ n = 1 := by omega
  · rfl
  · rfl

theorem readAlignMode_of_le {n : Nat} (h : n ≤ 2) :
    readAlignMode n = some (if n = 0 then .off else if n = 1 then .soft else .hard) := by
  obtain rfl | rfl | rfl : n = 0 ∨ n = 1 ∨ n = 2 := by omega
  · rfl
  · rfl
  · rfl

theorem readTrackerWrite_written {b : Bytes} (own : byteAt b 0 = u.val) (fits : bodyInRange b .writeTracker = true) :
    readTrackerWrite b = some (u, writtenSettings b) ∧ ((writtenSettings b).mode = .follower → u = 1) := by
  obtain ⟨-, enabled, channel, mode, low, high, align, preset, holdover, report, dip, zero⟩ := of_decide_eq_true fits
  have alone : (writtenSettings b).mode = .follower → u = 1 := fun follower => by
    by_contra other
    obtain rfl := TrackerId.zero_of_ne_one other
    refine zero ⟨own, by_contra fun independent => ?_⟩
    rw [writtenSettings, if_neg independent] at follower
    exact TrackerMode.noConfusion follower
  refine ⟨?_, alone⟩
  unfold readTrackerWrite
  rw [own, readTrackerId_val, readBool_of_le enabled, readChannel_of_le channel, readTrackerMode_of_le mode,
    readAlignMode_of_le align, readBool_of_le report]
  dsimp only
  rw [if_pos ⟨low, high, by omega, by omega, dip, fun both => by
    have := alone both.1
    rw [both.2] at this
    exact absurd this (by decide)⟩]
  rfl

/-! ## The refusals (R46) -/

theorem State.trackerWriteRefused_iff (s : State) (u : TrackerId) (x : TrackerSettings) :
    s.trackerWriteRefused u x = true ↔
      (s.tables.settings[u].enabled = true ∧ s.tables.settings[u].mode = .independent ∧
        x.reference ≠ s.tables.settings[u].reference) ∨
      (x.mode = .follower ∧ s.trackers[u].handover.isSome = true) := by
  unfold State.trackerWriteRefused
  rw [Bool.or_eq_true, Bool.and_eq_true, Bool.and_eq_true, Bool.and_eq_true, decide_eq_true_iff, decide_eq_true_iff,
    decide_eq_true_iff, and_assoc]

/-! ## Before the answer -/

theorem Noticed.notifying (h : Noticed s t l) : Notifying s t := by
  have front : s.ports.noticeQueue <+: t.ports.noticeQueue := by
    rw [h.ports]
    unfold queueNotices
    dsimp only
    split
    · exact List.prefix_take_iff.mpr ⟨List.prefix_append _ _, Nat.le_max_right _ _⟩
    · exact List.prefix_rfl
  refine ⟨?_, ?_, ?_, front⟩
  · rw [h.ports]
    exact ⟨rfl, rfl, rfl, rfl, rfl, rfl⟩
  · rw [h.ports]
  · rw [h.latches]

/-- The closes after the notices hand over further notices and place reports alone (R172). -/
theorem BooksClosed.notifying (h : BooksClosed s t l stops) : Notifying s t ∧
    queueNotices s.tables.station s.ports.noticeQueue l <+: t.ports.noticeQueue := by
  obtain ⟨⟨m, -, noticed, -, latches, ports⟩, -⟩ := h
  have closes := Notifying.foldl (f := fun (k : State) tap => k.register (s.stopEntry tap))
    (fun k tap => k.register_notifying (s.stopEntry tap))
    ((List.finRange 8).filter fun tap => stops tap && decide (s.former.taps[tap].collect ≠ .inactive)) m
  have all := noticed.notifying.trans closes
  refine ⟨⟨?_, ?_, ?_, ?_⟩, ?_⟩
  · rw [ports]
    exact all.ports
  · rw [ports]
    exact all.answerSlot
  · rw [latches]
    exact all.latches
  · rw [ports]
    exact all.notices
  · have queued : m.ports.noticeQueue = queueNotices s.tables.station s.ports.noticeQueue l := by rw [noticed.ports]
    rw [ports, ← queued]
    exact closes.notices

end Sys2Proof.Machine
end


section
/-! O38. The statement of WRITE TRACKER put together from the transition and the answer. -/

namespace Sys2Proof.Machine

set_option Elab.async false

open Sys2Proof

variable {s t k : State} {u : TrackerId} {tap : TapId} {x : TrackerSettings} {l : List NoticeBody} {stops : TapId → Bool}

theorem serveWriteTracker_refuses {r : Request} (reads : readTrackerWrite r.body = some (u, x))
    (refused : s.trackerWriteRefused u x = true) : serveWriteTracker s r = s.refuse r .wrongState := by
  rw [serveWriteTracker, reads]
  exact if_pos refused

theorem serveWriteTracker_accepts {r : Request} (reads : readTrackerWrite r.body = some (u, x))
    (accepted : ¬s.trackerWriteRefused u x = true) : serveWriteTracker s r =
      ((s.modSettings u fun _ => x).trackerTransition u x).answer r .done [] := by
  rw [serveWriteTracker, reads]
  exact if_neg accepted

theorem State.modSettings_settings (s : State) (u v : TrackerId) (x : TrackerSettings) :
    (s.modSettings u fun _ => x).tables.settings[v] = if u = v then x else s.tables.settings[v] :=
  getElem_modAt _ _ _ _

/-- The stored settings are no part of what a tap's stop speaks of. -/
theorem TapStopped.of_stored (h : TapStopped (s.modSettings u fun _ => x) t tap) : TapStopped s t tap := by
  obtain ⟨block, slot, collect, pending, account⟩ := h
  refine ⟨block, slot, collect, pending, fun active => (account active).trans ?_⟩
  have same : ((s.modSettings u fun _ => x).register (s.stopEntry tap)).accounts[tap] =
      (s.register (s.stopEntry tap)).accounts[tap] := State.register_account_congr_of rfl rfl rfl
  exact (congrArg (fun a : TapAccount => { a with blockNumber := s.accounts[tap].blockNumber + 1 }) same :)

theorem State.modSettings_apart (h : s.apart u v) : (s.modSettings u fun _ => x).apart u v := h

/-- What a WRITE TRACKER whose settings x are accepted leaves in k before its answer. -/
structure Rewritten (s k : State) (u : TrackerId) (x : TrackerSettings) : Prop where
  frame : SameOutside transitionBlocks (s.modSettings u fun _ => x) k
  books : BooksClosed (s.modSettings u fun _ => x) k ((s.modSettings u fun _ => x).writeNotices u x)
    ((s.modSettings u fun _ => x).writeStops u x)
  transferred : Transferred (s.modSettings u fun _ => x) k u x

section
variable (h : Rewritten s k u x) (r : Request)
include h

theorem Rewritten.answer_frame : SameOutside
    [.management, .trackers, .tables, .former, .engine, .accounts, .records, .ports, .latches] s (k.answer r .done []) :=
  (((s.modSettings_frame u fun _ => x).wider.trans h.frame.wider).trans (k.answer_frame r .done []).wider)

theorem Rewritten.answer_management : (k.answer r .done []).management = { s.management with inService := none } := by
  rw [State.answer_management, h.frame.get .management]
  rfl

theorem Rewritten.answer_ports (line : s.resetLine = false) : (k.answer r .done []).ports =
    Ports.chooseB s.straps.station { k.ports with answerSlot := some ⟨r.source, r.tag, r.kind, .done, []⟩ } := by
  have running : k.resetLine = false := (h.frame.get .resetLine).trans line
  have straps : k.straps = s.straps := h.frame.get .straps
  rw [State.answer_ports, State.chosenB_running running, straps]

theorem Rewritten.answer_kept :
    (k.answer r .done []).ports.answerSlot = some ⟨r.source, r.tag, r.kind, .done, []⟩ ∧
    s.ports.Kept (k.answer r .done []).ports ∧
    (k.answer r .done []).latches = { s.latches with noticeDropped := (k.answer r .done []).latches.noticeDropped } ∧
    queueNotices s.tables.station s.ports.noticeQueue ((s.modSettings u fun _ => x).writeNotices u x) <+:
      (k.answer r .done []).ports.noticeQueue := by
  obtain ⟨notifying, front⟩ := h.books.notifying
  obtain ⟨slot, -, -, -, -, kept, notices, -⟩ := k.answer_answered r .done []
  have latches : (k.answer r .done []).latches = k.latches := (k.answer_frame r .done []).get .latches
  refine ⟨slot, notifying.ports.trans kept, ?_, ?_⟩
  · rw [latches]
    exact notifying.latches
  · rw [notices]
    exact front

theorem Rewritten.answer_books (line : s.resetLine = false) :
    ∃ m n : State, SameOutside [.tables, .ports, .latches] s m ∧
      m.tables = { s.tables with settings := upd s.tables.settings u x } ∧
      HandedOver s s.ports s.latches m.ports m.latches ((s.modSettings u fun _ => x).writeNotices u x) ∧
      n = ((List.finRange 8).filter fun tap =>
        s.writeStops u x tap && decide (s.former.taps[tap].collect ≠ .inactive)).foldl
          (fun k tap => k.register (s.stopEntry tap)) m ∧
      (k.answer r .done []).records = n.records ∧ (k.answer r .done []).latches = n.latches ∧
      (k.answer r .done []).engine = { s.engine with
        held := (k.answer r .done []).engine.held, stale := (k.answer r .done []).engine.stale } ∧
      (∀ tap : TapId,
        (s.writeStops u x tap = true → s.stagedMoves tap = true →
          (k.answer r .done []).engine.held[tap] = none ∧
          (k.answer r .done []).engine.stale[tap] = s.outstandingJobs tap) ∧
        ((s.writeStops u x tap = false ∨ s.stagedMoves tap = false) →
          (k.answer r .done []).engine.held[tap] = s.engine.held[tap] ∧
          (k.answer r .done []).engine.stale[tap] = s.engine.stale[tap])) ∧
      (k.answer r .done []).ports = Ports.chooseB s.straps.station
        { n.ports with answerSlot := some ⟨r.source, r.tag, r.kind, .done, []⟩ } := by
  obtain ⟨⟨m, placed, noticed, records, latches, ports⟩, engine, moved, unmoved⟩ := h.books
  have answers := k.answer_frame r .done []
  have engines : (k.answer r .done []).engine = k.engine := answers.get .engine
  have before : SameOutside [.tables, .ports, .latches] s m := (s.modSettings_frame u fun _ => x).wider.trans placed.wider
  refine ⟨m, _, before, placed.get .tables, noticed.congr rfl rfl rfl, rfl, (answers.get .records).trans records,
    (answers.get .latches).trans latches, by rw [engines]; exact engine,
    fun tap => ⟨by rw [engines]; exact moved tap, by rw [engines]; exact unmoved tap⟩, ?_⟩
  rw [h.answer_ports r line, ports]
  rfl

end

/-- The notices with the reference of the stored settings (R81, R87). -/
theorem State.writeNotices_stored (s : State) (u : TrackerId) (x : TrackerSettings) :
    (s.modSettings u fun _ => x).writeNotices u x =
      if x.enabled = false then (if s.trackers[u].state = .idle then [] else match s.trackers[u].handover with
        | none => []
        | some h => [.handover u .cancelled x.reference h.channel h.timeout h.locked s.trackers[u].state h.ls])
      else if x.mode = .follower then (if s.trackers[u].state.isRunning = true then
        [.tracker u s.trackers[u].state .following .follow x.reference s.lnom s.intake.count] else [])
      else if s.trackers[u].state = .following then
        [.tracker u .following .acquiring .unfollow x.reference s.lnom s.intake.count]
      else [] := by
  have stored : (s.modSettings u fun _ => x).tables.settings[u] = x := (s.modSettings_settings u u x).trans (if_pos rfl)
  unfold State.writeNotices State.cancelNotices State.followNotice
  rw [stored]
  rfl

/-! ## The statement -/

theorem TapKept.of_stored (h : TapKept (s.modSettings u fun _ => x) t tap) : TapKept s t tap :=
  ⟨h.slot, h.former, h.account, h.held, h.stale⟩

/-- Settles O38: the transition by the tracker's state and the new settings, on the state with the settings stored, and
then the answer. -/
theorem writeTracker : Obligations.WriteTracker := by
  intro s r u serving own fits x old refused
  obtain ⟨reads, alone⟩ : readTrackerWrite r.body = some (u, x) ∧ (x.mode = .follower → u = 1) :=
    readTrackerWrite_written own fits
  clear_value x
  have refusal := s.trackerWriteRefused_iff u x
  refine ⟨_, next_congr (State.serve_of_serving s serving), fun refuse => ?_, fun accept => ?_⟩
  · rw [serveWriteTracker_refuses reads (refusal.mpr refuse)]
    exact s.refuse_answered r _
  rw [serveWriteTracker_accepts reads (mt refusal.mp accept)]
  have line := serving.running
  have rewritten : Rewritten s ((s.modSettings u fun _ => x).trackerTransition u x) u x :=
    ⟨(s.modSettings u fun _ => x).trackerTransition_frame u x, (s.modSettings u fun _ => x).trackerTransition_books alone,
      (s.modSettings u fun _ => x).trackerTransition_transferred alone⟩
  obtain ⟨slot, kept, latches, front⟩ := rewritten.answer_kept r
  have books := rewritten.answer_books r line
  rw [s.writeNotices_stored u x] at books front
  have answers := ((s.modSettings u fun _ => x).trackerTransition u x).answer_frame r .done []
  have stored : (s.modSettings u fun _ => x).tables.settings[u] = x := (s.modSettings_settings u u x).trans (if_pos rfl)
  have trackers := answers.get .trackers
  have tables := answers.get .tables
  have former := answers.get .former
  have accounts := answers.get .accounts
  have engine := answers.get .engine
  have still (tap : TapId) : TapKept ((s.modSettings u fun _ => x).trackerTransition u x)
      (((s.modSettings u fun _ => x).trackerTransition u x).answer r .done []) tap :=
    ⟨by rw [tables], by rw [former], by rw [accounts], by rw [engine], by rw [engine]⟩
  obtain ⟨settings, other, free, withdrawn⟩ := rewritten.transferred
  rw [State.tariffLeft] at withdrawn
  refine ⟨rewritten.answer_frame r, rewritten.answer_management r, slot, kept, latches, books, ⟨?_, ?_, ?_⟩, ?_, ?_, ?_,
    ?_, ?_, ?_, ?_, ?_, fun tap => ⟨?_, ?_, ?_, ?_, ?_, ?_⟩⟩
  · rw [former]
    exact free
  · intro leaves p pending
    rw [former, tables, trackers]
    refine (withdrawn leaves).trans ?_
    rw [show (s.modSettings u fun _ => x).former.pendingTariff = some p from pending]
    rfl
  · intro none
    have before : (s.modSettings u fun _ => x).former.pendingTariff = .none := none
    rw [former]
    by_cases leaves : (s.modSettings u fun _ => x).withdraws u x
    · rw [withdrawn leaves, before]
      rfl
    · exact (free leaves).trans before
  · rw [tables, settings]
    exact stored
  · rw [tables, settings]
    exact (s.modSettings_settings u (1 - u) x).trans (if_neg (TrackerId.ne_other u))
  · rw [trackers]
    exact other
  · intro off
    have disabled := State.trackerTransition_disabled (s := s.modSettings u fun _ => x) (u := u) off
    rw [stored] at disabled
    rw [trackers, former]
    exact disabled
  · intro off running same h pending
    have active : s.trackers[u].state ≠ .idle := fun idle => by
      rw [idle] at running
      exact Bool.false_ne_true running
    rw [if_pos off, if_neg active, pending] at front
    rw [← same]
    exact front
  · intro on independent before
    obtain ⟨⟨became, -, resampler, -⟩, block⟩ :=
      State.trackerTransition_begun (s := s.modSettings u fun _ => x) (u := u) on independent before
    rw [stored] at block
    rw [trackers, former]
    exact ⟨became, resampler, block⟩
  · intro on independent running
    have stays := State.trackerTransition_stays (s := s.modSettings u fun _ => x) (u := u) on independent running
    rw [trackers, former, stays]
    exact ⟨rfl, rfl⟩
  · intro on follower
    obtain ⟨follows, nominal, resampler⟩ :=
      State.trackerTransition_followed (s := s.modSettings u fun _ => x) (u := u) on follower (alone follower)
    rw [trackers, former]
    refine ⟨follows, nominal, fun running => ⟨resampler running, ?_⟩⟩
    rw [if_neg (by rw [on]; exact Bool.noConfusion), if_pos follower, if_pos running] at front
    exact front
  · intro other awake
    have stays := (s.modSettings u fun _ => x).trackerTransition_kept alone ⟨other, awake⟩
    exact (stays.trans (still tap)).of_stored
  · intro off active which makes
    refine (TapStopped.of_stored (u := u) (x := x) ?_).kept (still tap) trackers
    refine State.trackerTransition_stopped off active ?_
    change s.idling u (s.tapTracker tap) = true
    rw [State.idling, makes, Bool.true_and, Bool.or_eq_true, decide_eq_true_iff, decide_eq_true_iff]
    exact which
  · intro on independent idle hits enabled inactive
    rw [former, accounts, tables]
    exact State.trackerTransition_collects (s := s.modSettings u fun _ => x) on independent idle rfl hits enabled inactive
  · intro on follower idle own enabled inactive
    rw [former]
    exact State.trackerTransition_waits (s := s.modSettings u fun _ => x) on follower (alone follower) idle own enabled
      inactive
  · intro on follower running own
    refine ⟨fun idle => ?_, fun awake m present => ?_⟩
    · exact (TapStopped.of_stored (u := u) (x := x) (State.trackerTransition_halts on follower (alone follower) running own
        idle)).kept (still tap) trackers
    · rw [former, accounts, tables]
      exact State.trackerTransition_joins (s := s.modSettings u fun _ => x) on follower (alone follower) running own awake
        present
  · intro on independent follows one own
    rw [former, accounts, tables]
    exact State.trackerTransition_parts (s := s.modSettings u fun _ => x) on independent follows own

end Sys2Proof.Machine
end
